-- ==== Sys2Proof/Word.lean ====
section
/-! DEFINITION. The byte and the 16-bit word of the byte layouts (R45, R187, R192). Every other quantity of the part is
a whole number (00_scope.md section 6, Arithmetic) and is a `Nat` or an `Int`. -/

namespace Sys2Proof

/-- One byte of a telegram, of the configuration record or of the panel line. -/
abbrev Byte := BitVec 8

/-- The CRC register of R45. -/
abbrev Word16 := BitVec 16

end Sys2Proof
end

