-- ==== Sys2Proof/Syntax.lean ====
section
/-! DEFINITION. The commands of the part: one constructor for each row of spec/opcode_table.json, with the operands that
what arrives from outside carries. A command at an instant of its own carries `dt`, the µs of timebase since the command
before it (assumption 2). -/

namespace Sys2Proof

/-- A circuit index 0..4; also the tag of an own claim (R86, R114). Circuit 4 is the saw. -/
inductive Circ where
  | c0
  | c1
  | c2
  | c3
  | c4
deriving DecidableEq, Repr

/-- The blocks that do work at a station tick (R54, R75, R95, R123, R157, R167, R173). -/
inductive TickBlock where
  | telegram
  | neighbour
  | admission
  | circuit
  | saw
  | gate
  | mode
deriving DecidableEq, Repr

/-- The levels at the pins sampled at a station tick: the demand inputs (R116), the saw inputs (R136) and the gate
limits (R162). -/
structure Pins where
  demand0 : Bool
  demand1 : Bool
  demand2 : Bool
  demand3 : Bool
  start : Bool
  stop : Bool
  clutchClosed : Bool
  forwardLimit : Bool
  returnLimit : Bool
  openLimit : Bool
  closedLimit : Bool
deriving DecidableEq, Repr

/-- The two shed stages (R124). -/
inductive Stage where
  | stage1
  | stage2
deriving DecidableEq, Repr

/-- The three address bytes of an autoload attempt, in the order they are sent (R181). -/
inductive AddressByte where
  | deviceForWrite
  | wordAddress
  | deviceForRead
deriving DecidableEq, Repr

/-- The commands, in the order of spec/opcode_table.json. -/
inductive Instr where
  /-- POWER_ON, R180 -/
  | powerOn
  /-- STATION_TICK, R1: the blocks named take the tick now, in that order -/
  | stationTick (blocks : List TickBlock) (pins : Pins)
  /-- ZERO_CROSSING, R3 -/
  | zeroCrossing (dt : Nat)
  /-- ADC_SAMPLE, R7: a sample in volts, before its clamp -/
  | adcSample (volts : Int)
  /-- MISSING_CROSSING_EVENT, R5 -/
  | missingCrossingEvent
  /-- LOCK_ACQUIRED, R12 -/
  | lockAcquired
  /-- LOCK_LOST, R13 -/
  | lockLost
  /-- GOVERNOR_CYCLE_END, R25 -/
  | governorCycleEnd
  /-- CIRCUIT_CYCLE_END, R124 -/
  | circuitCycleEnd
  /-- SAW_CYCLE_END, R144 -/
  | sawCycleEnd
  /-- MODE_CYCLE_END, R171 -/
  | modeCycleEnd
  /-- TELEGRAM_DARK_ENTRY, R68 -/
  | telegramDarkEntry
  /-- NEIGHBOUR_DARK_ENTRY, R82 -/
  | neighbourDarkEntry
  /-- ADMISSION_DARK_ENTRY, R110 -/
  | admissionDarkEntry
  /-- CIRCUIT_DARK_ENTRY, R131 -/
  | circuitDarkEntry
  /-- SAW_DARK_ENTRY, R156 -/
  | sawDarkEntry
  /-- GATE_DARK_ENTRY, R169 -/
  | gateDarkEntry
  /-- CIRCUIT_RUN_ENTRY, R130 -/
  | circuitRunEntry
  /-- GATE_RUN_ENTRY, R161 -/
  | gateRunEntry
  /-- CARRIER_APPEARS, R51 -/
  | carrierAppears (dt : Nat)
  /-- CARRIER_ENDS, R51 -/
  | carrierEnds (dt : Nat)
  /-- QUIET_GAP_EXPIRY, R51 -/
  | quietGapExpiry
  /-- TRANSMISSION_COMPLETE, R53 -/
  | transmissionComplete
  /-- TELEGRAM_ARRIVAL, R61: the bytes that arrive after the delimiter (header, body, check) -/
  | telegramArrival (dt : Nat) (bytes : List Byte)
  /-- RECEIVE_QUALITY_POOR, R63 -/
  | receiveQualityPoor
  /-- NEIGHBOUR_STATUS_HEARD, R71 -/
  | neighbourStatusHeard
  /-- NEIGHBOUR_STALE, R75 -/
  | neighbourStale (station : Nat)
  /-- NEIGHBOUR_AGED_OUT, R75 -/
  | neighbourAgedOut (station : Nat)
  /-- NEIGHBOUR_REMOVED, R109 -/
  | neighbourRemoved
  /-- HAMLET_SHEDDING_RAISED, R99 -/
  | hamletSheddingRaised
  /-- OWN_SHEDDING_RAISED, R99 -/
  | ownSheddingRaised
  /-- HEARD_CLAIM, R106 -/
  | heardClaim
  /-- HEARD_RELEASE, R108 -/
  | heardRelease
  /-- RECALL_HEARD, R175 -/
  | recallHeard
  /-- CREATION_REQUEST, R91 -/
  | creationRequest
  /-- WITHDRAWAL, R105 -/
  | withdrawal
  /-- ADMITTED, R122 -/
  | admitted
  /-- REFUSED, R122 -/
  | refused
  /-- HOLDOFF_EXPIRY, R96 -/
  | holdoffExpiry
  /-- BACKOFF_EXPIRY, R103 -/
  | backoffExpiry (circuit : Circ)
  /-- SETTLE_EXPIRY, R104 -/
  | settleExpiry (circuit : Circ)
  /-- HOLD_EXPIRY, R107 -/
  | holdExpiry (owner tag : Nat)
  /-- CLAIM_COPY_DUE, R57 -/
  | claimCopyDue (tag : Circ)
  /-- RELEASE_COPY_DUE, R59 -/
  | releaseCopyDue (tag : Circ)
  /-- STATUS_INTERVAL_EXPIRY, R54 -/
  | statusIntervalExpiry
  /-- RECALL_DURATION_EXPIRY, R55 -/
  | recallDurationExpiry
  /-- DUPLICATE_TIMER_EXPIRY, R64 -/
  | duplicateTimerExpiry
  /-- GATE_EVALUATION, R163 -/
  | gateEvaluation
  /-- PULSE_END, R167 -/
  | pulseEnd
  /-- PAUSE_EXPIRY, R119 -/
  | pauseExpiry (circuit : Circ)
  /-- STAGE_SHED, R126 -/
  | stageShed (stage : Stage)
  /-- RESTORE, R129 -/
  | restore
  /-- ENGAGE_TIMEOUT, R141 -/
  | engageTimeout
  /-- SPINUP_TIMEOUT, R143 -/
  | spinupTimeout
  /-- READY_TIMEOUT, R152 -/
  | readyTimeout
  /-- RELEASE_TIMEOUT, R153 -/
  | releaseTimeout
  /-- STALL, R147 -/
  | stall
  /-- ADAPTATION_INTERVAL_COMPLETE, R148 -/
  | adaptationIntervalComplete
  /-- SAW_BACKOFF_END, R150 -/
  | sawBackoffEnd
  /-- RECALL_WAIT_EXPIRY, R175 -/
  | recallWaitExpiry
  /-- STAGGER_EXPIRY, R176 -/
  | staggerExpiry
  /-- DARK_MEMORY_EXPIRY, R173 -/
  | darkMemoryExpiry
  /-- STRAP_LATCH, R180: the levels at STRAP 0..4, STRAP 0 the least significant -/
  | strapLatch (straps : BitVec 5)
  /-- ADDRESS_NOT_ACKNOWLEDGED, R181 -/
  | addressNotAcknowledged (dt : Nat) (which : AddressByte)
  /-- AUTOLOAD_RETRY_WAIT_EXPIRY, R181 -/
  | autoloadRetryWaitExpiry
  /-- ATTEMPT_COMPLETE, R182: the 64 bytes read -/
  | attemptComplete (dt : Nat) (bytes : List Byte)
  /-- SUMMARY, R187 -/
  | summary (dt : Nat)
  /-- LINE, R187 -/
  | line (dt : Nat)
  /-- NEIGHBOURS, R85 -/
  | neighbours (dt : Nat)
  /-- CLAIMS, R113 -/
  | claims (dt : Nat)
  /-- CIRCUITS, R135 -/
  | circuits (dt : Nat)
  /-- SAW, R160 -/
  | saw (dt : Nat)
  /-- COUNTERS, R187 -/
  | counters (dt : Nat)
  /-- CLEAR, R188 -/
  | clear (dt : Nat)
  /-- RESTART, R189 -/
  | restart (dt : Nat)
  /-- UNKNOWN_REQUEST, R186: a byte that is not a request code -/
  | unknownRequest (dt : Nat) (byte : Byte)
  /-- PANEL_OVERRUN, R186: a byte that arrives while the port cannot take it -/
  | panelOverrun (dt : Nat) (byte : Byte)
  /-- REPLY_COMPLETE, R186 -/
  | replyComplete
  /-- DELIMITER_FOUND, R60: the bits received up to the last bit of the delimiter -/
  | delimiterFound (dt : Nat) (bits : List Bool)
  /-- TELEGRAM_ABANDONED, R60: the header bytes -/
  | telegramAbandoned (dt : Nat) (bytes : List Byte)
  /-- POWER_LOST, R172 -/
  | powerLost
deriving DecidableEq, Repr

end Sys2Proof
end

