-- ==== Sys2Proof/Config.lean ====
section
/-! DEFINITION. The configuration record in force: one field for every row of the table of section 10.4, and the role
flags. The part has no value that the spec leaves free, so there is no opaque constant here (NOTES.md, assumption 34).
-/

namespace Sys2Proof

/-- The demand type of a switched circuit (R114). -/
inductive DemandType where
  | level
  | edge
deriving DecidableEq, Repr

/-- Five things, one for each circuit 0..4 (R114). -/
structure Five (α : Type) where
  c0 : α
  c1 : α
  c2 : α
  c3 : α
  c4 : α
deriving DecidableEq, Repr

/-- Four things, one for each switched circuit 0..3, or one for each class 0..3. -/
structure Four (α : Type) where
  k0 : α
  k1 : α
  k2 : α
  k3 : α
deriving DecidableEq, Repr

/-- The configuration fields of section 10.4, in their own units, under the names the chapters give them. -/
structure Config where
  /-- Fcfg, mHz -/
  fcfg : Nat
  /-- Vmin, V -/
  vmin : Nat
  /-- k, filter depth -/
  k : Nat
  /-- Na, acquire count -/
  na : Nat
  /-- Nl, loss count -/
  nl : Nat
  kp : Nat
  ki : Nat
  /-- Fover, mHz above Fs -/
  fover : Nat
  /-- Pb, W -/
  pb : Nat
  /-- Vn, V -/
  vn : Nat
  /-- hamlet code -/
  hamlet : Nat
  /-- Ia, ticks -/
  ia : Nat
  /-- Nrep -/
  nrep : Nat
  /-- Eq -/
  eq : Nat
  /-- Trd, ticks -/
  trd : Nat
  /-- Lc, W -/
  lc : Nat
  /-- R, W -/
  reserve : Nat
  /-- Th, ticks -/
  th : Nat
  /-- Ts, ticks -/
  ts : Nat
  /-- Tb, ticks -/
  tb : Nat
  /-- Nf -/
  nf : Nat
  /-- Lr -/
  lr : Nat
  /-- rating of circuits 0..4, W -/
  rating : Five Nat
  /-- class of circuits 0..4 -/
  cls : Five Nat
  /-- demand type of circuits 0..3 -/
  demandType : Four DemandType
  /-- U1, mHz below Fs -/
  u1 : Nat
  /-- U2, mHz below Fs -/
  u2 : Nat
  /-- T1, ticks -/
  t1 : Nat
  /-- T2, ticks -/
  t2 : Nat
  /-- Tq, ticks -/
  tq : Nat
  /-- Tr, ticks -/
  tr : Nat
  /-- Tce, ticks -/
  tce : Nat
  /-- Trel, ticks -/
  trel : Nat
  /-- Msp, mHz below Fs -/
  msp : Nat
  /-- Tsu, ticks -/
  tsu : Nat
  /-- Dsl, mHz below Fs -/
  dsl : Nat
  /-- Dst, mHz below Fs -/
  dst : Nat
  /-- Ff, per-mille -/
  ff : Nat
  /-- Fc, per-mille -/
  fc : Nat
  /-- Rr, per-mille -/
  rr : Nat
  /-- Nst, cycle ends -/
  nst : Nat
  /-- Nad, cycle ends -/
  nad : Nat
  /-- step, per-mille -/
  step : Nat
  /-- Rbk, per-mille -/
  rbk : Nat
  /-- Nbk, cycle ends -/
  nbk : Nat
  /-- Lst -/
  lst : Nat
  /-- Rrt, per-mille -/
  rrt : Nat
  /-- Tready, ticks -/
  tready : Nat
  /-- Ht, per-mille -/
  ht : Nat
  /-- band, per-mille -/
  band : Nat
  /-- Ng -/
  ng : Nat
  /-- Tgi, ticks -/
  tgi : Nat
  /-- Lp, ticks -/
  lp : Nat
  /-- Tdm, ticks -/
  tdm : Nat
  /-- Trw, ticks -/
  trw : Nat
  /-- Tsg, ticks -/
  tsg : Nat
  anchor : Bool
  adopt : Bool
  recallOrigin : Bool
  gateFitted : Bool
  sawFitted : Bool
  keepAdaptation : Bool
deriving DecidableEq, Repr

end Sys2Proof
end

