-- ==== Sys2Proof/Machine/Defaults.lean ====
section
/-! DEFINITION. The default of every configuration field (section 10.4), which the record in force holds from power-on
until the first successful START and throughout HALTED (R180, R184). -/

namespace Sys2Proof.Machine

/-- The defaults of the table of section 10.4, role flags clear. -/
def defaultConfig : Config where
  fcfg := 50000
  vmin := 150
  k := 2
  na := 50
  nl := 3
  kp := 40
  ki := 0
  fover := 1500
  pb := 0
  vn := 230
  hamlet := 1
  ia := 50
  nrep := 3
  eq := 8
  trd := 1000
  lc := 10000
  reserve := 500
  th := 25
  ts := 100
  tb := 50
  nf := 4
  lr := 6
  rating := ⟨0, 0, 0, 0, 0⟩
  cls := ⟨2, 2, 2, 2, 2⟩
  demandType := ⟨.level, .level, .level, .level⟩
  u1 := 700
  u2 := 1500
  t1 := 50
  t2 := 10
  tq := 250
  tr := 500
  tce := 100
  trel := 100
  msp := 300
  tsu := 500
  dsl := 200
  dst := 600
  ff := 300
  fc := 800
  rr := 20
  nst := 5
  nad := 25
  step := 20
  rbk := 250
  nbk := 50
  lst := 3
  rrt := 600
  tready := 3000
  ht := 150
  band := 50
  ng := 6
  tgi := 1500
  lp := 25
  tdm := 30000
  trw := 500
  tsg := 50
  anchor := false
  adopt := false
  recallOrigin := false
  gateFitted := false
  sawFitted := false
  keepAdaptation := false

end Sys2Proof.Machine
end

