-- ==== Sys2Proof/Machine/State.lean ====
section
/-! DEFINITION. The state of the part: every register, timer, count, queue, list and flag that spec/ gives its blocks,
the events one block has handed another, the timebase, and the queue of commands. All of it is plain data. -/

namespace Sys2Proof.Machine

/-- The reasons a step can stop with a fault. -/
inductive Fault where
  /-- Raised by ATTEMPT_COMPLETE when the command brings other than 64 bytes: R181 says a completed attempt always has
  64 bytes in the buffer, so no such event exists. Safe: the model stops where the part has no behaviour (assumption
  18). -/
  | notSixtyFourBytes
deriving DecidableEq, Repr

/-- The reasons a step can be refused. -/
inductive Refusal where
  /-- Raised by a row of the table that has no meaning yet. No row is left so. Safe. -/
  | notModelled (mnemonic : String)
deriving DecidableEq, Repr

/-! ### Modes and classes, in the order in which their chapters list them (R192) -/

/-- The station modes (00_scope.md section 4, R171). -/
inductive Mode where
  | start
  | halted
  | dark
  | recover
  | stagger
  | run
deriving DecidableEq, Repr

/-- The classes of a cycle end (R9). -/
inductive CycleClass where
  | good
  | badRange
  | badVoltage
  | missing
deriving DecidableEq, Repr

/-- The line lock (section 1.7). -/
inductive Lock where
  | lost
  | acquiring
  | locked
  | doubtful
deriving DecidableEq, Repr

/-! ### Line Meter (chapter 1) -/

/-- The Line Record (R15). -/
structure LineRecord where
  cycleCount : Nat
  cls : CycleClass
  period : Option Nat
  freq : Option Nat
  filtered : Nat
  ms : Option Nat
  vrms : Option Nat
  lock : Lock
deriving DecidableEq, Repr

/-- The state of the Line Meter (R17's list). -/
structure Meter where
  /-- µs since the last accepted crossing, R4 -/
  elapsed : Nat
  /-- the silence timer in µs, R5 -/
  silence : Nat
  /-- Σs², R7 -/
  sumSq : Nat
  /-- n, R7 -/
  samples : Nat
  /-- F in mHz, R11 -/
  filtered : Nat
  lock : Lock
  goodRun : Nat
  badRun : Nat
  cycleCount : Nat
  record : LineRecord
  chatter : Nat
  badCycles : Nat
  lockLosses : Nat
deriving DecidableEq, Repr

/-! ### Ballast Governor (chapter 2) -/

/-- The state of the Ballast Governor (section 2.1). -/
structure Governor where
  target : Nat
  /-- Fs -/
  setPoint : Nat
  /-- A -/
  integral : Nat
  /-- D -/
  demand : Nat
  /-- B -/
  burst : Nat
  /-- the ballast switch, true when closed -/
  switch : Bool
  /-- latest W_b -/
  absorbed : Nat
  /-- latest C_b -/
  capacity : Nat
  /-- ΣW_b -/
  sumAbsorbed : Nat
  /-- ΣC_b -/
  sumCapacity : Nat
  /-- the count of the interval sums -/
  sumCount : Nat
  /-- e of the last GOOD cycle end (R38), absent until one follows a start -/
  lastError : Option Int
  overspeedCycles : Nat
deriving DecidableEq, Repr

/-! ### Telegram Controller (chapter 3) -/

/-- The seven flags of a STATUS (R46). -/
structure StatusFlags where
  anchor : Bool
  setPointPresent : Bool
  shedding : Bool
  sawFitted : Bool
  gateFitted : Bool
  recallOrigin : Bool
  stagger : Bool
deriving DecidableEq, Repr

/-- A composed STATUS (R46): the set-point is the field Fs − 40,000; `carriesRecall` says that the recall field is
present. -/
structure StatusBody where
  ballast : Nat
  capacity : Nat
  flags : StatusFlags
  setPointField : Option Nat
  carriesRecall : Bool
deriving DecidableEq, Repr

/-- An entry of the list of other entries of the transmit queue (R48): a copy, by its tag. -/
inductive Copy where
  | claim (tag : Circ)
  | release (tag : Circ)
deriving DecidableEq, Repr

/-- What is in transmission (R50). `live` says that the completion is still reported to a repeat schedule (R58, R59). -/
inductive TxItem where
  | status
  | claim (tag : Circ) (live : Bool)
  | release (tag : Circ) (live : Bool)
deriving DecidableEq, Repr

/-- A telegram in transmission: all its bytes, and the instant at which its last check byte has left the modem. -/
structure Outgoing where
  item : TxItem
  bytes : List Byte
  doneAt : Nat
deriving DecidableEq, Repr

/-- The states of the transmitter (R51). -/
inductive TxState where
  | idle
  | gap
  | carrierWait
  | sending (out : Outgoing)
deriving DecidableEq, Repr

/-- The receiver (R60): closed, or one of its three states with the bytes it has collected. -/
inductive RxState where
  | closed
  | hunt
  | header (got : List Byte)
  | body (header : List Byte) (got : List Byte)
deriving DecidableEq, Repr

/-- A repeat schedule (R57, R59): the copies not yet completed, and, while the next copy waits to become due, the
station ticks since the copy before it completed. -/
structure Schedule where
  left : Nat
  ticks : Option Nat
deriving DecidableEq, Repr

/-- Receive quality (R63). -/
inductive Quality where
  | good
  | poor
deriving DecidableEq, Repr

/-- The state of the Telegram Controller. -/
structure Telegram where
  slot : Option StatusBody
  list : List Copy
  tx : TxState
  /-- the quiet-gap timer in µs, R51; 0 in IDLE and SENDING (DESIGN CHOICE, assumption 44) -/
  gapTimer : Nat
  /-- the carrier-detect indication, R43 -/
  carrier : Bool
  statusCount : Nat
  recallDuration : Nat
  claimSchedules : Five (Option Schedule)
  releaseSchedules : Five (Option Schedule)
  rx : RxState
  qualityCount : Nat
  quality : Quality
  duplicateTimer : Nat
  sent : Nat
  received : Nat
  crcFailures : Nat
  foreignHamlet : Nat
  malformed : Nat
  duplicateStation : Nat
  statusSuperseded : Nat
deriving DecidableEq, Repr

/-! ### Neighbour Table (chapter 4) -/

/-- The condition of a neighbour record (R75). -/
inductive Condition where
  | fresh
  | stale
deriving DecidableEq, Repr

/-- A neighbour record (R70); the set-point is in mHz. -/
structure Neighbour where
  station : Nat
  flags : StatusFlags
  ballast : Nat
  capacity : Nat
  setPoint : Option Nat
  age : Nat
  condition : Condition
deriving DecidableEq, Repr

/-- The state of the Neighbour Table, its records in table order. -/
structure Table where
  records : List Neighbour
  overflow : Nat
deriving DecidableEq, Repr

/-- What a dispatched STATUS carries to the Neighbour Table (R66). -/
structure HeardStatus where
  sender : Nat
  flags : StatusFlags
  ballast : Nat
  capacity : Nat
  setPoint : Option Nat
deriving DecidableEq, Repr

/-! ### Admission Controller (chapter 5) -/

/-- The state of an own claim, with the timer it serves (R87). -/
inductive ClaimState where
  | queued
  | holdoff (remaining : Nat)
  | deferred (remaining : Nat)
  | settling (remaining : Nat)
deriving DecidableEq, Repr

/-- An own claim (R87); its creation order is its place in the list. -/
structure OwnClaim where
  circuit : Circ
  amount : Nat
  cls : Nat
  effective : Nat
  state : ClaimState
  retries : Nat
  restore : Bool
deriving DecidableEq, Repr

/-- A heard claim (R88); its arrival order is its place in the list. -/
structure HeardEntry where
  owner : Nat
  tag : Nat
  amount : Nat
  effective : Nat
  hold : Nat
deriving DecidableEq, Repr

/-- The state of the Admission Controller: the claim list's own entries in the own order, its heard entries in the order
of their arrival, and its counters. -/
structure Admission where
  own : List OwnClaim
  heard : List HeardEntry
  refusals : Nat
  admissions : Nat
  deferrals : Nat
  promotions : Nat
  claimOverflow : Nat
deriving DecidableEq, Repr

/-- A heard CLAIM or RELEASE on its way to the Admission Controller (R66). -/
inductive HeardTelegram where
  | claim (owner tag effective amount hold : Nat)
  | release (owner tag : Nat)
deriving DecidableEq, Repr

/-- A creation request or a withdrawal on its way to the Admission Controller (R91, R105). -/
inductive Request where
  | create (circuit : Circ) (amount cls : Nat) (restore : Bool)
  | withdraw (circuit : Circ)
deriving DecidableEq, Repr

/-- An answer on its way to the Circuit Controller (R90). -/
inductive Answer where
  | admitted (circuit : Circ)
  | refused (circuit : Circ)
deriving DecidableEq, Repr

/-! ### Circuit Controller (chapter 6) -/

/-- The state of a circuit, with the pause remaining in PAUSED (R114). -/
inductive CircuitState where
  | off
  | waiting
  | on
  | shed
  | paused (remaining : Nat)
deriving DecidableEq, Repr

/-- An entry of the circuit table (R114), less the three fields the configuration in force gives. -/
structure Circuit where
  state : CircuitState
  mark : Bool
deriving DecidableEq, Repr

/-- A debouncer (R116). -/
structure Debouncer where
  level : Bool
  run : Nat
deriving DecidableEq, Repr

/-- The values kept at a cycle end (R124). -/
structure Kept where
  filtered : Nat
  lock : Lock
  setPoint : Nat
  demand : Nat
deriving DecidableEq, Repr

/-- The state of the Circuit Controller. -/
structure Circuits where
  table : Five Circuit
  demand : Four Debouncer
  active : Bool
  kept : Option Kept
  stage1 : Bool
  stage2 : Bool
  timer1 : Nat
  timer2 : Nat
  restoreTimer : Nat
  /-- the rotation lists of classes 0..3, R126 -/
  rotation : Four (List Circ)
  sheds1 : Nat
  sheds2 : Nat
  restores : Nat
deriving DecidableEq, Repr

/-! ### Saw Drive (chapter 7) -/

/-- The fault codes (R154), in the order of R192's SAW table. -/
inductive FaultCode where
  | engage
  | release
  | unexpected
deriving DecidableEq, Repr

/-- The saw states (section 7.2), with the timer or the fault code present in each. -/
inductive SawState where
  | idle
  | claiming
  | engaging (remaining : Nat)
  | spinup (remaining : Nat)
  | cutting
  | backoff (remaining : Nat)
  | returning
  | ready (remaining : Nat)
  | stopping (remaining : Nat)
  | fault (code : FaultCode)
deriving DecidableEq, Repr

/-- The state of the Saw Drive. -/
structure Saw where
  state : SawState
  /-- Fb -/
  baseFeed : Nat
  feed : Int
  stallRun : Nat
  stallCount : Nat
  /-- the adaptation interval record, R148 -/
  adaptCount : Nat
  adaptFull : Bool
  adaptLow : Bool
  /-- q and Ft of the last CUTTING cycle end -/
  target : Option (Nat × Nat)
  start : Debouncer
  stop : Debouncer
  clutchClosed : Debouncer
  forwardLimit : Debouncer
  returnLimit : Debouncer
  sawRefused : Nat
  sawFaults : Nat
  stalls : Nat
  sawShedStops : Nat
deriving DecidableEq, Repr

/-! ### Gate Trim (chapter 8) -/

/-- The trim state with the pulse remaining (R161, R165). -/
inductive TrimState where
  | rest
  | raising (remaining : Nat)
  | lowering (remaining : Nat)
deriving DecidableEq, Repr

/-- The last evaluation record (R163). -/
structure Evaluation where
  wsum : Nat
  csum : Nat
  h : Option Nat
  setPoint : Nat
deriving DecidableEq, Repr

/-- The state of Gate Trim. -/
structure Gate where
  state : TrimState
  sinceLast : Nat
  high : Nat
  low : Nat
  openLimit : Debouncer
  closedLimit : Debouncer
  active : Bool
  evaluation : Option Evaluation
  raisePulses : Nat
  lowerPulses : Nat
  pulsesCut : Nat
deriving DecidableEq, Repr

/-! ### Mode Controller (chapter 9) -/

/-- The state of the Mode Controller. -/
structure ModeCtl where
  mode : Mode
  darkDuration : Nat
  recallWait : Option Nat
  stagger : Option Nat
  darkEntries : Nat
  recallsHeard : Nat
  recallTimeouts : Nat
deriving DecidableEq, Repr

/-! ### Start Loader (chapter 10) -/

/-- The autoload status (R180 to R182), in the order of R192's SUMMARY table. -/
inductive AutoloadStatus where
  | notRun
  | reading
  | loaded
  | noAnswer
  | wrongTag
  | badCrc
deriving DecidableEq, Repr

/-- Where the autoload stands (R181): no attempt, an attempt under way, or the wait before the next, with the instant at
which it ends. -/
inductive AutoloadPhase where
  | none
  | attempt
  | waiting (until_ : Nat)
deriving DecidableEq, Repr

/-- What passes on the configuration bus (R181): the conditions that the part sets, a byte that it sends with the
memory's answer, and a byte that it reads with its own answer. -/
inductive BusEvent where
  | start
  | repeatedStart
  | sent (byte : Byte) (acknowledged : Bool)
  | read (byte : Byte) (acknowledged : Bool)
  | stop
deriving DecidableEq, Repr

/-- The state of the Start Loader, less the configuration record in force. -/
structure Loader where
  strapLatch : Nat
  strapDone : Bool
  status : AutoloadStatus
  attempts : Nat
  phase : AutoloadPhase
  /-- what has passed on the configuration bus in the latest attempt, R181 (assumption 19) -/
  bus : List BusEvent
  staging : List Byte
  clampCount : Nat
  /-- the instant of the latest entry to START -/
  enteredAt : Nat
deriving DecidableEq, Repr

/-! ### Panel Port (chapter 11) -/

/-- A reply in progress: its bytes and the instant at which its first byte started (R187). -/
structure Reply where
  bytes : List Byte
  startedAt : Nat
deriving DecidableEq, Repr

/-- The state of the Panel Port; ATTENTION is a function of the state (R190, Outputs.lean). -/
structure Panel where
  pendingRequest : Option Byte
  reply : Option Reply
  overruns : Nat
deriving DecidableEq, Repr

/-! ### Events handed between blocks, and time -/

/-- Which blocks have an entry to DARK still to take (R172). -/
structure DarkEntries where
  telegram : Bool
  neighbour : Bool
  admission : Bool
  circuit : Bool
  saw : Bool
  gate : Bool
deriving DecidableEq, Repr

/-- An evaluation event: the two averages of a composition, and the mode in which the STATUS was composed (R163). -/
structure EvaluationEvent where
  ballast : Nat
  capacity : Nat
  composedIn : Mode
deriving DecidableEq, Repr

/-- The events that one block has handed and another has not yet taken, oldest first (assumption 4). -/
structure Handed where
  /-- Line Records for the four readers, R16 -/
  governorRecords : List LineRecord
  circuitRecords : List LineRecord
  sawRecords : List LineRecord
  modeRecords : List LineRecord
  /-- R66 -/
  statuses : List HeardStatus
  heard : List HeardTelegram
  /-- recall-heard events, R65 -/
  recalls : Nat
  /-- neighbour-removed events, R76 -/
  removed : List Nat
  /-- hamlet-shedding-raised events, R79 -/
  hamletRaised : Nat
  /-- own-shedding-raised events, R124 -/
  ownRaised : Nat
  /-- creation requests and withdrawals, R91 and R105 -/
  requests : List Request
  /-- R90 -/
  answers : List Answer
  /-- R163 -/
  evaluations : List EvaluationEvent
  dark : DarkEntries
  /-- the entry to RUN for the Circuit Controller and for Gate Trim, R177 -/
  circuitRun : Bool
  gateRun : Bool
deriving DecidableEq, Repr

/-- The timebase (R1) in µs since power-on, with the instants of the latest tick and sample. -/
structure Time where
  now : Nat
  lastTick : Nat
  lastSample : Nat
  /-- the blocks that have not yet taken the current tick -/
  tickWaiting : List TickBlock
deriving DecidableEq, Repr

/-- The state of the part. -/
structure State where
  pending : List Instr
  powered : Bool
  time : Time
  meter : Meter
  gov : Governor
  tele : Telegram
  table : Table
  adm : Admission
  circ : Circuits
  saw : Saw
  gate : Gate
  mc : ModeCtl
  loader : Loader
  cfg : Config
  panel : Panel
  handed : Handed
deriving DecidableEq, Repr

/-! ### The state after power-on -/

/-- A debouncer at power-on: deasserted, run 0 (R116, R136, R162). -/
def Debouncer.reset : Debouncer := ⟨false, 0⟩

/-- The start values of the Line Record with the given start value of F (R15). -/
def LineRecord.startValues (f : Nat) : LineRecord where
  cycleCount := 0
  cls := .missing
  period := none
  freq := none
  filtered := f
  ms := none
  vrms := none
  lock := .lost

/-- No event handed. -/
def Handed.reset : Handed where
  governorRecords := []
  circuitRecords := []
  sawRecords := []
  modeRecords := []
  statuses := []
  heard := []
  recalls := 0
  removed := []
  hamletRaised := 0
  ownRaised := 0
  requests := []
  answers := []
  evaluations := []
  dark := ⟨false, false, false, false, false, false⟩
  circuitRun := false
  gateRun := false

/-- The state right after power-on (R180, and R17, R39, R69, R83, R111, R133, R158, R169, R179, R191); the values the
spec does not give are named in assumption 7, the quiet-gap timer's 0 among them (DESIGN CHOICE, unsafe, assumptions 7
and 44); the absent e of the governor is assumption 22, and what the model adds of its own is in assumptions 1, 4 and 8. -/
def State.reset : State where
  pending := []
  powered := true
  time := { now := 0, lastTick := 0, lastSample := 0, tickWaiting := [] }
  meter :=
    { elapsed := 0, silence := 0, sumSq := 0, samples := 0, filtered := 50000, lock := .lost, goodRun := 0, badRun := 0,
      cycleCount := 0, record := LineRecord.startValues 50000, chatter := 0, badCycles := 0, lockLosses := 0 }
  gov :=
    { target := 50000, setPoint := 50000, integral := 0, demand := 0, burst := 0, switch := false, absorbed := 0,
      capacity := 0, sumAbsorbed := 0, sumCapacity := 0, sumCount := 0, lastError := none, overspeedCycles := 0 }
  tele :=
    { slot := none, list := [], tx := .idle, gapTimer := 0, carrier := false, statusCount := 0, recallDuration := 0,
      claimSchedules := ⟨none, none, none, none, none⟩, releaseSchedules := ⟨none, none, none, none, none⟩, rx := .closed,
      qualityCount := 0, quality := .good, duplicateTimer := 0, sent := 0, received := 0, crcFailures := 0,
      foreignHamlet := 0, malformed := 0, duplicateStation := 0, statusSuperseded := 0 }
  table := { records := [], overflow := 0 }
  adm := { own := [], heard := [], refusals := 0, admissions := 0, deferrals := 0, promotions := 0, claimOverflow := 0 }
  circ :=
    { table := ⟨⟨.off, false⟩, ⟨.off, false⟩, ⟨.off, false⟩, ⟨.off, false⟩, ⟨.off, false⟩⟩,
      demand := ⟨.reset, .reset, .reset, .reset⟩, active := false, kept := none, stage1 := false, stage2 := false,
      timer1 := 0, timer2 := 0, restoreTimer := 0, rotation := ⟨[], [], [], []⟩, sheds1 := 0, sheds2 := 0, restores := 0 }
  saw :=
    { state := .idle, baseFeed := 300, feed := 0, stallRun := 0, stallCount := 0, adaptCount := 0, adaptFull := true,
      adaptLow := false, target := none, start := .reset, stop := .reset, clutchClosed := .reset, forwardLimit := .reset,
      returnLimit := .reset, sawRefused := 0, sawFaults := 0, stalls := 0, sawShedStops := 0 }
  gate :=
    { state := .rest, sinceLast := 65535, high := 0, low := 0, openLimit := .reset, closedLimit := .reset, active := false,
      evaluation := none, raisePulses := 0, lowerPulses := 0, pulsesCut := 0 }
  mc :=
    { mode := .start, darkDuration := 0, recallWait := none, stagger := none, darkEntries := 0, recallsHeard := 0,
      recallTimeouts := 0 }
  loader :=
    { strapLatch := 0, strapDone := false, status := .notRun, attempts := 0, phase := .none, bus := [], staging := [],
      clampCount := 0, enteredAt := 0 }
  cfg := defaultConfig
  panel := { pendingRequest := none, reply := none, overruns := 0 }
  handed := Handed.reset

end Sys2Proof.Machine
end

