-- ==== Sys2Proof/Machine/Operands.lean ====
section
/-! DEFINITION. The arithmetic and the operand forms of the rules: indexing by circuit, clamps and saturating counts,
the integer square root, the bytes of the layouts (R192), the CRC of R45, debouncing (R116) and the instants of the
timebase. -/

namespace Sys2Proof

/-- The circuit index as a number 0..4 (R114). -/
def Circ.idx : Circ → Nat
  | .c0 => 0
  | .c1 => 1
  | .c2 => 2
  | .c3 => 3
  | .c4 => 4

/-- The five circuits in ascending index. -/
def Circ.all : List Circ := [.c0, .c1, .c2, .c3, .c4]

/-- The four switched circuits in ascending index (R114). -/
def Circ.switched : List Circ := [.c0, .c1, .c2, .c3]

/-- The thing that belongs to a circuit. -/
def Five.get {α : Type} (v : Five α) : Circ → α
  | .c0 => v.c0
  | .c1 => v.c1
  | .c2 => v.c2
  | .c3 => v.c3
  | .c4 => v.c4

/-- Replace the thing that belongs to a circuit. -/
def Five.set {α : Type} (v : Five α) (c : Circ) (x : α) : Five α :=
  match c with
  | .c0 => { v with c0 := x }
  | .c1 => { v with c1 := x }
  | .c2 => { v with c2 := x }
  | .c3 => { v with c3 := x }
  | .c4 => { v with c4 := x }

/-- The thing with number 0..3; any larger number stands for 3. -/
def Four.get {α : Type} (v : Four α) : Nat → α
  | 0 => v.k0
  | 1 => v.k1
  | 2 => v.k2
  | _ => v.k3

/-- Replace the thing with number 0..3. -/
def Four.set {α : Type} (v : Four α) (n : Nat) (x : α) : Four α :=
  match n with
  | 0 => { v with k0 := x }
  | 1 => { v with k1 := x }
  | 2 => { v with k2 := x }
  | _ => { v with k3 := x }

namespace Machine

/-! ### Numbers (00_scope.md section 6) -/

/-- One more, stopping at 65,535: every event counter, the ages and the dark duration (00_scope.md section 6, R70,
R173). -/
def satInc (n : Nat) : Nat := min 65535 (n + 1)

/-- clamp(x, lo, hi) of 00_scope.md section 6. -/
def clampInt (x lo hi : Int) : Int := if x < lo then lo else if hi < x then hi else x

/-- clamp on whole numbers that are not negative. -/
def clampNat (x lo hi : Nat) : Nat := if x < lo then lo else if hi < x then hi else x

/-- Search upward from `r` for the floor of the square root of `n`. -/
def isqrtFrom : Nat → Nat → Nat → Nat
  | 0, r, _ => r
  | fuel + 1, r, n => if (r + 1) * (r + 1) ≤ n then isqrtFrom fuel (r + 1) n else r

/-- The integer square root of 00_scope.md section 6: the floor of the real square root. -/
def isqrt (n : Nat) : Nat := isqrtFrom n 0 n

/-- The quotient rounded up. -/
def ceilDiv (a b : Nat) : Nat := (a + b - 1) / b

/-- The first instant of a grid of `period` µs that is not before `now` and after `last` (R1, R6). -/
def nextInstant (period last now : Nat) : Nat :=
  if ceilDiv now period * period ≤ last then last + period else ceilDiv now period * period

/-- A sample clamped to −511..+511 V (R6). -/
def clampSample (v : Int) : Int := clampInt v (-511) 511

/-! ### Debouncing -/

/-- One sample into a debouncer (R116, R136, R162). -/
def Debouncer.sample (d : Debouncer) (v : Bool) : Debouncer :=
  if v = d.level then { d with run := 0 }
  else if 3 ≤ d.run + 1 then ⟨v, 0⟩
  else { d with run := d.run + 1 }

/-- The sample changes the debounced level to asserted. -/
def Debouncer.asserts (d : Debouncer) (v : Bool) : Bool := !d.level && (d.sample v).level

/-- The sample changes the debounced level to deasserted. -/
def Debouncer.drops (d : Debouncer) (v : Bool) : Bool := d.level && !(d.sample v).level

/-! ### Bytes, high byte first (R192) -/

/-- The byte of a number. -/
def byteOf (n : Nat) : Byte := BitVec.ofNat 8 n

/-- A two-byte field. -/
def be16 (n : Nat) : List Byte := [byteOf (n / 256), byteOf n]

/-- A three-byte field. -/
def be24 (n : Nat) : List Byte := [byteOf (n / 65536), byteOf (n / 256), byteOf n]

/-- A four-byte field. -/
def be32 (n : Nat) : List Byte := [byteOf (n / 16777216), byteOf (n / 65536), byteOf (n / 256), byteOf n]

/-- A signed two-byte field in two's complement. -/
def beSigned (i : Int) : List Byte := be16 (BitVec.ofInt 16 i).toNat

/-- A flag as 0 or 1. That a flag which fills a whole byte of a panel record (strap-done, hamlet SHEDDING,
claims-pending, the restore flag, the restore mark) is sent as 1 where set and as 0 where clear is the model's choice
(DESIGN CHOICE, unsafe, assumption 43). -/
def bit (b : Bool) : Nat := if b then 1 else 0

/-- An optional one-byte field: 0xFF when absent. -/
def optByte : Option Nat → List Byte
  | some n => [byteOf n]
  | none => [0xFF]

/-- An optional two-byte field: all ones when absent. -/
def opt16 : Option Nat → List Byte
  | some n => be16 n
  | none => [0xFF, 0xFF]

/-- An optional three-byte field: all ones when absent. -/
def opt24 : Option Nat → List Byte
  | some n => be24 n
  | none => [0xFF, 0xFF, 0xFF]

/-- An optional four-byte field: all ones when absent. -/
def opt32 : Option Nat → List Byte
  | some n => be32 n
  | none => [0xFF, 0xFF, 0xFF, 0xFF]

/-- An optional signed field: 0x8000 when absent. -/
def optSigned : Option Int → List Byte
  | some i => beSigned i
  | none => [0x80, 0x00]

/-- The byte at an offset of a record, 0 past its end. -/
def byteAt (bytes : List Byte) (i : Nat) : Nat := (bytes.getD i 0).toNat

/-- The two-byte field at an offset, high byte first. -/
def wordAt (bytes : List Byte) (i : Nat) : Nat := byteAt bytes i * 256 + byteAt bytes (i + 1)

/-! ### The CRC of R45 -/

/-- One shift of the CRC register. -/
def crcShift (r : Word16) : Word16 := if r.msb then (r <<< 1) ^^^ 0x1021#16 else r <<< 1

/-- One byte into the CRC register. -/
def crcByte (r : Word16) (b : Byte) : Word16 :=
  crcShift (crcShift (crcShift (crcShift (crcShift (crcShift (crcShift (crcShift (r ^^^ (b.setWidth 16 <<< 8)))))))))

/-- The CRC of a run of bytes, from 0xFFFF. -/
def crc16 (bytes : List Byte) : Word16 := bytes.foldl crcByte 0xFFFF#16

/-! ### Bits on the wire (R43) -/

/-- The bits of a byte, least significant bit first. -/
def byteBits (b : Byte) : List Bool :=
  [b.getLsbD 0, b.getLsbD 1, b.getLsbD 2, b.getLsbD 3, b.getLsbD 4, b.getLsbD 5, b.getLsbD 6, b.getLsbD 7]

/-- The bits of a run of bytes as they stand on the wire. -/
def wireBits (bytes : List Byte) : List Bool := bytes.flatMap byteBits

/-- The carrier time in µs of `n` bytes at 3,333⅓ µs each, rounded up (R43, R44, assumption 9). -/
def carrierTime (n : Nat) : Nat := ceilDiv (n * 10000) 3

/-- The time in µs of `n` bytes on the panel line at 1,041⅔ µs each, rounded up (R186, assumption 9). -/
def panelTime (n : Nat) : Nat := ceilDiv (n * 3125) 3

/-! ### Telegram bodies (section 11.5) -/

/-- The flags byte of a STATUS. -/
def flagsByte (f : StatusFlags) : Byte :=
  byteOf (bit f.anchor + 2 * bit f.setPointPresent + 4 * bit f.shedding + 8 * bit f.sawFitted + 16 * bit f.gateFitted +
    32 * bit f.recallOrigin + 64 * bit f.stagger)

/-- The flags that a flags byte carries; bit 7 carries none (R70). -/
def flagsOf (b : Byte) : StatusFlags where
  anchor := b.getLsbD 0
  setPointPresent := b.getLsbD 1
  shedding := b.getLsbD 2
  sawFitted := b.getLsbD 3
  gateFitted := b.getLsbD 4
  recallOrigin := b.getLsbD 5
  stagger := b.getLsbD 6

/-- The recall sequence of a hamlet (R56). -/
def recallSequence (hamlet : Nat) : List Byte := List.replicate 3 0xF0 ++ List.replicate 8 (byteOf hamlet)

/-- The bytes of a STATUS body (R46, section 11.5). -/
def statusBytes (hamlet : Nat) (b : StatusBody) : List Byte :=
  be16 b.ballast ++ be16 b.capacity ++ [flagsByte b.flags] ++
    (match b.setPointField with
      | some x => be16 x
      | none => []) ++
    (if b.carriesRecall then recallSequence hamlet else [])

/-- The bytes of a CLAIM body (R47, section 11.5). -/
def claimBytes (tag effective amount hold : Nat) : List Byte :=
  [byteOf tag, byteOf effective] ++ be16 amount ++ be16 hold

/-- A whole telegram (R44): preamble, delimiter, header, body, check. -/
def frame (hamlet kind sender : Nat) (body : List Byte) : List Byte :=
  let checked := [byteOf hamlet, byteOf kind, byteOf sender, byteOf body.length] ++ body
  [0x55, 0x55, 0xC5, 0x3A] ++ checked ++ be16 (crc16 checked).toNat

/-- A run of bytes stands somewhere in another (R65). -/
def standsIn (part : List Byte) : List Byte → Bool
  | [] => part.isEmpty
  | b :: bs => part.isPrefixOf (b :: bs) || standsIn part bs

end Machine
end Sys2Proof
end

