-- ==== Sys2Proof/Machine/Flags.lean ====
section
/-! DEFINITION. The conditions and indications that the rules compute from the state: modes, the lock, the Neighbour
Table's figures, the own SHEDDING flag, the commitment sum, ATTENTION's causes. -/

namespace Sys2Proof.Machine

/-- The modes RECOVER, STAGGER and RUN, in which the station is on the line (R20, R43, R54). -/
def Mode.online : Mode → Bool
  | .recover => true
  | .stagger => true
  | .run => true
  | _ => false

/-- The lock states LOCKED and DOUBTFUL, in which the line is trusted (section 1.7). -/
def Lock.trusted : Lock → Bool
  | .locked => true
  | .doubtful => true
  | _ => false

/-- The Line Meter runs in every mode but START (R2). -/
def State.meterRuns (s : State) : Bool := s.mc.mode != .start

/-- Governing is active at a cycle end (R20). -/
def governs (m : Mode) (l : Lock) : Bool := m.online && l.trusted

/-! ### The Neighbour Table's figures (section 4.4) -/

/-- The record is FRESH. -/
def Neighbour.isFresh (n : Neighbour) : Bool := n.condition == .fresh

/-- The hamlet ballast: the ballast averages of the FRESH records (R78). -/
def Table.ballast (t : Table) : Nat := ((t.records.filter Neighbour.isFresh).map Neighbour.ballast).sum

/-- The hamlet capacity (R78). -/
def Table.capacity (t : Table) : Nat := ((t.records.filter Neighbour.isFresh).map Neighbour.capacity).sum

/-- The hamlet SHEDDING flag: a FRESH record carries SHEDDING (R79). -/
def Table.shedding (t : Table) : Bool := t.records.any fun n => n.isFresh && n.flags.shedding

/-- The record that gives the anchor set-point: the first that is FRESH, carries ANCHOR and holds a set-point (R80). -/
def Table.anchorRecord (t : Table) : Option Neighbour :=
  t.records.find? fun n => n.isFresh && n.flags.anchor && n.setPoint.isSome

/-- The anchor set-point, unclamped (R80). -/
def Table.anchorSetPoint (t : Table) : Option Nat := t.anchorRecord.bind Neighbour.setPoint

/-! ### Claims (chapter 5) -/

/-- The claim is in HOLDOFF. -/
def OwnClaim.inHoldoff (c : OwnClaim) : Bool :=
  match c.state with
  | .holdoff _ => true
  | _ => false

/-- The claim is in SETTLING. -/
def OwnClaim.inSettling (c : OwnClaim) : Bool :=
  match c.state with
  | .settling _ => true
  | _ => false

/-- The claim is QUEUED. -/
def OwnClaim.isQueued (c : OwnClaim) : Bool := c.state == .queued

/-- The commitment sum: the amounts of the own claims in HOLDOFF or SETTLING (R92). -/
def Admission.commitment (a : Admission) : Nat :=
  ((a.own.filter fun c => c.inHoldoff || c.inSettling).map OwnClaim.amount).sum

/-- The claims-pending indication (R112). -/
def Admission.claimsPending (a : Admission) : Bool := a.own.any OwnClaim.inHoldoff || !a.heard.isEmpty

/-- Precedence as an order on effective class, owner and tag (R89). -/
def precedes (x y : Nat × Nat × Nat) : Bool :=
  x.1 < y.1 || (x.1 == y.1 && (x.2.1 < y.2.1 || (x.2.1 == y.2.1 && x.2.2 < y.2.2)))

/-- The precedence key of a heard claim (R89). -/
def HeardEntry.key (h : HeardEntry) : Nat × Nat × Nat := (h.effective, h.owner, h.tag)

/-- The precedence key of an own claim of station `own` (R86, R89). -/
def OwnClaim.key (own : Nat) (c : OwnClaim) : Nat × Nat × Nat := (c.effective, own, c.circuit.idx)

/-! ### Circuits, saw and gate -/

/-- The own SHEDDING flag holds while either stage condition holds (R124). -/
def Circuits.shedding (c : Circuits) : Bool := c.stage1 || c.stage2

/-- The own or the hamlet SHEDDING flag holds (R92, R165, R166). -/
def State.anyShedding (s : State) : Bool := s.circ.shedding || s.table.shedding

/-- The Telegram Controller has taken the entry to DARK that the Admission Controller has still to take (R68, R110,
R172). -/
def State.telegramsWentDark (s : State) : Bool := s.handed.dark.admission && !s.handed.dark.telegram

/-- The Saw Drive works (R137). -/
def State.sawWorks (s : State) : Bool := s.cfg.sawFitted && s.mc.mode != .start && s.mc.mode != .halted

/-- The states in which the drive asks for the clutch (R137). -/
def SawState.asksClutch : SawState → Bool
  | .engaging _ => true
  | .spinup _ => true
  | .cutting => true
  | .backoff _ => true
  | .returning => true
  | .ready _ => true
  | _ => false

/-- The drive is in FAULT (R154). -/
def SawState.isFault : SawState → Bool
  | .fault _ => true
  | _ => false

/-- The trim state is REST (R161). -/
def TrimState.isRest : TrimState → Bool
  | .rest => true
  | _ => false

/-- The transmitter is in GAP (R51). -/
def TxState.isGap : TxState → Bool
  | .gap => true
  | _ => false

/-- The transmitter is SENDING (R51). -/
def TxState.isSending : TxState → Bool
  | .sending _ => true
  | _ => false

/-- The quiet gap G of a station in µs (R51). -/
def quietGap (station : Nat) : Nat := 8000 + 2000 * station

/-- The transmit queue holds an entry (R48). -/
def Telegram.queued (t : Telegram) : Bool := t.slot.isSome || !t.list.isEmpty

/-! ### Thresholds by station number (R125, R129) -/

/-- The stage 1 threshold. -/
def State.threshold1 (s : State) : Nat := s.cfg.t1 + s.loader.strapLatch % 8

/-- The stage 2 threshold. -/
def State.threshold2 (s : State) : Nat := s.cfg.t2 + s.loader.strapLatch % 8

/-- The restore threshold. -/
def State.restoreThreshold (s : State) : Nat := s.cfg.tq + 10 * (s.loader.strapLatch % 8)

/-! ### ATTENTION (R190) -/

/-- The causes of ATTENTION, in the order of the table of R190. -/
structure AttentionCauses where
  halted : Bool
  duplicate : Bool
  poor : Bool
  sawFault : Bool
  clamped : Bool
deriving DecidableEq, Repr

/-- Which causes hold. -/
def State.attentionCauses (s : State) : AttentionCauses where
  halted := s.mc.mode == .halted
  duplicate := 0 < s.tele.duplicateTimer
  poor := s.tele.quality == .poor
  sawFault := s.saw.state.isFault
  clamped := 0 < s.loader.clampCount

/-- The ATTENTION output. -/
def State.attention (s : State) : Bool :=
  s.attentionCauses.halted || s.attentionCauses.duplicate || s.attentionCauses.poor || s.attentionCauses.sawFault ||
    s.attentionCauses.clamped

end Sys2Proof.Machine
end

