-- ==== Sys2Proof/Machine/Ops.lean ====
section
/-! DEFINITION. The named operations that several blocks share: replacing one block's state, the passing of time,
handing an event, and answering a command. -/

namespace Sys2Proof.Machine

/-- The outcome of a command. -/
abbrev Result := Host.Outcome State Fault Refusal

/-! ### Replacing one block's state -/

/-- Replace the timebase. -/
def State.setTime (s : State) (x : Time) : State := { s with time := x }

/-- Replace the Line Meter. -/
def State.setMeter (s : State) (x : Meter) : State := { s with meter := x }

/-- Replace the Ballast Governor. -/
def State.setGov (s : State) (x : Governor) : State := { s with gov := x }

/-- Replace the Telegram Controller. -/
def State.setTele (s : State) (x : Telegram) : State := { s with tele := x }

/-- Replace the Neighbour Table. -/
def State.setTable (s : State) (x : Table) : State := { s with table := x }

/-- Replace the Admission Controller. -/
def State.setAdm (s : State) (x : Admission) : State := { s with adm := x }

/-- Replace the Circuit Controller. -/
def State.setCirc (s : State) (x : Circuits) : State := { s with circ := x }

/-- Replace the Saw Drive. -/
def State.setSaw (s : State) (x : Saw) : State := { s with saw := x }

/-- Replace Gate Trim. -/
def State.setGate (s : State) (x : Gate) : State := { s with gate := x }

/-- Replace the Mode Controller. -/
def State.setMc (s : State) (x : ModeCtl) : State := { s with mc := x }

/-- Replace the Start Loader. -/
def State.setLoader (s : State) (x : Loader) : State := { s with loader := x }

/-- Replace the configuration record in force. -/
def State.setCfg (s : State) (x : Config) : State := { s with cfg := x }

/-- Replace the Panel Port. -/
def State.setPanel (s : State) (x : Panel) : State := { s with panel := x }

/-- Replace the handed events. -/
def State.setHanded (s : State) (x : Handed) : State := { s with handed := x }

/-! ### Answering a command -/

/-- The part does nothing while it has no power (R172, R180); otherwise the command has the effect `t`. -/
def answer (s t : State) : Result := .next (if s.powered then t else s)

/-! ### Time (assumption 2) -/

/-- `dt` µs of timebase pass: the meter's two timers count while the meter runs (R4, R5, R17), the quiet-gap timer
counts in GAP (R51). -/
def elapse (dt : Nat) (s : State) : State :=
  let t := s.setTime { s.time with now := s.time.now + dt }
  let m :=
    if t.meterRuns then
      t.setMeter { t.meter with elapsed := min 65535 (t.meter.elapsed + dt), silence := min 40000 (t.meter.silence + dt) }
    else t
  if m.tele.tx.isGap then m.setTele { m.tele with gapTimer := m.tele.gapTimer + dt } else m

/-- The timebase runs on to an instant, if that instant is still to come. -/
def elapseTo (instant : Nat) (s : State) : State := elapse (instant - s.time.now) s

/-! ### Handing events (assumption 4) -/

/-- Hand a request to the Admission Controller (R91, R105). -/
def handRequest (r : Request) (s : State) : State :=
  s.setHanded { s.handed with requests := s.handed.requests ++ [r] }

/-- Hand an answer to the Circuit Controller (R90). -/
def handAnswer (a : Answer) (s : State) : State :=
  s.setHanded { s.handed with answers := s.handed.answers ++ [a] }

end Sys2Proof.Machine
end

