-- ==== Sys2Proof/Machine/Governor.lean ====
section
/-! DEFINITION. The Ballast Governor (chapter 2): the cycle end of R25, the inactive cycle end of R20, the interval
averages of R36, its starts (R40, R41), and the command GOVERNOR_CYCLE_END. -/

namespace Sys2Proof.Machine

/-- The set-point target chosen at an active GOOD cycle end (R22). -/
def chooseTarget (cfg : Config) (anchor : Option Nat) : Nat :=
  if cfg.adopt && !cfg.anchor then
    match anchor with
    | some sp => clampNat sp 48000 52000
    | none => cfg.fcfg
  else cfg.fcfg

/-- Fs moved toward its target by at most 10 mHz (R23). -/
def slew (setPoint target : Nat) : Nat :=
  if target ≤ setPoint + 10 && setPoint ≤ target + 10 then target
  else if setPoint < target then setPoint + 10
  else setPoint - 10

/-- The error e = F − Fs (R26). -/
def frequencyError (filtered setPoint : Nat) : Int := (filtered : Int) - setPoint

/-- The proportional term Pt (R26). -/
def proportional (kp : Nat) (e : Int) : Int := Int.tdiv ((kp : Int) * e) 16

/-- The integral accumulator A after a GOOD cycle end without overspeed (R27). -/
def integrate (ki : Nat) (a : Nat) (e : Int) : Nat := (clampInt ((a : Int) + (ki : Int) * e) 0 256000).toNat

/-- The integral term It (R27). -/
def integralTerm (a : Nat) : Nat := a / 256

/-- D = clamp(Pt + It, 0, 1000) (R29). -/
def formDemand (pt : Int) (it : Nat) : Nat := (clampInt (pt + it) 0 1000).toNat

/-- Steps 1 to 3 of R25: target, Fs, e, overspeed, A and D at an active GOOD cycle end. -/
def Governor.regulate (cfg : Config) (anchor : Option Nat) (filtered : Nat) (g : Governor) : Governor :=
  let target := chooseTarget cfg anchor
  let fs := slew g.setPoint target
  let e := frequencyError filtered fs
  let g' := { g with target := target, setPoint := fs, lastError := some e }
  if fs + cfg.fover ≤ filtered then
    { g' with demand := 1000, overspeedCycles := satInc g.overspeedCycles }
  else
    let a := integrate cfg.ki g.integral e
    { g' with integral := a, demand := formDemand (proportional cfg.kp e) (integralTerm a) }

/-- The burst accumulator and the switch for the next cycle (R31). -/
def Governor.fire (g : Governor) : Governor :=
  if 1000 ≤ g.burst + g.demand then { g with burst := g.burst + g.demand - 1000, switch := true }
  else { g with burst := g.burst + g.demand, switch := false }

/-- W_b of R33. -/
def absorbedWatts (cfg : Config) (demand ms : Nat) : Nat := cfg.pb * demand * ms / (1000 * (cfg.vn * cfg.vn))

/-- C_b of R33. -/
def capacityWatts (cfg : Config) (ms : Nat) : Nat := cfg.pb * ms / (cfg.vn * cfg.vn)

/-- The watts of a cycle end that is not MISSING, added to the interval sums (R33, R35). -/
def Governor.account (cfg : Config) (ms : Nat) (g : Governor) : Governor :=
  { g with
    absorbed := absorbedWatts cfg g.demand ms
    capacity := capacityWatts cfg ms
    sumAbsorbed := g.sumAbsorbed + absorbedWatts cfg g.demand ms
    sumCapacity := g.sumCapacity + capacityWatts cfg ms
    sumCount := g.sumCount + 1 }

/-- A MISSING cycle end while governing: the switch opens and both latest figures are 0 (R32, R33). -/
def Governor.silent (g : Governor) : Governor := { g with switch := false, absorbed := 0, capacity := 0 }

/-- The effects of an inactive cycle end (R20), which are also those of a RESTART on these figures (R41). -/
def Governor.inactive (g : Governor) : Governor :=
  { g with
    demand := 0
    integral := 0
    burst := 0
    switch := false
    absorbed := 0
    capacity := 0
    sumAbsorbed := 0
    sumCapacity := 0
    sumCount := 0 }

/-- The governor takes a Line Record in a mode (R20, R25). -/
def Governor.take (cfg : Config) (mode : Mode) (anchor : Option Nat) (r : LineRecord) (g : Governor) : Governor :=
  if governs mode r.lock then
    match r.cls with
    | .good => ((g.regulate cfg anchor r.filtered).fire).account cfg (r.ms.getD 0)
    | .missing => g.silent
    | _ => g.fire.account cfg (r.ms.getD 0)
  else g.inactive

/-- An average of the interval: 0 where the count is 0 (R36). -/
def average (sum count : Nat) : Nat := if count = 0 then 0 else sum / count

/-- The interval sums and their count emptied (R36). -/
def Governor.emptied (g : Governor) : Governor := { g with sumAbsorbed := 0, sumCapacity := 0, sumCount := 0 }

/-- Fs and the target set to a start value (R40). -/
def Governor.started (f : Nat) (g : Governor) : Governor :=
  { g with target := f, setPoint := f, lastError := none }

/-- The governor takes the oldest Line Record handed to it. -/
def takeGovernorRecord (s : State) : State :=
  match s.handed.governorRecords with
  | [] => s
  | r :: rest =>
    (s.setGov (s.gov.take s.cfg s.mc.mode s.table.anchorSetPoint r)).setHanded
      { s.handed with governorRecords := rest }

/-- GOVERNOR_CYCLE_END (R25). -/
def execGovernorCycleEnd (s : State) : Result := answer s (takeGovernorRecord s)

end Sys2Proof.Machine
end

