-- ==== Sys2Proof/Machine/Telegrams.lean ====
section
/-! DEFINITION. The Telegram Controller (chapter 3): the transmit queue and the repeat schedules, the transmitter of
R51, STATUS composition (R46), the receiver and its filter (R60 to R66), receive quality (R63), its tick work and its
commands. -/

namespace Sys2Proof.Machine

/-! ### The transmit queue and the transmitter (R48 to R51) -/

/-- A copy joins at the tail of the list (R48). -/
def joinCopy (c : Copy) (s : State) : State := s.setTele { s.tele with list := s.tele.list ++ [c] }

/-- A waiting copy leaves the list (R49). -/
def dropCopy (c : Copy) (s : State) : State := s.setTele { s.tele with list := s.tele.list.filter (· != c) }

/-- GAP from 0 with carrier absent, CARRIER-WAIT with carrier present (R51). -/
def Telegram.startGap (t : Telegram) : Telegram :=
  if t.carrier then { t with tx := .carrierWait, gapTimer := 0 } else { t with tx := .gap, gapTimer := 0 }

/-- The transmitter at the end of an event: IDLE starts its gap where an entry has joined, GAP and CARRIER-WAIT go to
IDLE where the queue is empty when the event is complete (R51); the quiet-gap timer is 0 where R51 gives it no value
(DESIGN CHOICE, assumption 44). -/
def Telegram.settle (t : Telegram) : Telegram :=
  match t.tx with
  | .idle => if t.queued then t.startGap else t
  | .gap => if t.queued then t else { t with tx := .idle, gapTimer := 0 }
  | .carrierWait => if t.queued then t else { t with tx := .idle, gapTimer := 0 }
  | .sending _ => t

/-- `Telegram.settle` on the state: the last step of every event that may change the queue. -/
def settleTx (s : State) : State := s.setTele s.tele.settle

/-- The completion of the CLAIM copy of this tag in transmission is no longer reported (R58). -/
def TxState.orphanClaim (tag : Circ) : TxState → TxState
  | .sending ⟨.claim t live, bytes, doneAt⟩ => .sending ⟨.claim t (live && t != tag), bytes, doneAt⟩
  | tx => tx

/-- The completion of the RELEASE copy of this tag in transmission is no longer reported (R59). -/
def TxState.orphanRelease (tag : Circ) : TxState → TxState
  | .sending ⟨.release t live, bytes, doneAt⟩ => .sending ⟨.release t (live && t != tag), bytes, doneAt⟩
  | tx => tx

/-- The CLAIM repeat schedule of a tag ends and its waiting copy leaves the list (R49, R58). -/
def endClaimSchedule (tag : Circ) (s : State) : State :=
  s.setTele
    { s.tele with
      claimSchedules := s.tele.claimSchedules.set tag none
      list := s.tele.list.filter (· != .claim tag)
      tx := s.tele.tx.orphanClaim tag }

/-- The RELEASE schedule of a tag ends and its waiting copy leaves the list (R49, R59). -/
def endReleaseSchedule (tag : Circ) (s : State) : State :=
  s.setTele
    { s.tele with
      releaseSchedules := s.tele.releaseSchedules.set tag none
      list := s.tele.list.filter (· != .release tag)
      tx := s.tele.tx.orphanRelease tag }

/-- A CLAIM repeat schedule of Nrep copies starts, the first copy joins, and a RELEASE schedule of the tag ends
(R57, R93). -/
def startClaimSchedule (tag : Circ) (s : State) : State :=
  let t := endReleaseSchedule tag s
  joinCopy (.claim tag)
    (t.setTele { t.tele with claimSchedules := t.tele.claimSchedules.set tag (some ⟨s.cfg.nrep, none⟩) })

/-- A RELEASE schedule of two copies starts and the first copy joins (R59, R100, R105). A RELEASE schedule ends at the
entry to DARK (R59, R68): where the Telegram Controller has taken that entry already, while the Admission Controller
still holds the claims that go with it, the schedule ends with its copy at the event at which it starts (DEDUCED,
assumption 35). -/
def startReleaseSchedule (tag : Circ) (s : State) : State :=
  let t := endReleaseSchedule tag s
  if s.telegramsWentDark then t
  else
    joinCopy (.release tag)
      (t.setTele { t.tele with releaseSchedules := t.tele.releaseSchedules.set tag (some ⟨2, none⟩) })

/-! ### STATUS composition (R46, R36, R48, R163) -/

/-- The STATUS that the state composes now (R46). -/
def composedStatus (s : State) : StatusBody where
  ballast := average s.gov.sumAbsorbed s.gov.sumCount
  capacity := average s.gov.sumCapacity s.gov.sumCount
  flags :=
    { anchor := s.cfg.anchor
      setPointPresent := s.cfg.anchor
      shedding := s.circ.shedding
      sawFitted := s.cfg.sawFitted
      gateFitted := s.cfg.gateFitted
      recallOrigin := s.cfg.recallOrigin
      stagger := s.mc.mode == .stagger }
  setPointField := if s.cfg.anchor then some (s.gov.setPoint - 40000) else none
  carriesRecall := 0 < s.tele.recallDuration

/-- Compose a STATUS: it takes the slot, superseding one that waits there; the governor's sums are emptied; the
evaluation event is handed to Gate Trim (R36, R46, R48, R163). -/
def composeStatus (s : State) : State :=
  let b := composedStatus s
  let t :=
    s.setTele
      { s.tele with
        slot := some b
        statusSuperseded := if s.tele.slot.isSome then satInc s.tele.statusSuperseded else s.tele.statusSuperseded }
  (t.setGov t.gov.emptied).setHanded
    { t.handed with
      evaluations := t.handed.evaluations ++ [{ ballast := b.ballast, capacity := b.capacity, composedIn := s.mc.mode }] }

/-- The Telegram Controller takes the entry to RECOVER (R54, R55, R174): the interval count restarts, the receiver
opens, and a recall origin starts its recall duration and composes a STATUS. -/
def telegramRecoverEntry (s : State) : State :=
  let rx := if s.tele.tx.isSending then s.tele.rx else RxState.hunt
  let t := s.setTele { s.tele with statusCount := 0, rx := rx }
  if s.cfg.recallOrigin then
    settleTx (composeStatus (t.setTele { t.tele with recallDuration := s.cfg.trd }))
  else t

/-! ### Transmission (R47, R50, R53) -/

/-- The hold a CLAIM copy carries (R47), for a claim in HOLDOFF or SETTLING. -/
def claimHold (ts : Nat) (c : OwnClaim) : Option Nat :=
  match c.state with
  | .holdoff r => some (r + ts)
  | .settling r => some r
  | _ => none

/-- The body of a CLAIM copy, filled from the claim's record as it stands (R47); none where no claim of the tag is in
HOLDOFF or SETTLING (assumption 15). -/
def claimCopyBody (tag : Circ) (s : State) : Option (List Byte) :=
  (s.adm.own.find? fun c => c.circuit == tag).bind fun c =>
    (claimHold s.cfg.ts c).map fun hold => claimBytes c.circuit.idx c.effective c.amount hold

/-- The transmitter enters SENDING with a telegram; the receiver closes, discarding a partial telegram (R43, R60); the
quiet-gap timer is 0 where R51 gives it no value (DESIGN CHOICE, assumption 44). -/
def send (item : TxItem) (kind : Nat) (body : List Byte) (s : State) : State :=
  let bytes := frame s.cfg.hamlet kind s.loader.strapLatch body
  s.setTele
    { s.tele with
      tx := .sending ⟨item, bytes, s.time.now + carrierTime bytes.length⟩
      gapTimer := 0
      rx := .closed }

/-- The entry chosen from the queue leaves it and starts (R50): the head of the list, or else the STATUS. -/
def startTransmission (s : State) : State :=
  match s.tele.list with
  | .claim tag :: rest =>
    let t := s.setTele { s.tele with list := rest }
    match claimCopyBody tag s with
    | some body => send (.claim tag true) 2 body t
    | none => settleTx t
  | .release tag :: rest => send (.release tag true) 3 [byteOf tag.idx] (s.setTele { s.tele with list := rest })
  | [] =>
    match s.tele.slot with
    | some b => send .status 1 (statusBytes s.cfg.hamlet b) (s.setTele { s.tele with slot := none })
    | none => settleTx s

/-- The quiet-gap timer reaches G (R51): nothing happens outside GAP, or in a mode in which the transmitter is silent
(R43). -/
def gapExpiry (s : State) : State :=
  if s.tele.tx.isGap && s.mc.mode.online then
    startTransmission (elapse (quietGap s.loader.strapLatch - s.tele.gapTimer) s)
  else s

/-- A schedule after a copy of it has completed (R57, R59). -/
def Schedule.completed (sc : Schedule) : Option Schedule := if sc.left ≤ 1 then none else some ⟨sc.left - 1, some 0⟩

/-- The repeat schedules after a completion (R53). -/
def Telegram.reportCompletion (item : TxItem) (t : Telegram) : Telegram :=
  match item with
  | .claim tag true =>
    { t with claimSchedules := t.claimSchedules.set tag ((t.claimSchedules.get tag).bind Schedule.completed) }
  | .release tag true =>
    { t with releaseSchedules := t.releaseSchedules.set tag ((t.releaseSchedules.get tag).bind Schedule.completed) }
  | _ => t

/-- The transmitter after a completion: a fresh gap where the queue holds an entry, otherwise IDLE; the receiver opens
again (R51, R60); the quiet-gap timer is 0 where R51 gives it no value (DESIGN CHOICE, assumption 44). -/
def Telegram.afterSending (t : Telegram) : Telegram :=
  let u := { t with tx := .idle, gapTimer := 0, rx := .hunt }
  if t.queued then u.startGap else u

/-- The last check byte has left the modem (R53); nothing happens in a mode in which the transmission is cut off. -/
def transmissionComplete (s : State) : State :=
  match s.tele.tx with
  | .sending out =>
    if s.mc.mode.online then
      let t := elapseTo out.doneAt s
      t.setTele (({ t.tele with sent := satInc t.tele.sent }.reportCompletion out.item).afterSending)
    else s
  | _ => s

/-! ### The carrier (R51, R60) -/

/-- Carrier appears (R51). -/
def Telegram.carrierUp (t : Telegram) : Telegram :=
  match t.tx with
  | .gap => { t with carrier := true, tx := .carrierWait, gapTimer := 0 }
  | _ => { t with carrier := true }

/-- Carrier ends, for the transmitter (R51). -/
def Telegram.carrierDown (t : Telegram) : Telegram :=
  match t.tx with
  | .carrierWait => { t with carrier := false, tx := .gap, gapTimer := 0 }
  | _ => { t with carrier := false }

/-! ### Receive quality (R63) -/

/-- The receive quality counter is incremented, going no higher than Eq; quality becomes POOR at Eq. -/
def Telegram.qualityDown (eq : Nat) (t : Telegram) : Telegram :=
  { t with
    qualityCount := min eq (t.qualityCount + 1)
    quality := if eq ≤ t.qualityCount + 1 then .poor else t.quality }

/-- The receive quality counter is decremented if above 0; quality becomes GOOD at the decrement that reaches 0. -/
def Telegram.qualityUp (t : Telegram) : Telegram :=
  { t with
    qualityCount := t.qualityCount - 1
    quality := if t.qualityCount = 1 then .good else t.quality }

/-- A telegram that fails step 1 of the filter (R61): bad CRC, length above 24, or cut short. -/
def Telegram.failCheck (eq : Nat) (t : Telegram) : Telegram :=
  { t with crcFailures := satInc t.crcFailures }.qualityDown eq

/-! ### The receive filter (R61, R62, R65, R66) -/

/-- The kind and the body of a telegram are not allowed (R62); `flags` is the fifth body byte of a STATUS. -/
def malformed (kind sender : Nat) (body : List Byte) : Bool :=
  let len := body.length
  let present := (flagsOf (body.getD 4 0)).setPointPresent
  sender == 0 || 31 < sender ||
    (if kind == 1 then
      !(len == 5 || len == 7 || len == 16 || len == 18) || (present && (len == 5 || len == 16)) ||
        (!present && (len == 7 || len == 18))
    else if kind == 2 then len != 6 || 3 < byteAt body 1 || 4 < byteAt body 0
    else if kind == 3 then len != 1 || 4 < byteAt body 0
    else true)

/-- What a STATUS body says (R66). -/
def heardStatus (sender : Nat) (body : List Byte) : HeardStatus where
  sender := sender
  flags := flagsOf (body.getD 4 0)
  ballast := wordAt body 0
  capacity := wordAt body 2
  setPoint := if (flagsOf (body.getD 4 0)).setPointPresent then some (wordAt body 5 + 40000) else none

/-- A good telegram is dispatched by its kind, and a recall sequence in it is handed to the Mode Controller
(R65, R66). -/
def dispatchTelegram (hamlet kind sender : Nat) (body : List Byte) (h : Handed) : Handed :=
  let h := if standsIn (recallSequence hamlet) body then { h with recalls := h.recalls + 1 } else h
  if kind == 1 then { h with statuses := h.statuses ++ [heardStatus sender body] }
  else if kind == 2 then
    { h with heard := h.heard ++ [.claim sender (byteAt body 0) (byteAt body 1) (wordAt body 2) (wordAt body 4)] }
  else { h with heard := h.heard ++ [.release sender (byteAt body 0)] }

/-- A whole telegram passes through the receive filter (R61). -/
def receiveTelegram (header body check : List Byte) (s : State) : State :=
  let hamlet := byteAt header 0
  let kind := byteAt header 1
  let sender := byteAt header 2
  if (crc16 (header ++ body)).toNat != wordAt check 0 then s.setTele (s.tele.failCheck s.cfg.eq)
  else if hamlet != s.cfg.hamlet then s.setTele { s.tele with foreignHamlet := satInc s.tele.foreignHamlet }
  else if malformed kind sender body then
    s.setTele ({ s.tele with malformed := satInc s.tele.malformed }.qualityDown s.cfg.eq)
  else if sender == s.loader.strapLatch then
    s.setTele { s.tele with duplicateStation := satInc s.tele.duplicateStation, duplicateTimer := 500 }
  else
    (s.setTele ({ s.tele with received := satInc s.tele.received }.qualityUp)).setHanded
      (dispatchTelegram s.cfg.hamlet kind sender body s.handed)

/-! ### The receiver (R60) -/

/-- The receiver takes a new state. -/
def setRx (rx : RxState) (s : State) : State := s.setTele { s.tele with rx := rx }

/-- One byte after the delimiter: the header is collected, a length above 24 abandons the telegram, then body and check
are collected, and the last check byte is the arrival (R60). -/
def receiveByte (b : Byte) (s : State) : State :=
  match s.tele.rx with
  | .header got =>
    if got.length + 1 < 4 then setRx (.header (got ++ [b])) s
    else if 24 < b.toNat then setRx .hunt (s.setTele (s.tele.failCheck s.cfg.eq))
    else setRx (.body (got ++ [b]) []) s
  | .body header got =>
    if got.length + 1 < byteAt header 3 + 2 then setRx (.body header (got ++ [b])) s
    else
      setRx .hunt (receiveTelegram header ((got ++ [b]).take (byteAt header 3)) ((got ++ [b]).drop (byteAt header 3)) s)
  | _ => s

/-- A run of bytes into the receiver. Nothing is received outside RECOVER, STAGGER and RUN (R43, R60). -/
def receiveBytes (bytes : List Byte) (s : State) : State :=
  if s.mc.mode.online then bytes.foldl (fun t b => receiveByte b t) s else s

/-- The end of carrier cuts a partial telegram short (R60, R61). -/
def cutShort (s : State) : State :=
  if s.mc.mode.online then
    match s.tele.rx with
    | .header _ => setRx .hunt (s.setTele (s.tele.failCheck s.cfg.eq))
    | .body _ _ => setRx .hunt (s.setTele (s.tele.failCheck s.cfg.eq))
    | _ => s
  else s

/-- The bits of the incoming stream while the receiver hunts: the delimiter at their end, at any bit position, gives
byte alignment (R60). -/
def huntBits (bits : List Bool) (s : State) : State :=
  if s.mc.mode.online && s.tele.carrier && s.tele.rx == .hunt &&
      bits.drop (bits.length - 16) == wireBits [0xC5, 0x3A] then
    setRx (.header []) s
  else s

/-! ### Entry to DARK and RESTART (R68, R69) -/

/-- The effects of entry to DARK on the Telegram Controller, as one event (R68); the quiet-gap timer is 0 where R51
gives it no value (DESIGN CHOICE, assumption 44). -/
def Telegram.goDark (t : Telegram) : Telegram :=
  { t with
    slot := none
    list := []
    tx := .idle
    gapTimer := 0
    statusCount := 0
    recallDuration := 0
    claimSchedules := ⟨none, none, none, none, none⟩
    releaseSchedules := ⟨none, none, none, none, none⟩
    rx := .closed
    qualityCount := 0
    quality := .good }

/-! ### The tick work (R54, R55, R57, R59, R64) -/

/-- The duplicate-station timer at a tick, in every mode (R64). -/
def countDuplicate (s : State) : State := s.setTele { s.tele with duplicateTimer := s.tele.duplicateTimer - 1 }

/-- The recall duration at a tick (R55). -/
def countRecall (s : State) : State := s.setTele { s.tele with recallDuration := s.tele.recallDuration - 1 }

/-- The STATUS interval count at a tick (R54). -/
def countStatus (s : State) : State :=
  if s.cfg.ia ≤ s.tele.statusCount + 1 then composeStatus (s.setTele { s.tele with statusCount := 0 })
  else s.setTele { s.tele with statusCount := s.tele.statusCount + 1 }

/-- The CLAIM repeat schedule of a tag at a tick: the next copy joins at the fifth tick after the last (R57). -/
def countClaimCopy (tag : Circ) (s : State) : State :=
  match s.tele.claimSchedules.get tag with
  | some ⟨left, some t⟩ =>
    if 5 ≤ t + 1 then
      joinCopy (.claim tag)
        (s.setTele { s.tele with claimSchedules := s.tele.claimSchedules.set tag (some ⟨left, none⟩) })
    else s.setTele { s.tele with claimSchedules := s.tele.claimSchedules.set tag (some ⟨left, some (t + 1)⟩) }
  | _ => s

/-- The RELEASE schedule of a tag at a tick (R59). -/
def countReleaseCopy (tag : Circ) (s : State) : State :=
  match s.tele.releaseSchedules.get tag with
  | some ⟨left, some t⟩ =>
    if 5 ≤ t + 1 then
      joinCopy (.release tag)
        (s.setTele { s.tele with releaseSchedules := s.tele.releaseSchedules.set tag (some ⟨left, none⟩) })
    else s.setTele { s.tele with releaseSchedules := s.tele.releaseSchedules.set tag (some ⟨left, some (t + 1)⟩) }
  | _ => s

/-- The Telegram Controller's work at a station tick. The recall duration is counted before the STATUS interval (R55);
copies due at one tick join in ascending tag, CLAIM before RELEASE (assumption 12). -/
def telegramTick (s : State) : State :=
  let a := countDuplicate s
  let b := if s.mc.mode.online then countStatus (countRecall a) else a
  let c := Circ.all.foldl (fun t k => countClaimCopy k t) b
  settleTx (Circ.all.foldl (fun t k => countReleaseCopy k t) c)

/-! ### The commands -/

/-- TELEGRAM_DARK_ENTRY (R68). -/
def execTelegramDarkEntry (s : State) : Result :=
  answer s
    (if s.handed.dark.telegram then
      (s.setTele s.tele.goDark).setHanded { s.handed with dark := { s.handed.dark with telegram := false } }
    else s)

/-- CARRIER_APPEARS (R51). -/
def execCarrierAppears (dt : Nat) (s : State) : Result :=
  let t := elapse dt s
  answer s (t.setTele t.tele.carrierUp)

/-- CARRIER_ENDS (R51, R60). -/
def execCarrierEnds (dt : Nat) (s : State) : Result :=
  let t := cutShort (elapse dt s)
  answer s (t.setTele t.tele.carrierDown)

/-- QUIET_GAP_EXPIRY (R50, R51). -/
def execQuietGapExpiry (s : State) : Result := answer s (gapExpiry s)

/-- TRANSMISSION_COMPLETE (R53). -/
def execTransmissionComplete (s : State) : Result := answer s (transmissionComplete s)

/-- TELEGRAM_ARRIVAL (R60, R61). -/
def execTelegramArrival (dt : Nat) (bytes : List Byte) (s : State) : Result := answer s (receiveBytes bytes (elapse dt s))

/-- TELEGRAM_ABANDONED (R60). -/
def execTelegramAbandoned (dt : Nat) (bytes : List Byte) (s : State) : Result :=
  answer s (receiveBytes bytes (elapse dt s))

/-- DELIMITER_FOUND (R60). -/
def execDelimiterFound (dt : Nat) (bits : List Bool) (s : State) : Result := answer s (huntBits bits (elapse dt s))

/-- RECEIVE_QUALITY_POOR (R63): the increment that brings the counter to Eq (assumption 5). -/
def execReceiveQualityPoor (s : State) : Result :=
  answer s
    (if s.mc.mode.online && s.tele.quality == .good && s.tele.qualityCount + 1 == s.cfg.eq then
      s.setTele (s.tele.qualityDown s.cfg.eq)
    else s)

/-- CLAIM_COPY_DUE (R57): the fifth tick after the last copy completed (assumption 5). -/
def execClaimCopyDue (tag : Circ) (s : State) : Result :=
  answer s
    (if (s.tele.claimSchedules.get tag).bind Schedule.ticks = some 4 then settleTx (countClaimCopy tag s) else s)

/-- RELEASE_COPY_DUE (R59): the fifth tick after the first copy completed (assumption 5). -/
def execReleaseCopyDue (tag : Circ) (s : State) : Result :=
  answer s
    (if (s.tele.releaseSchedules.get tag).bind Schedule.ticks = some 4 then settleTx (countReleaseCopy tag s) else s)

/-- STATUS_INTERVAL_EXPIRY (R54): the count is one tick from Ia (assumption 5). -/
def execStatusIntervalExpiry (s : State) : Result :=
  answer s
    (if s.mc.mode.online && s.tele.statusCount + 1 == s.cfg.ia then settleTx (countStatus s) else s)

/-- RECALL_DURATION_EXPIRY (R55): the duration is one tick from 0 (assumption 5). -/
def execRecallDurationExpiry (s : State) : Result :=
  answer s (if s.mc.mode.online && s.tele.recallDuration == 1 then countRecall s else s)

/-- DUPLICATE_TIMER_EXPIRY (R64): the timer is one tick from 0 (assumption 5). -/
def execDuplicateTimerExpiry (s : State) : Result :=
  answer s (if s.tele.duplicateTimer == 1 then countDuplicate s else s)

end Sys2Proof.Machine
end

