-- ==== Sys2Proof/Machine/Admission.lean ====
section
/-! DEFINITION. The Admission Controller (chapter 5): creation (R91), the queue (R92, R93), the headroom test (R94), the
group decision (R96), deferral (R100 to R103), withdrawal (R105), heard claims (R106 to R109), the tick work of R95 and
its commands. -/

namespace Sys2Proof.Machine

/-! ### The list of own claims -/

/-- Replace the own claims. -/
def setOwn (own : List OwnClaim) (s : State) : State := s.setAdm { s.adm with own := own }

/-- Replace the heard claims. -/
def setHeard (heard : List HeardEntry) (s : State) : State := s.setAdm { s.adm with heard := heard }

/-- The own claim of a circuit (R86). -/
def Admission.ownOf (a : Admission) (k : Circ) : Option OwnClaim := a.own.find? fun c => c.circuit == k

/-- Change the own claim of a circuit, which keeps its place in the own order. -/
def changeOwn (k : Circ) (f : OwnClaim → OwnClaim) (s : State) : State :=
  setOwn (s.adm.own.map fun c => if c.circuit = k then f c else c) s

/-- Remove the own claim of a circuit; the claims behind it close up (R87). -/
def removeOwn (k : Circ) (s : State) : State := setOwn (s.adm.own.filter fun c => c.circuit != k) s

/-! ### The headroom test (R94) -/

/-- S, the spare power. -/
def sparePower (s : State) : Nat :=
  match s.tele.quality with
  | .good => s.gov.absorbed + s.table.ballast
  | .poor => s.gov.absorbed

/-- K, the competing amount in front of the own claim `c`. -/
def competing (s : State) (c : OwnClaim) : Nat :=
  let own := s.loader.strapLatch
  ((s.adm.heard.filter fun h => precedes h.key (c.key own)).map HeardEntry.amount).sum +
    ((s.adm.own.filter OwnClaim.inSettling).map OwnClaim.amount).sum +
    ((s.adm.own.filter fun d => d.inHoldoff && d.circuit != c.circuit && precedes (d.key own) (c.key own)).map
      OwnClaim.amount).sum

/-- The margin S − R − K, a signed number. -/
def margin (s : State) (c : OwnClaim) : Int := (sparePower s : Int) - s.cfg.reserve - competing s c

/-- The headroom test of an own claim. -/
def headroom (s : State) (c : OwnClaim) : Bool := (c.amount : Int) ≤ margin s c

/-! ### Deferral (R100 to R103) -/

/-- The effective class after a deferral that brought the retries to `retries` (R101). -/
def promoted (nf retries effective : Nat) : Nat := if retries % nf = 0 then effective - 1 else effective

/-- The claim after its retries are counted and the promotion applied (steps 1, 4 and 5 of R100), in DEFERRED (R103). -/
def OwnClaim.deferral (cfg : Config) (c : OwnClaim) : OwnClaim :=
  let retries := min 255 (c.retries + 1)
  { c with
    retries := retries
    effective := promoted cfg.nf retries c.effective
    state := .deferred (cfg.tb * retries) }

/-- The deferred claim has exhausted its retries (R102). -/
def OwnClaim.exhausted (lr : Nat) (c : OwnClaim) : Bool := lr != 0 && lr < c.retries && !c.restore

/-- The own claim `c` is deferred, as one event (R100). -/
def deferClaim (c : OwnClaim) (s : State) : State :=
  let d := c.deferral s.cfg
  let t := startReleaseSchedule c.circuit (endClaimSchedule c.circuit s)
  let u :=
    t.setAdm
      { t.adm with
        deferrals := satInc t.adm.deferrals
        promotions := if d.effective < c.effective then satInc t.adm.promotions else t.adm.promotions }
  if d.exhausted s.cfg.lr then
    let v := removeOwn c.circuit u
    handAnswer (.refused c.circuit) (v.setAdm { v.adm with refusals := satInc v.adm.refusals })
  else changeOwn c.circuit (fun _ => d) u

/-- The claim of a circuit is removed without a RELEASE and without an answer, and its CLAIM schedule ends: its settle
has reached 0 (R104), or the mode has left RUN (R110). -/
def settleOut (k : Circ) (s : State) : State := endClaimSchedule k (removeOwn k s)

/-- Each claim of a list is removed so. -/
def settleOutAll : List OwnClaim → State → State
  | [], s => s
  | c :: rest, s => settleOutAll rest (settleOut c.circuit s)

/-- The own claim `c` is admitted (R96). -/
def admitClaim (c : OwnClaim) (s : State) : State :=
  let t := changeOwn c.circuit (fun d => { d with state := .settling s.cfg.ts }) s
  handAnswer (.admitted c.circuit) (t.setAdm { t.adm with admissions := satInc t.adm.admissions })

/-- Apply the outcomes of a group, each claim with its verdict, in the own order (R96; assumption 13). -/
def applyVerdicts : List (OwnClaim × Bool) → State → State
  | [], s => s
  | (c, true) :: rest, s => applyVerdicts rest (admitClaim c s)
  | (c, false) :: rest, s => applyVerdicts rest (deferClaim c s)

/-- The own claims whose holdoff has reached 0. -/
def Admission.expired (a : Admission) : List OwnClaim := a.own.filter fun c => c.state == .holdoff 0

/-- The own claims whose holdoff has reached 0 are tested as one group and then decided (R96). The mode is read as it
stands when the expiry is taken (R98): where it has left RUN, nothing is decided, and the claims are removed as the
entry to DARK removes them (R98, R110; DEDUCED, assumption 37). -/
def decideGroup (s : State) : State :=
  if s.mc.mode = .run then applyVerdicts (s.adm.expired.map fun c => (c, headroom s c)) s
  else settleOutAll s.adm.expired s

/-- Defer each claim of a list, in its order (R97, R99). -/
def deferAll : List OwnClaim → State → State
  | [], s => s
  | c :: rest, s => deferAll rest (deferClaim c s)

/-- A shedding-raised event: every own claim in HOLDOFF is deferred without a test (R99). -/
def sheddingRaised (s : State) : State := settleTx (deferAll (s.adm.own.filter OwnClaim.inHoldoff) s)

/-! ### The queue (R92, R93) -/

/-- The conditions under which the oldest QUEUED claim enters HOLDOFF (R92). -/
def mayAdvance (s : State) (c : OwnClaim) : Bool :=
  s.mc.mode == .run && !s.anyShedding && s.adm.commitment + c.amount ≤ s.cfg.lc

/-- A claim enters HOLDOFF (R93). -/
def enterHoldoff (c : OwnClaim) (s : State) : State :=
  startClaimSchedule c.circuit (changeOwn c.circuit (fun d => { d with state := .holdoff s.cfg.th }) s)

/-- The oldest QUEUED claim. -/
def Admission.oldestQueued (a : Admission) : Option OwnClaim := a.own.find? OwnClaim.isQueued

/-- The queue advance: QUEUED claims enter HOLDOFF oldest first until one fails to advance (R92). `fuel` bounds the
number of claims tried. -/
def advanceQueue : Nat → State → State
  | 0, s => s
  | fuel + 1, s =>
    match s.adm.oldestQueued with
    | none => s
    | some c => if mayAdvance s c then advanceQueue fuel (enterHoldoff c s) else s

/-! ### Requests (R91, R105) -/

/-- The own claim that a creation request makes (R91, case 4). -/
def newClaim (k : Circ) (amount cls : Nat) (restore : Bool) : OwnClaim where
  circuit := k
  amount := amount
  cls := cls
  effective := cls
  state := .queued
  retries := 0
  restore := restore

/-- The Admission Controller takes a creation request; the first case that applies decides (R91). -/
def createClaim (k : Circ) (amount cls : Nat) (restore : Bool) (s : State) : State :=
  if s.mc.mode != .run then s
  else if (s.adm.ownOf k).isSome then s
  else if s.cfg.lc < amount then
    handAnswer (.refused k) (s.setAdm { s.adm with refusals := satInc s.adm.refusals })
  else
    setOwn (s.adm.own ++ [newClaim k amount cls restore]) s

/-- The Admission Controller takes a withdrawal (R105). -/
def withdrawClaim (k : Circ) (s : State) : State :=
  match s.adm.ownOf k with
  | none => s
  | some c =>
    if c.inHoldoff || c.inSettling then
      settleTx (startReleaseSchedule k (endClaimSchedule k (removeOwn k s)))
    else removeOwn k s

/-! ### Heard claims (R97, R106 to R109) -/

/-- The entry has the key (owner, tag). -/
def HeardEntry.hasKey (owner tag : Nat) (h : HeardEntry) : Bool := h.owner == owner && h.tag == tag

/-- The heard entry with a key is removed, if one is held (R106, R108). -/
def removeHeard (owner tag : Nat) (s : State) : State :=
  setHeard (s.adm.heard.filter fun h => !h.hasKey owner tag) s

/-- The own HOLDOFF claims over which a heard entry has precedence are tested as one group, and those that fail are
deferred (R97). -/
def testAgainst (h : HeardEntry) (s : State) : State :=
  settleTx
    (deferAll
      (s.adm.own.filter fun c => c.inHoldoff && precedes h.key (c.key s.loader.strapLatch) && !headroom s c) s)

/-- A heard CLAIM; outside RECOVER, STAGGER and RUN it is discarded, and else the first case that applies decides
(R106). -/
def hearClaim (owner tag effective amount hold : Nat) (s : State) : State :=
  let entry : HeardEntry := { owner := owner, tag := tag, amount := amount, effective := effective, hold := hold }
  if !s.mc.mode.online then s
  else if hold = 0 then removeHeard owner tag s
  else if s.adm.heard.any (HeardEntry.hasKey owner tag) then
    testAgainst entry (setHeard (s.adm.heard.map fun h => if h.hasKey owner tag then entry else h) s)
  else if s.adm.heard.length < 7 then testAgainst entry (setHeard (s.adm.heard ++ [entry]) s)
  else s.setAdm { s.adm with claimOverflow := satInc s.adm.claimOverflow }

/-- A heard RELEASE; discarded outside RECOVER, STAGGER and RUN (R106, R108). -/
def hearRelease (owner tag : Nat) (s : State) : State := if s.mc.mode.online then removeHeard owner tag s else s

/-- A neighbour-removed event: every heard entry of that station is removed (R109). -/
def forgetStation (station : Nat) (s : State) : State :=
  setHeard (s.adm.heard.filter fun h => h.owner != station) s

/-! ### The tick work (R95) -/

/-- Step 1: the holds are counted, and those that reach 0 are removed (R107). -/
def countHolds (s : State) : State :=
  setHeard ((s.adm.heard.map fun h => { h with hold := h.hold - 1 }).filter fun h => h.hold != 0) s

/-- The settle remaining of a claim counted down by one tick. -/
def OwnClaim.settleCounted (c : OwnClaim) : OwnClaim :=
  match c.state with
  | .settling r => { c with state := .settling (r - 1) }
  | _ => c

/-- Step 2: the settles are counted, and those that reach 0 are removed (R104). -/
def countSettles (s : State) : State :=
  let t := setOwn (s.adm.own.map OwnClaim.settleCounted) s
  settleOutAll (t.adm.own.filter fun c => c.state == .settling 0) t

/-- The backoff remaining of a claim counted down by one tick. -/
def OwnClaim.backoffCounted (c : OwnClaim) : OwnClaim :=
  match c.state with
  | .deferred r => { c with state := .deferred (r - 1) }
  | _ => c

/-- The claims of a list whose backoff stands at 0 rejoin QUEUED at the last places, in the order they hold among
themselves (R87, R103). -/
def rejoin (own : List OwnClaim) : List OwnClaim :=
  (own.filter fun c => c.state != .deferred 0) ++
    (own.filter fun c => c.state == .deferred 0).map fun c => { c with state := .queued }

/-- Step 3: the backoffs are counted, and those that reach 0 rejoin QUEUED (R103). -/
def countBackoffs (s : State) : State := setOwn (rejoin (s.adm.own.map OwnClaim.backoffCounted)) s

/-- The holdoff remaining of a claim counted down by one tick. -/
def OwnClaim.holdoffCounted (c : OwnClaim) : OwnClaim :=
  match c.state with
  | .holdoff r => { c with state := .holdoff (r - 1) }
  | _ => c

/-- Step 4: the holdoffs are counted, and the expiries of those that reach 0 are taken (R96). -/
def countHoldoffs (s : State) : State := decideGroup (setOwn (s.adm.own.map OwnClaim.holdoffCounted) s)

/-- The Admission Controller's work at a station tick, in the order of R95. -/
def admissionTick (s : State) : State :=
  let t := countHoldoffs (countBackoffs (countSettles (countHolds s)))
  settleTx (advanceQueue t.adm.own.length t)

/-! ### Entry to DARK and RESTART (R110, R111) -/

/-- The list emptied, own and heard entries alike. -/
def Admission.emptied (a : Admission) : Admission := { a with own := [], heard := [] }

/-- Entry to DARK: each own claim is removed with its CLAIM schedule and waiting copy, no RELEASE is scheduled and no
answer handed (R49, R58, R110). -/
def admissionGoDark (s : State) : State :=
  let t := settleOutAll s.adm.own s
  settleTx (t.setAdm t.adm.emptied)

/-! ### The commands -/

/-- ADMISSION_DARK_ENTRY (R110). -/
def execAdmissionDarkEntry (s : State) : Result :=
  answer s
    (if s.handed.dark.admission then
      admissionGoDark (s.setHanded { s.handed with dark := { s.handed.dark with admission := false } })
    else s)

/-- NEIGHBOUR_REMOVED (R109). -/
def execNeighbourRemoved (s : State) : Result :=
  answer s
    (match s.handed.removed with
    | [] => s
    | n :: rest => forgetStation n (s.setHanded { s.handed with removed := rest }))

/-- HAMLET_SHEDDING_RAISED (R99). -/
def execHamletSheddingRaised (s : State) : Result :=
  answer s
    (if 0 < s.handed.hamletRaised then
      sheddingRaised (s.setHanded { s.handed with hamletRaised := s.handed.hamletRaised - 1 })
    else s)

/-- OWN_SHEDDING_RAISED (R99). -/
def execOwnSheddingRaised (s : State) : Result :=
  answer s
    (if 0 < s.handed.ownRaised then
      sheddingRaised (s.setHanded { s.handed with ownRaised := s.handed.ownRaised - 1 })
    else s)

/-- HEARD_CLAIM (R106, R97): the oldest heard telegram, where it is a CLAIM. -/
def execHeardClaim (s : State) : Result :=
  answer s
    (match s.handed.heard with
    | .claim owner tag effective amount hold :: rest =>
      hearClaim owner tag effective amount hold (s.setHanded { s.handed with heard := rest })
    | _ => s)

/-- HEARD_RELEASE (R108): the oldest heard telegram, where it is a RELEASE. -/
def execHeardRelease (s : State) : Result :=
  answer s
    (match s.handed.heard with
    | .release owner tag :: rest => hearRelease owner tag (s.setHanded { s.handed with heard := rest })
    | _ => s)

/-- CREATION_REQUEST (R91): the oldest request, where it is a creation request. -/
def execCreationRequest (s : State) : Result :=
  answer s
    (match s.handed.requests with
    | .create k amount cls restore :: rest =>
      createClaim k amount cls restore (s.setHanded { s.handed with requests := rest })
    | _ => s)

/-- WITHDRAWAL (R105): the oldest request, where it is a withdrawal. -/
def execWithdrawal (s : State) : Result :=
  answer s
    (match s.handed.requests with
    | .withdraw k :: rest => withdrawClaim k (s.setHanded { s.handed with requests := rest })
    | _ => s)

/-- HOLDOFF_EXPIRY (R96): the own claims one tick from their holdoff expiry reach it together (assumption 5). -/
def execHoldoffExpiry (s : State) : Result :=
  answer s
    (settleTx
      (decideGroup
        (setOwn (s.adm.own.map fun c => if c.state = .holdoff 1 then { c with state := .holdoff 0 } else c) s)))

/-- BACKOFF_EXPIRY (R103): the claim of the circuit is one tick from the end of its backoff (assumption 5). -/
def execBackoffExpiry (circuit : Circ) (s : State) : Result :=
  answer s
    (setOwn
      (rejoin
        (s.adm.own.map fun c =>
          if c.circuit = circuit ∧ c.state = .deferred 1 then { c with state := .deferred 0 } else c)) s)

/-- SETTLE_EXPIRY (R104): the claim of the circuit is one tick from the end of its settle (assumption 5). -/
def execSettleExpiry (circuit : Circ) (s : State) : Result :=
  answer s
    (if (s.adm.ownOf circuit).any fun c => c.state == .settling 1 then settleTx (settleOut circuit s) else s)

/-- HOLD_EXPIRY (R107): the heard entry with the key is one tick from the end of its hold (assumption 5). -/
def execHoldExpiry (owner tag : Nat) (s : State) : Result :=
  answer s (setHeard (s.adm.heard.filter fun h => !(h.hasKey owner tag && h.hold == 1)) s)

end Sys2Proof.Machine
end

