-- ==== Sys2Proof/Machine/CircuitTable.lean ====
section
/-! DEFINITION. The circuit table (R114) and the exchanges on circuit 4 that the Saw Drive and the Circuit Controller
make at one event (R121, R138). -/

namespace Sys2Proof.Machine

/-- The state of a circuit. -/
def State.circuitState (s : State) (k : Circ) : CircuitState := (s.circ.table.get k).state

/-- The configured rating of a circuit; 0 means not fitted (R114). -/
def State.rating (s : State) (k : Circ) : Nat := s.cfg.rating.get k

/-- The configured class of a circuit. -/
def State.classOf (s : State) (k : Circ) : Nat := s.cfg.cls.get k

/-- A circuit takes a new state; its contactor, or the CLUTCH gate, follows at the same event (R115). -/
def setCircuitState (k : Circ) (st : CircuitState) (s : State) : State :=
  s.setCirc { s.circ with table := s.circ.table.set k { s.circ.table.get k with state := st } }

/-- A circuit's restore mark takes a new value. -/
def setMark (k : Circ) (m : Bool) (s : State) : State :=
  s.setCirc { s.circ with table := s.circ.table.set k { s.circ.table.get k with mark := m } }

/-- A circuit becomes WAITING and a creation request is handed for it (R91, R118). -/
def toWaiting (k : Circ) (restore : Bool) (s : State) : State :=
  handRequest (.create k (s.rating k) (s.classOf k) restore) (setCircuitState k .waiting s)

/-- A circuit goes OFF and a withdrawal is handed for it (R105, R118). -/
def toOffWithdrawing (k : Circ) (s : State) : State := handRequest (.withdraw k) (setCircuitState k .off s)

/-- A raise on circuit 4 would be answered REFUSED at once: the controller is not active, the mode is not RUN, or
circuit 4 has no rating (R121, R139, R156). -/
def raiseRefused (s : State) : Bool :=
  !s.circ.active || s.mc.mode != .run || (s.circuitState .c4 == .off && s.rating .c4 == 0)

/-- The Circuit Controller takes a raise on circuit 4 that it does not refuse (R121). -/
def raiseCircuit4 (s : State) : State :=
  match s.circuitState .c4 with
  | .off => toWaiting .c4 false s
  | _ => s

/-- The Circuit Controller takes the Saw Drive's withdrawal of circuit 4 (R121). -/
def withdrawCircuit4 (s : State) : State :=
  if s.circ.active then
    match s.circuitState .c4 with
    | .waiting => toOffWithdrawing .c4 s
    | .on => toOffWithdrawing .c4 s
    | _ => s
  else s

end Sys2Proof.Machine
end

