-- ==== Sys2Proof/Machine/SawDrive.lean ====
section
/-! DEFINITION. The Saw Drive (chapter 7): the transitions of its ten states, its tick work (R157), its cycle end (R143,
R144, R150), the lost line (R156), its starts (R158), and its commands. -/

namespace Sys2Proof.Machine

/-! ### The transitions (R139 to R154) -/

/-- The adaptation interval record emptied and the target dropped (R147, R149). -/
def Saw.cleared (w : Saw) : Saw := { w with adaptCount := 0, adaptFull := true, adaptLow := false, target := none }

/-- The drive enters IDLE. -/
def enterIdle (s : State) : State := s.setSaw { s.saw with state := .idle, feed := 0 }

/-- The drive enters FAULT with a code, and SAW FAULTS is counted (R154, R159). -/
def enterFault (code : FaultCode) (s : State) : State :=
  s.setSaw { s.saw with state := .fault code, feed := 0, sawFaults := satInc s.saw.sawFaults }

/-- Entry to STOPPING (R153): the feed is 0, circuit 4 is withdrawn, and where the clutch is already open the drive
enters IDLE at the same event. -/
def enterStopping (s : State) : State :=
  let t := withdrawCircuit4 (s.setSaw { s.saw.cleared with state := .stopping s.cfg.trel, feed := 0 })
  if t.saw.clutchClosed.level then t else enterIdle t

/-- Entry to SPINUP, as a new pass or continuing the pass (R142). -/
def enterSpinup (newPass : Bool) (s : State) : State :=
  s.setSaw
    { s.saw with
      state := .spinup s.cfg.tsu
      feed := 0
      target := none
      baseFeed := if newPass && !s.cfg.keepAdaptation then s.cfg.ff else s.saw.baseFeed
      stallCount := if newPass then 0 else s.saw.stallCount }

/-- Entry to READY (R152). -/
def enterReady (s : State) : State := s.setSaw { s.saw with state := .ready s.cfg.tready, feed := 0 }

/-- Entry to RETURNING; where RETURN LIMIT already stands asserted the drive goes on to READY (R149, R151). -/
def enterReturning (s : State) : State :=
  let t := s.setSaw { s.saw.cleared with state := .returning, feed := -(s.cfg.rrt : Int) }
  if t.saw.returnLimit.level then enterReady t else t

/-- Entry to CUTTING; where FORWARD LIMIT already stands asserted the drive goes on to RETURNING (R143, R149). -/
def enterCutting (s : State) : State :=
  let t := s.setSaw { s.saw.cleared with state := .cutting, feed := 0, stallRun := 0 }
  if t.saw.forwardLimit.level then enterReturning t else t

/-- The backoff ends: RETURNING where the stall count has reached Lst, SPINUP otherwise (R150). -/
def endBackoff (s : State) : State :=
  if s.cfg.lst ≤ s.saw.stallCount then enterReturning s else enterSpinup false s

/-- Entry to BACKOFF (R147); where RETURN LIMIT already stands asserted it ends at the same event (R150). -/
def enterBackoff (s : State) : State :=
  let t :=
    s.setSaw
      { s.saw.cleared with
        state := .backoff s.cfg.nbk
        feed := -(s.cfg.rbk : Int)
        baseFeed := max (s.saw.baseFeed - 2 * s.cfg.step) s.cfg.ff
        stallCount := s.saw.stallCount + 1
        stalls := satInc s.saw.stalls }
  if t.saw.returnLimit.level then endBackoff t else t

/-! ### The input events (R139 to R154) -/

/-- CLUTCH CLOSED becomes asserted (R139, R140, R141; assumption 11 for IDLE). -/
def clutchAsserted (s : State) : State :=
  match s.saw.state with
  | .idle => enterFault .unexpected s
  | .claiming => enterFault .unexpected (withdrawCircuit4 s)
  | .engaging _ => enterSpinup true s
  | _ => s

/-- CLUTCH CLOSED becomes deasserted (R143, R149 to R153). -/
def clutchDropped (s : State) : State :=
  match s.saw.state with
  | .spinup _ => enterStopping s
  | .cutting => enterStopping s
  | .backoff _ => enterStopping s
  | .returning => enterStopping s
  | .ready _ => enterStopping s
  | .stopping _ => enterIdle s
  | _ => s

/-- RETURN LIMIT becomes asserted (R150, R151). -/
def returnAsserted (s : State) : State :=
  match s.saw.state with
  | .backoff _ => endBackoff s
  | .returning => enterReady s
  | _ => s

/-- FORWARD LIMIT becomes asserted (R149). -/
def forwardAsserted (s : State) : State :=
  match s.saw.state with
  | .cutting => enterReturning s
  | _ => s

/-- STOP pressed (R140, R141, R143, R149 to R152, R154). -/
def stopPressed (s : State) : State :=
  match s.saw.state with
  | .claiming => enterIdle (withdrawCircuit4 s)
  | .engaging _ => enterStopping s
  | .spinup _ => enterStopping s
  | .cutting => enterStopping s
  | .backoff _ => enterStopping s
  | .returning => enterStopping s
  | .ready _ => enterStopping s
  | .fault _ => if s.saw.clutchClosed.level then s else enterIdle s
  | _ => s

/-- START pressed (R139, R152); in IDLE in any mode but RUN it is REFUSED at once and counted (R139, R156). -/
def startPressed (s : State) : State :=
  match s.saw.state with
  | .idle =>
    if raiseRefused s then s.setSaw { s.saw with sawRefused := satInc s.saw.sawRefused }
    else raiseCircuit4 (s.setSaw { s.saw with state := .claiming })
  | .ready _ => enterSpinup true s
  | _ => s

/-! ### The tick work (R136, R157) -/

/-- The five debouncers take a sample (R136). -/
def sampleSaw (p : Pins) (s : State) : State :=
  s.setSaw
    { s.saw with
      start := s.saw.start.sample p.start
      stop := s.saw.stop.sample p.stop
      clutchClosed := s.saw.clutchClosed.sample p.clutchClosed
      forwardLimit := s.saw.forwardLimit.sample p.forwardLimit
      returnLimit := s.saw.returnLimit.sample p.returnLimit }

/-- Take an input event where it has occurred. -/
def onEvent (occurred : Bool) (f : State → State) (s : State) : State := if occurred then f s else s

/-- Step 1 of R157: the inputs are debounced, and their events taken in the order CLUTCH CLOSED, RETURN LIMIT, FORWARD
LIMIT, STOP, START. -/
def sawInputs (p : Pins) (s : State) : State :=
  let w := s.saw
  sampleSaw p s
    |> onEvent (w.clutchClosed.asserts p.clutchClosed) clutchAsserted
    |> onEvent (w.clutchClosed.drops p.clutchClosed) clutchDropped
    |> onEvent (w.returnLimit.asserts p.returnLimit) returnAsserted
    |> onEvent (w.forwardLimit.asserts p.forwardLimit) forwardAsserted
    |> onEvent (w.stop.asserts p.stop) stopPressed
    |> onEvent (w.start.asserts p.start) startPressed

/-- Step 2 of R157: in IDLE the standing level of CLUTCH CLOSED is tested (R139). -/
def testIdleClutch (s : State) : State :=
  if s.saw.state = .idle ∧ s.saw.clutchClosed.level = true then enterFault .unexpected s else s

/-- Engage remaining counted down by one tick (R141). -/
def countEngage (r : Nat) (s : State) : State :=
  if r ≤ 1 then enterFault .engage (withdrawCircuit4 s) else s.setSaw { s.saw with state := .engaging (r - 1) }

/-- Spin-up remaining counted down by one tick (R143). -/
def countSpinup (r : Nat) (s : State) : State :=
  if r ≤ 1 then enterStopping s else s.setSaw { s.saw with state := .spinup (r - 1) }

/-- Ready remaining counted down by one tick (R152). -/
def countReady (r : Nat) (s : State) : State :=
  if r ≤ 1 then enterStopping s else s.setSaw { s.saw with state := .ready (r - 1) }

/-- Release remaining counted down by one tick (R153). -/
def countRelease (r : Nat) (s : State) : State :=
  if r ≤ 1 then enterFault .release s else s.setSaw { s.saw with state := .stopping (r - 1) }

/-- Step 3 of R157: the timer of the state is counted down. -/
def countSawTimer (s : State) : State :=
  match s.saw.state with
  | .engaging r => countEngage r s
  | .spinup r => countSpinup r s
  | .ready r => countReady r s
  | .stopping r => countRelease r s
  | _ => s

/-- The Saw Drive's work at a station tick (R157); while it is held only the debouncers work (R137). -/
def sawTick (p : Pins) (s : State) : State :=
  if s.sawWorks then countSawTimer (testIdleClutch (sawInputs p s)) else sampleSaw p s

/-! ### The cycle end (R143 to R148, R150) -/

/-- m of R145. -/
def sawMargin (cfg : Config) (setPoint filtered : Nat) : Int := (filtered : Int) - ((setPoint : Int) - cfg.dst)

/-- q of R145. -/
def feedFraction (cfg : Config) (m : Int) : Nat :=
  if (cfg.dst : Int) - cfg.dsl ≤ m then 1000
  else if m ≤ 0 then 0
  else (Int.tdiv (1000 * m) ((cfg.dst : Int) - cfg.dsl)).toNat

/-- Fb adapted from a complete interval (R148). -/
def adaptedFeed (cfg : Config) (full low : Bool) (fb : Nat) : Nat :=
  if full then min (fb + cfg.step) cfg.fc else if low then max (fb - cfg.step) cfg.ff else fb

/-- The interval is complete: Fb is adapted and the record emptied (R148). -/
def Saw.completeInterval (cfg : Config) (w : Saw) : Saw :=
  { w with
    baseFeed := adaptedFeed cfg w.adaptFull w.adaptLow w.baseFeed
    adaptCount := 0
    adaptFull := true
    adaptLow := false }

/-- Step 2 of R144: q is added to the adaptation interval record. -/
def Saw.addFraction (cfg : Config) (q : Nat) (w : Saw) : Saw :=
  let v :=
    { w with
      adaptCount := w.adaptCount + 1
      adaptFull := w.adaptFull && q == 1000
      adaptLow := w.adaptLow || q < 500 }
  if cfg.nad ≤ v.adaptCount then v.completeInterval cfg else v

/-- The feed command moved toward its target (R146). -/
def moveFeed (rr : Nat) (feed : Int) (ft : Nat) : Int := if feed < ft then min (feed + rr) ft else ft

/-- Step 3 of R144: the target and the feed command. -/
def Saw.regulateFeed (cfg : Config) (q : Nat) (w : Saw) : Saw :=
  let ft := w.baseFeed * q / 1000
  { w with feed := moveFeed cfg.rr w.feed ft, target := some (q, ft) }

/-- A cycle end in CUTTING (R144). -/
def cuttingCycle (filtered : Nat) (s : State) : State :=
  let m := sawMargin s.cfg s.gov.setPoint filtered
  let q := feedFraction s.cfg m
  let w := (s.saw.addFraction s.cfg q).regulateFeed s.cfg q
  let run := if m ≤ 0 then w.stallRun + 1 else 0
  let t := s.setSaw { w with stallRun := run }
  if s.cfg.nst ≤ run then enterBackoff t else t

/-- A cycle end in BACKOFF (R150). -/
def backoffCycle (r : Nat) (s : State) : State :=
  if r ≤ 1 then endBackoff s else s.setSaw { s.saw with state := .backoff (r - 1) }

/-- The drive learns of the lost line (R156). -/
def sawLineLost (s : State) : State :=
  match s.saw.state with
  | .claiming => enterIdle (withdrawCircuit4 s)
  | .engaging _ => enterStopping s
  | .spinup _ => enterStopping s
  | .cutting => enterStopping s
  | .backoff _ => enterStopping s
  | .returning => enterStopping s
  | .ready _ => enterStopping s
  | _ => s

/-- The drive takes a Line Record (R143, R144, R150, R156). -/
def sawRecord (r : LineRecord) (s : State) : State :=
  if !s.sawWorks then s
  else if r.lock = .lost then sawLineLost s
  else
    match s.saw.state with
    | .spinup _ => if s.gov.setPoint ≤ r.filtered + s.cfg.msp then enterCutting s else s
    | .cutting => cuttingCycle r.filtered s
    | .backoff n => backoffCycle n s
    | _ => s

/-! ### Answers, the shed, and the starts (R138, R140, R155, R158) -/

/-- The drive takes ADMITTED (R140). -/
def sawAdmitted (s : State) : State :=
  match s.saw.state with
  | .claiming => s.setSaw { s.saw with state := .engaging s.cfg.tce }
  | _ => s

/-- The drive takes REFUSED (R140). -/
def sawRefused (s : State) : State :=
  match s.saw.state with
  | .claiming => enterIdle (s.setSaw { s.saw with sawRefused := satInc s.saw.sawRefused })
  | _ => s

/-- The drive takes a circuit-4-shed event (R155). -/
def sawShed (s : State) : State :=
  if s.saw.state.asksClutch then
    enterStopping (s.setSaw { s.saw with sawShedStops := satInc s.saw.sawShedStops })
  else s

/-- The values a RESTART gives the drive (R158). -/
def Saw.restarted (ff : Nat) (w : Saw) : Saw :=
  { w.cleared with state := .idle, feed := 0, baseFeed := ff, stallRun := 0, stallCount := 0 }

/-- The drive takes a RESTART: where it holds circuit 4 it withdraws it (R158). -/
def restartSaw (s : State) : State :=
  let t := if s.saw.state.asksClutch || s.saw.state == .claiming then withdrawCircuit4 s else s
  t.setSaw (t.saw.restarted t.cfg.ff)

/-! ### The commands -/

/-- SAW_CYCLE_END (R144): the oldest Line Record handed to the drive. -/
def execSawCycleEnd (s : State) : Result :=
  answer s
    (match s.handed.sawRecords with
    | [] => s
    | r :: rest => sawRecord r (s.setHanded { s.handed with sawRecords := rest }))

/-- SAW_DARK_ENTRY (R156). -/
def execSawDarkEntry (s : State) : Result :=
  answer s
    (if s.handed.dark.saw then
      let t := s.setHanded { s.handed with dark := { s.handed.dark with saw := false } }
      if t.sawWorks then sawLineLost t else t
    else s)

/-- ENGAGE_TIMEOUT (R141): engage remaining is one tick from 0 (assumption 5). -/
def execEngageTimeout (s : State) : Result :=
  answer s (if s.sawWorks && s.saw.state == .engaging 1 then countEngage 1 s else s)

/-- SPINUP_TIMEOUT (R143): spin-up remaining is one tick from 0 (assumption 5). -/
def execSpinupTimeout (s : State) : Result :=
  answer s (if s.sawWorks && s.saw.state == .spinup 1 then countSpinup 1 s else s)

/-- READY_TIMEOUT (R152): ready remaining is one tick from 0 (assumption 5). -/
def execReadyTimeout (s : State) : Result :=
  answer s (if s.sawWorks && s.saw.state == .ready 1 then countReady 1 s else s)

/-- RELEASE_TIMEOUT (R153): release remaining is one tick from 0 (assumption 5). -/
def execReleaseTimeout (s : State) : Result :=
  answer s (if s.sawWorks && s.saw.state == .stopping 1 then countRelease 1 s else s)

/-- STALL (R147): the stall run is one cycle end from Nst (assumption 5). -/
def execStall (s : State) : Result :=
  answer s
    (if s.sawWorks && s.saw.state == .cutting && s.saw.stallRun + 1 == s.cfg.nst then
      enterBackoff (s.setSaw { s.saw with stallRun := s.saw.stallRun + 1 })
    else s)

/-- The interval completes by itself: a lowering of Fb takes the feed command down with it (R146, R148). -/
def Saw.adaptNow (cfg : Config) (w : Saw) : Saw :=
  let v := w.completeInterval cfg
  { v with feed := min v.feed v.baseFeed }

/-- ADAPTATION_INTERVAL_COMPLETE (R148): the count is one cycle end from Nad, and the flags are taken as they stand
(assumption 33). -/
def execAdaptationIntervalComplete (s : State) : Result :=
  answer s
    (if s.sawWorks && s.saw.state == .cutting && s.saw.adaptCount + 1 == s.cfg.nad then
      s.setSaw (s.saw.adaptNow s.cfg)
    else s)

/-- SAW_BACKOFF_END (R150): backoff remaining is one cycle end from 0 (assumption 5). -/
def execSawBackoffEnd (s : State) : Result :=
  answer s (if s.sawWorks && s.saw.state == .backoff 1 then endBackoff s else s)

end Sys2Proof.Machine
end

