-- ==== Sys2Proof/Machine/CircuitControl.lean ====
section
/-! DEFINITION. The Circuit Controller (chapter 6): demand (R118 to R121), answers (R122), the shed stages (R124 to
R128), the restore (R129), entry to RUN and the end of the active span (R130, R131), its tick work (R123) and its
commands. -/

namespace Sys2Proof.Machine

/-! ### Demand (R118 to R120, R132) -/

/-- The debounced demand of a switched circuit. -/
def State.demandLevel (s : State) (k : Circ) : Bool := (s.circ.demand.get k.idx).level

/-- The demand type of a switched circuit. -/
def State.demandType (s : State) (k : Circ) : DemandType := s.cfg.demandType.get k.idx

/-- A LEVEL circuit's demand asserted, while active (R118). -/
def levelAsserted (k : Circ) (s : State) : State :=
  match s.circuitState k with
  | .off => toWaiting k false s
  | _ => s

/-- A LEVEL circuit's demand dropped, while active (R118). -/
def levelDropped (k : Circ) (s : State) : State :=
  match s.circuitState k with
  | .waiting => toOffWithdrawing k s
  | .on => toOffWithdrawing k s
  | .shed => setCircuitState k .off s
  | _ => s

/-- An EDGE circuit's edge, while active (R120). -/
def edgePressed (k : Circ) (s : State) : State :=
  match s.circuitState k with
  | .off => toWaiting k false s
  | .waiting => toOffWithdrawing k s
  | .on => toOffWithdrawing k s
  | .shed => setCircuitState k .off s
  | .paused _ => s

/-- A demand event of a switched circuit: not acted on where the rating is 0 (R114); while not active only an edge of an
EDGE circuit acts, clearing its mark (R132). -/
def demandEvent (k : Circ) (asserted : Bool) (s : State) : State :=
  if s.rating k = 0 then s
  else
    match s.demandType k, asserted with
    | .level, true => if s.circ.active then levelAsserted k s else s
    | .level, false => if s.circ.active then levelDropped k s else s
    | .edge, true => if s.circ.active then edgePressed k s else setMark k false s
    | .edge, false => s

/-- The four demand debouncers take a sample (R116). -/
def sampleDemand (p : Pins) (s : State) : State :=
  s.setCirc
    { s.circ with
      demand :=
        { k0 := s.circ.demand.k0.sample p.demand0
          k1 := s.circ.demand.k1.sample p.demand1
          k2 := s.circ.demand.k2.sample p.demand2
          k3 := s.circ.demand.k3.sample p.demand3 } }

/-- The demand event of one circuit at this tick, if its debouncer `d` changes at the sample `v`. -/
def takeDemand (k : Circ) (d : Debouncer) (v : Bool) (s : State) : State :=
  if d.asserts v then demandEvent k true s else if d.drops v then demandEvent k false s else s

/-- Step 1 of R123: the inputs are debounced and their events taken in ascending circuit index. -/
def demandStep (p : Pins) (s : State) : State :=
  let d := s.circ.demand
  sampleDemand p s
    |> takeDemand .c0 d.k0 p.demand0
    |> takeDemand .c1 d.k1 p.demand1
    |> takeDemand .c2 d.k2 p.demand2
    |> takeDemand .c3 d.k3 p.demand3

/-! ### Pauses (R119) -/

/-- The pause of a circuit ends, by the debounced level then standing (R119). -/
def pauseOut (k : Circ) (s : State) : State :=
  if s.demandLevel k then toWaiting k false s else setCircuitState k .off s

/-- The pause remaining of a circuit counted down by one tick (R119). -/
def countPause (k : Circ) (s : State) : State :=
  match s.circuitState k with
  | .paused r => if r ≤ 1 then pauseOut k s else setCircuitState k (.paused (r - 1)) s
  | _ => s

/-- Step 2 of R123: while active, the pauses are counted in ascending circuit index. -/
def pauseStep (s : State) : State :=
  if s.circ.active then Circ.switched.foldl (fun t k => countPause k t) s else s

/-! ### The shed stages (R124 to R128) -/

/-- The stage 1 condition on the kept values (R124). -/
def stage1Holds (s : State) : Bool :=
  s.circ.active &&
    s.circ.kept.any fun k =>
      k.lock.trusted && k.filtered + s.cfg.u1 < k.setPoint && (k.demand == 0 || s.cfg.pb == 0)

/-- The stage 2 condition on the kept values (R124). -/
def stage2Holds (s : State) : Bool :=
  s.circ.active && s.circ.kept.any fun k => k.lock.trusted && k.filtered + s.cfg.u2 < k.setPoint

/-- The stage conditions are evaluated; a timer whose condition is false is 0, a condition that holds makes the restore
timer 0, and the own SHEDDING flag becoming true is handed to the Admission Controller (R124, R125, R129). The active
flag stands for the mode: between the mode's leaving RUN and the end of the active span the controller still acts, but
for a raise on circuit 4, which is refused in any mode but RUN (DESIGN CHOICE, unsafe, assumption 42). -/
def evaluateStages (s : State) : State :=
  let c1 := stage1Holds s
  let c2 := stage2Holds s
  let raised := !s.circ.shedding && (c1 || c2)
  (s.setCirc
      { s.circ with
        stage1 := c1
        stage2 := c2
        timer1 := if c1 then s.circ.timer1 else 0
        timer2 := if c2 then s.circ.timer2 else 0
        restoreTimer := if c1 || c2 then 0 else s.circ.restoreTimer }).setHanded
    { s.handed with ownRaised := s.handed.ownRaised + bit raised }

/-- The classes a stage may shed, the first to go first (R126). -/
def shedClasses : Stage → List Nat
  | .stage1 => [3, 2]
  | .stage2 => [3, 2, 1]

/-- The ON circuit that stands first in a class's rotation list (R126). -/
def firstOn (s : State) (cls : Nat) : Option Circ :=
  (s.circ.rotation.get cls).find? fun k => s.circuitState k == .on

/-- The class and the circuit that a stage sheds now, if any is eligible (R126). -/
def chooseShed (stage : Stage) (s : State) : Option (Nat × Circ) :=
  (shedClasses stage).findSome? fun cls => (firstOn s cls).map fun k => (cls, k)

/-- A circuit moved to the end of its class's rotation list (R126). -/
def rotate (k : Circ) (list : List Circ) : List Circ := list.filter (· != k) ++ [k]

/-- SHEDS-1 or SHEDS-2 is counted (R125, R134). -/
def Circuits.countShed (stage : Stage) (c : Circuits) : Circuits :=
  match stage with
  | .stage1 => { c with sheds1 := satInc c.sheds1 }
  | .stage2 => { c with sheds2 := satInc c.sheds2 }

/-- A circuit is shed: the saw goes OFF and the Saw Drive is told, any other circuit becomes SHED, and a withdrawal is
handed for it (R127, R128). -/
def shedState (k : Circ) (s : State) : State :=
  match k with
  | .c4 => sawShed (toOffWithdrawing .c4 s)
  | k => handRequest (.withdraw k) (setCircuitState k .shed s)

/-- The stage sheds one circuit, if any is eligible (R126). -/
def shedOne (stage : Stage) (s : State) : State :=
  match chooseShed stage s with
  | none => s
  | some (cls, k) =>
    shedState k
      (s.setCirc
        ({ s.circ with
            rotation := s.circ.rotation.set cls (rotate k (s.circ.rotation.get cls)) }.countShed stage))

/-- The timer of a stage. -/
def Circuits.timer (c : Circuits) : Stage → Nat
  | .stage1 => c.timer1
  | .stage2 => c.timer2

/-- The condition of a stage. -/
def Circuits.condition (c : Circuits) : Stage → Bool
  | .stage1 => c.stage1
  | .stage2 => c.stage2

/-- The timer of a stage takes a value. -/
def setTimer (stage : Stage) (n : Nat) (s : State) : State :=
  match stage with
  | .stage1 => s.setCirc { s.circ with timer1 := n }
  | .stage2 => s.setCirc { s.circ with timer2 := n }

/-- The threshold of a stage (R125). -/
def State.threshold (s : State) : Stage → Nat
  | .stage1 => s.threshold1
  | .stage2 => s.threshold2

/-- One stage at a tick (R125). -/
def stageStep (stage : Stage) (s : State) : State :=
  if s.circ.condition stage then
    if s.threshold stage ≤ s.circ.timer stage + 1 then shedOne stage (setTimer stage 0 s)
    else setTimer stage (s.circ.timer stage + 1) s
  else setTimer stage 0 s

/-! ### The restore (R129) -/

/-- A SHED circuit is restored: it becomes WAITING with a restore-flagged request (R129). -/
def restoreCircuit (s : State) (k : Circ) : State :=
  if s.circuitState k = .shed then
    let t := toWaiting k true s
    t.setCirc { t.circ with restores := satInc t.circ.restores }
  else s

/-- The restore is taken: ascending class, and within a class the order of its rotation list (R129). -/
def restoreAll (s : State) : State :=
  let order := s.circ.rotation.k0 ++ s.circ.rotation.k1 ++ s.circ.rotation.k2 ++ s.circ.rotation.k3
  let t := order.foldl restoreCircuit s
  t.setCirc { t.circ with restoreTimer := 0 }

/-- A circuit is SHED. -/
def anyShed (s : State) : Bool := Circ.all.any fun k => s.circuitState k == .shed

/-- The restore timer counts at this tick (R129). -/
def restoreCounts (s : State) : Bool := s.circ.active && !s.circ.stage1 && !s.circ.stage2 && anyShed s

/-- Step 4 of R123: the restore timer (R129). -/
def restoreStep (s : State) : State :=
  if restoreCounts s then
    if s.restoreThreshold ≤ s.circ.restoreTimer + 1 then restoreAll s
    else s.setCirc { s.circ with restoreTimer := s.circ.restoreTimer + 1 }
  else s.setCirc { s.circ with restoreTimer := 0 }

/-- The Circuit Controller's work at a station tick (R123). -/
def circuitTick (p : Pins) (s : State) : State :=
  restoreStep (stageStep .stage1 (stageStep .stage2 (pauseStep (demandStep p s))))

/-! ### The active span (R117, R130, R131, R133) -/

/-- A circuit at the end of the active span: marked where it was in use, OFF (R131). -/
def Circuit.atLoss (c : Circuit) : Circuit :=
  match c.state with
  | .on => ⟨.off, true⟩
  | .waiting => ⟨.off, true⟩
  | .shed => ⟨.off, true⟩
  | _ => ⟨.off, c.mark⟩

/-- Conditions false, timers 0, not active (R131, R133). -/
def Circuits.quiet (c : Circuits) : Circuits :=
  { c with active := false, stage1 := false, stage2 := false, timer1 := 0, timer2 := 0, restoreTimer := 0 }

/-- The active span ends by a Line Record carrying LOST or by the entry to DARK (R131). Circuit 4 is never marked. -/
def Circuits.endSpan (c : Circuits) : Circuits :=
  { c.quiet with
    table :=
      { c0 := c.table.c0.atLoss
        c1 := c.table.c1.atLoss
        c2 := c.table.c2.atLoss
        c3 := c.table.c3.atLoss
        c4 := ⟨.off, c.table.c4.mark⟩ } }

/-- A RESTART: as the end of the span, but every mark is cleared (R133). -/
def Circuits.restarted (c : Circuits) : Circuits :=
  { c.quiet with table := ⟨⟨.off, false⟩, ⟨.off, false⟩, ⟨.off, false⟩, ⟨.off, false⟩, ⟨.off, false⟩⟩ }

/-- Every restore mark cleared (R130, R132). -/
def Circuits.clearMarks (c : Circuits) : Circuits :=
  { c with
    table :=
      { c0 := { c.table.c0 with mark := false }
        c1 := { c.table.c1 with mark := false }
        c2 := { c.table.c2 with mark := false }
        c3 := { c.table.c3 with mark := false }
        c4 := { c.table.c4 with mark := false } } }

/-- Whether a circuit is claimed at the entry to RUN, and with which restore flag (R130). -/
def claimedAtRun (s : State) (k : Circ) : Option Bool :=
  if s.rating k = 0 then none
  else
    match s.demandType k with
    | .edge => if (s.circ.table.get k).mark then some true else none
    | .level => if s.demandLevel k then some (s.circ.table.get k).mark else none

/-- One circuit at the entry to RUN (R130). -/
def claimAtRun (s : State) (k : Circ) : State :=
  match claimedAtRun s k with
  | some restore => toWaiting k restore s
  | none => s

/-- The switched circuits in ascending class and, within a class, ascending index (R130). -/
def runOrder (s : State) : List Circ :=
  [0, 1, 2, 3].flatMap fun cls => Circ.switched.filter fun k => s.classOf k == cls

/-- The Circuit Controller takes the entry to RUN, finding the mode RUN (R130). -/
def circuitRunEntry (s : State) : State :=
  let t := evaluateStages (s.setCirc { s.circ with active := true })
  let u := (runOrder t).foldl claimAtRun t
  u.setCirc u.circ.clearMarks

/-- The Circuit Controller takes a Line Record (R124, R131). -/
def circuitRecord (r : LineRecord) (s : State) : State :=
  let t :=
    s.setCirc
      { s.circ with
        kept := some { filtered := r.filtered, lock := r.lock, setPoint := s.gov.setPoint, demand := s.gov.demand } }
  if r.lock = .lost then if t.circ.active then t.setCirc t.circ.endSpan else t
  else evaluateStages t

/-- The rotation lists have been built (R126). -/
def Circuits.rotationBuilt (c : Circuits) : Bool :=
  !(c.rotation.k0.isEmpty && c.rotation.k1.isEmpty && c.rotation.k2.isEmpty && c.rotation.k3.isEmpty)

/-- The rotation list of a class, in ascending index (R126). -/
def rotationList (cfg : Config) (cls : Nat) : List Circ := Circ.all.filter fun k => cfg.cls.get k == cls

/-- The rotation lists are built at the end of the first successful START after power-on (R126, R133). -/
def Circuits.buildRotation (cfg : Config) (c : Circuits) : Circuits :=
  if c.rotationBuilt then c
  else { c with rotation := ⟨rotationList cfg 0, rotationList cfg 1, rotationList cfg 2, rotationList cfg 3⟩ }

/-! ### Answers (R122) -/

/-- The Circuit Controller takes ADMITTED for a circuit (R122). -/
def takeAdmitted (k : Circ) (s : State) : State :=
  if s.circ.active && s.circuitState k == .waiting then
    match k with
    | .c4 => sawAdmitted (setCircuitState .c4 .on s)
    | k => setCircuitState k .on s
  else s

/-- The state of a switched circuit after a refusal (R122). -/
def refusedState (s : State) (k : Circ) : CircuitState :=
  match s.demandType k with
  | .level => .paused s.cfg.tr
  | .edge => .off

/-- The Circuit Controller takes REFUSED for a circuit (R122). -/
def takeRefused (k : Circ) (s : State) : State :=
  if s.circ.active && s.circuitState k == .waiting then
    match k with
    | .c4 => sawRefused (setCircuitState .c4 .off s)
    | k => setCircuitState k (refusedState s k) s
  else s

/-! ### The commands -/

/-- CIRCUIT_CYCLE_END (R124): the oldest Line Record handed to the controller. -/
def execCircuitCycleEnd (s : State) : Result :=
  answer s
    (match s.handed.circuitRecords with
    | [] => s
    | r :: rest => circuitRecord r (s.setHanded { s.handed with circuitRecords := rest }))

/-- CIRCUIT_DARK_ENTRY (R131). -/
def execCircuitDarkEntry (s : State) : Result :=
  answer s
    (if s.handed.dark.circuit then
      let t := s.setHanded { s.handed with dark := { s.handed.dark with circuit := false } }
      if t.circ.active then t.setCirc t.circ.endSpan else t
    else s)

/-- CIRCUIT_RUN_ENTRY (R130): taken only where it finds the mode RUN. -/
def execCircuitRunEntry (s : State) : Result :=
  answer s
    (if s.handed.circuitRun then
      let t := s.setHanded { s.handed with circuitRun := false }
      if t.mc.mode = .run then circuitRunEntry t else t
    else s)

/-- ADMITTED (R122): the oldest answer, where it is ADMITTED. -/
def execAdmitted (s : State) : Result :=
  answer s
    (match s.handed.answers with
    | .admitted k :: rest => takeAdmitted k (s.setHanded { s.handed with answers := rest })
    | _ => s)

/-- REFUSED (R122): the oldest answer, where it is REFUSED. -/
def execRefused (s : State) : Result :=
  answer s
    (match s.handed.answers with
    | .refused k :: rest => takeRefused k (s.setHanded { s.handed with answers := rest })
    | _ => s)

/-- PAUSE_EXPIRY (R119): the pause of the circuit is one tick from 0 (assumption 5). -/
def execPauseExpiry (circuit : Circ) (s : State) : Result :=
  answer s (if s.circ.active && s.circuitState circuit == .paused 1 then pauseOut circuit s else s)

/-- STAGE_SHED (R126): the condition of the stage holds and its timer is one tick from its threshold (assumption 5). -/
def execStageShed (stage : Stage) (s : State) : Result :=
  answer s
    (if s.circ.condition stage && s.circ.timer stage + 1 == s.threshold stage then shedOne stage (setTimer stage 0 s)
    else s)

/-- RESTORE (R129): the restore timer counts and is one tick from its threshold (assumption 5). -/
def execRestore (s : State) : Result :=
  answer s
    (if restoreCounts s && s.circ.restoreTimer + 1 == s.restoreThreshold then restoreAll s else s)

end Sys2Proof.Machine
end

