-- ==== Sys2Proof/Machine/Gate.lean ====
section
/-! DEFINITION. Gate Trim (chapter 8): the evaluation (R163 to R165), the shedding raise (R166), the tick work (R167),
the entries and the RESTART (R161, R169), and its commands. -/

namespace Sys2Proof.Machine

/-! ### Pulses (R165 to R167) -/

/-- A RAISE pulse starts (R165, R166). -/
def Gate.startRaise (lp : Nat) (g : Gate) : Gate :=
  { g with state := .raising lp, sinceLast := 0, high := 0, low := 0, raisePulses := satInc g.raisePulses }

/-- A LOWER pulse starts (R165). -/
def Gate.startLower (lp : Nat) (g : Gate) : Gate :=
  { g with state := .lowering lp, sinceLast := 0, high := 0, low := 0, lowerPulses := satInc g.lowerPulses }

/-- The pulse ends: the state becomes REST and the pulse remaining is dropped (R167). -/
def Gate.rest (g : Gate) : Gate := { g with state := .rest }

/-- The pulse ends at its limit and is counted as cut (R167). -/
def Gate.cut (g : Gate) : Gate := { g.rest with pulsesCut := satInc g.pulsesCut }

/-- A pulse may start: the state is REST and the interval Tgi has run out (R165, R166). -/
def Gate.mayPulse (tgi : Nat) (g : Gate) : Bool := g.state.isRest && tgi ≤ g.sinceLast

/-! ### Evaluation (R163 to R165) -/

/-- Both counts cleared. -/
def Gate.clearCounts (g : Gate) : Gate := { g with high := 0, low := 0 }

/-- H of R163. -/
def spareFraction (wsum csum : Nat) : Option Nat := if csum = 0 then none else some (1000 * wsum / csum)

/-- The counts updated against the band (R164). -/
def Gate.updateCounts (cfg : Config) (h : Nat) (g : Gate) : Gate :=
  if cfg.ht + cfg.band < h then { g with high := min cfg.ng (g.high + 1), low := 0 }
  else if h + cfg.band < cfg.ht then { g with high := 0, low := min cfg.ng (g.low + 1) }
  else g.clearCounts

/-- The counts after an H, or cleared where none is formed (R163). -/
def Gate.judge (cfg : Config) (h : Option Nat) (g : Gate) : Gate :=
  match h with
  | some x => g.updateCounts cfg x
  | none => g.clearCounts

/-- The conditions of a LOWER pulse at an evaluation, less the interval (R165). -/
def lowerAllowed (s : State) : Bool :=
  s.gate.high == s.cfg.ng && !s.adm.claimsPending && !s.anyShedding && !s.gate.closedLimit.level &&
    s.tele.quality == .good

/-- The conditions of a RAISE pulse at an evaluation, less the interval (R165). -/
def raiseAllowed (s : State) : Bool := s.gate.low == s.cfg.ng && !s.gate.openLimit.level

/-- Gate Trim tries to start a pulse from the counts (R165). -/
def tryPulse (s : State) : State :=
  if s.gate.mayPulse s.cfg.tgi then
    if lowerAllowed s then s.setGate (s.gate.startLower s.cfg.lp)
    else if raiseAllowed s then s.setGate (s.gate.startRaise s.cfg.lp)
    else s
  else s

/-- Gate Trim takes an evaluation event (R163). It is ignored where Gate Trim is not active, and a composition in
RECOVER or STAGGER is never evaluated, whenever its event is taken. Between the mode's leaving RUN and GATE_DARK_ENTRY
Gate Trim is still active and evaluates (DESIGN CHOICE, unsafe, assumption 42). -/
def gateEvaluate (e : EvaluationEvent) (s : State) : State :=
  if s.gate.active && e.composedIn == .run then
    match s.tele.quality with
    | .poor => s.setGate s.gate.clearCounts
    | .good =>
      let wsum := e.ballast + s.table.ballast
      let csum := e.capacity + s.table.capacity
      let h := spareFraction wsum csum
      tryPulse
        (s.setGate
          { s.gate.judge s.cfg h with
            evaluation := some { wsum := wsum, csum := csum, h := h, setPoint := s.gov.setPoint } })
  else s

/-! ### The tick work (R166, R167) -/

/-- The two limit debouncers take a sample (R162). -/
def Gate.sampleLimits (p : Pins) (g : Gate) : Gate :=
  { g with openLimit := g.openLimit.sample p.openLimit, closedLimit := g.closedLimit.sample p.closedLimit }

/-- Step 1 of R167: an assertion of the limit in the pulse's direction ends the pulse. -/
def Gate.takeLimits (p : Pins) (g : Gate) : Gate :=
  match g.state with
  | .raising _ => if g.openLimit.asserts p.openLimit then (g.sampleLimits p).cut else g.sampleLimits p
  | .lowering _ => if g.closedLimit.asserts p.closedLimit then (g.sampleLimits p).cut else g.sampleLimits p
  | .rest => g.sampleLimits p

/-- Step 2 of R167. -/
def Gate.countSince (g : Gate) : Gate := { g with sinceLast := satInc g.sinceLast }

/-- Step 3 of R167: the pulse remaining. -/
def Gate.countPulse (g : Gate) : Gate :=
  match g.state with
  | .raising r => if r ≤ 1 then g.rest else { g with state := .raising (r - 1) }
  | .lowering r => if r ≤ 1 then g.rest else { g with state := .lowering (r - 1) }
  | .rest => g

/-- Step 4 of R167: the shedding raise (R166). Between the mode's leaving RUN and GATE_DARK_ENTRY Gate Trim is still
active and may start a pulse in DARK (DESIGN CHOICE, unsafe, assumption 42). -/
def sheddingRaise (s : State) : State :=
  if s.gate.active && s.anyShedding && s.gate.mayPulse s.cfg.tgi && !s.gate.openLimit.level then
    s.setGate (s.gate.startRaise s.cfg.lp)
  else s

/-- Gate Trim's work at a station tick (R167). -/
def gateTick (p : Pins) (s : State) : State :=
  sheddingRaise (s.setGate ((s.gate.takeLimits p).countSince.countPulse))

/-! ### Entries and RESTART (R161, R169) -/

/-- The effects of entry to DARK (R169). -/
def Gate.goDark (g : Gate) : Gate := { g.clearCounts with state := .rest, active := false }

/-- The effects of a RESTART (R169). -/
def Gate.restarted (g : Gate) : Gate := { g.goDark with sinceLast := 65535, evaluation := none }

/-! ### The commands -/

/-- GATE_DARK_ENTRY (R169). -/
def execGateDarkEntry (s : State) : Result :=
  answer s
    (if s.handed.dark.gate then
      (s.setGate s.gate.goDark).setHanded { s.handed with dark := { s.handed.dark with gate := false } }
    else s)

/-- GATE_RUN_ENTRY (R161): Gate Trim becomes active where the gate is fitted and the mode is RUN. -/
def execGateRunEntry (s : State) : Result :=
  answer s
    (if s.handed.gateRun then
      let t := s.setHanded { s.handed with gateRun := false }
      if s.cfg.gateFitted && s.mc.mode == .run then t.setGate { t.gate with active := true } else t
    else s)

/-- GATE_EVALUATION (R163): the oldest evaluation event handed to Gate Trim. -/
def execGateEvaluation (s : State) : Result :=
  answer s
    (match s.handed.evaluations with
    | [] => s
    | e :: rest => gateEvaluate e (s.setHanded { s.handed with evaluations := rest }))

/-- PULSE_END (R167): the pulse remaining is one tick from 0 (assumption 5). -/
def execPulseEnd (s : State) : Result :=
  answer s
    (if s.gate.state = .raising 1 ∨ s.gate.state = .lowering 1 then s.setGate s.gate.rest else s)

end Sys2Proof.Machine
end

