-- ==== Sys2Proof/Machine/PanelRecords.lean ====
section
/-! DEFINITION. The panel records (section 11.6), byte by byte, and the frame of a reply (R187). -/

namespace Sys2Proof.Machine

/-! ### Numbers of modes and states, in the order of their chapters (R192) -/

/-- The number of a mode. -/
def Mode.code : Mode → Nat
  | .start => 0
  | .halted => 1
  | .dark => 2
  | .recover => 3
  | .stagger => 4
  | .run => 5

/-- The number of an autoload status. R192 numbers modes and states only; that the statuses too are numbered from 0 in
the order in which section 11.6 names them is the model's choice (DESIGN CHOICE, unsafe, assumption 38). -/
def AutoloadStatus.code : AutoloadStatus → Nat
  | .notRun => 0
  | .reading => 1
  | .loaded => 2
  | .noAnswer => 3
  | .wrongTag => 4
  | .badCrc => 5

/-- The number of a receive quality. -/
def Quality.code : Quality → Nat
  | .good => 0
  | .poor => 1

/-- The number of a cycle class. R192 numbers modes and states only; that the classes too are numbered from 0, in the
order of the table of R15, is the model's choice (DESIGN CHOICE, unsafe, assumption 38). -/
def CycleClass.code : CycleClass → Nat
  | .good => 0
  | .badRange => 1
  | .badVoltage => 2
  | .missing => 3

/-- The number of a lock state. -/
def Lock.code : Lock → Nat
  | .lost => 0
  | .acquiring => 1
  | .locked => 2
  | .doubtful => 3

/-- The number of a trim state. -/
def TrimState.code : TrimState → Nat
  | .rest => 0
  | .raising _ => 1
  | .lowering _ => 2

/-- The pulse remaining, absent in REST. -/
def TrimState.remaining : TrimState → Option Nat
  | .rest => none
  | .raising r => some r
  | .lowering r => some r

/-- The number of the condition of a neighbour record. -/
def Condition.code : Condition → Nat
  | .fresh => 0
  | .stale => 1

/-- The number of the state of an own claim. -/
def ClaimState.code : ClaimState → Nat
  | .queued => 0
  | .holdoff _ => 1
  | .deferred _ => 2
  | .settling _ => 3

/-- The number of the state of a circuit. -/
def CircuitState.code : CircuitState → Nat
  | .off => 0
  | .waiting => 1
  | .on => 2
  | .shed => 3
  | .paused _ => 4

/-- The pause remaining, absent outside PAUSED. -/
def CircuitState.pause : CircuitState → Option Nat
  | .paused r => some r
  | _ => none

/-- The number of a demand type. -/
def demandCode : DemandType → Nat
  | .level => 0
  | .edge => 1

/-- The number of a saw state. -/
def SawState.code : SawState → Nat
  | .idle => 0
  | .claiming => 1
  | .engaging _ => 2
  | .spinup _ => 3
  | .cutting => 4
  | .backoff _ => 5
  | .returning => 6
  | .ready _ => 7
  | .stopping _ => 8
  | .fault _ => 9

/-- The number of a fault code, counted from 0 in the order of the SAW table of section 11.6: DESIGN CHOICE, unsafe
(assumption 38), since R192 numbers only modes and states. -/
def FaultCode.code : FaultCode → Nat
  | .engage => 0
  | .release => 1
  | .unexpected => 2

/-- The fault code, absent outside FAULT. -/
def SawState.faultCode : SawState → Option FaultCode
  | .fault c => some c
  | _ => none

/-- The timer of a saw state: which one it is and its value. That the timers are numbered from 0 in the order of the SAW
table of section 11.6 is the model's choice (DESIGN CHOICE, unsafe, assumption 38). -/
def SawState.timer : SawState → Option (Nat × Nat)
  | .engaging r => some (0, r)
  | .spinup r => some (1, r)
  | .backoff r => some (2, r)
  | .ready r => some (3, r)
  | .stopping r => some (4, r)
  | _ => none

/-! ### SUMMARY -/

/-- The recall wait in RECOVER, the stagger remaining in STAGGER, absent otherwise. -/
def ModeCtl.wait (m : ModeCtl) : Option Nat :=
  match m.mode with
  | .recover => m.recallWait
  | .stagger => m.stagger
  | _ => none

/-- The ATTENTION causes, one bit each. -/
def AttentionCauses.bits (c : AttentionCauses) : Nat :=
  bit c.halted + 2 * bit c.duplicate + 4 * bit c.poor + 8 * bit c.sawFault + 16 * bit c.clamped

/-- Offset 22 of SUMMARY. -/
def Gate.bits (g : Gate) : Nat :=
  bit g.openLimit.level + 2 * bit g.closedLimit.level + 4 * bit g.active + 8 * bit g.evaluation.isSome

/-- The evaluation fields of SUMMARY; all of them absent where the record is empty (assumption 27). -/
def evaluationBytes (e : Option Evaluation) : List Byte :=
  opt32 (e.map Evaluation.wsum) ++ opt32 (e.map Evaluation.csum) ++
    opt16 ((e.bind Evaluation.h).map (min 65534)) ++ opt16 (e.map Evaluation.setPoint)

/-- The SUMMARY record, 35 bytes. -/
def summaryRecord (s : State) : List Byte :=
  [byteOf s.mc.mode.code, byteOf s.attentionCauses.bits] ++ be16 s.mc.darkDuration ++ opt16 s.mc.wait ++
    [byteOf s.loader.strapLatch, byteOf (bit s.loader.strapDone), byteOf s.loader.status.code,
      byteOf s.loader.attempts, byteOf s.loader.clampCount, byteOf s.cfg.hamlet, byteOf s.tele.quality.code,
      byteOf s.tele.qualityCount] ++
    be16 s.tele.duplicateTimer ++ [byteOf s.gate.state.code] ++ optByte s.gate.state.remaining ++
    be16 s.gate.sinceLast ++ [byteOf s.gate.high, byteOf s.gate.low, byteOf s.gate.bits] ++
    evaluationBytes s.gate.evaluation

/-! ### LINE -/

/-- The Line Record's part of LINE. -/
def lineRecordBytes (r : LineRecord) : List Byte :=
  be16 r.cycleCount ++ [byteOf r.cls.code] ++ opt16 r.period ++ opt16 r.freq ++ be16 r.filtered ++ opt24 r.ms ++
    opt16 r.vrms ++ [byteOf r.lock.code]

/-- The governor's part of LINE. -/
def governorBytes (g : Governor) : List Byte :=
  be16 g.target ++ be16 g.setPoint ++ optSigned g.lastError ++ be24 g.integral ++ be16 g.demand ++ be16 g.burst ++
    [byteOf (bit g.switch)] ++ be16 g.absorbed ++ be16 g.capacity ++ be32 g.sumAbsorbed ++ be32 g.sumCapacity ++
    be16 g.sumCount ++ be16 g.overspeedCycles

/-- The LINE record, 47 bytes. -/
def lineRecord (s : State) : List Byte :=
  lineRecordBytes s.meter.record ++ [byteOf s.meter.goodRun, byteOf s.meter.badRun] ++ governorBytes s.gov

/-! ### NEIGHBOURS -/

/-- A set-point less 40,000, 0 where it is absent. -/
def setPointField (sp : Option Nat) : Nat := (sp.getD 40000) - 40000

/-- A neighbour record, 11 bytes. -/
def Neighbour.bytes (n : Neighbour) : List Byte :=
  [byteOf n.station, flagsByte n.flags] ++ be16 n.ballast ++ be16 n.capacity ++ be16 (setPointField n.setPoint) ++
    be16 n.age ++ [byteOf n.condition.code]

/-- The NEIGHBOURS record, 13 + 11 × n bytes. -/
def neighboursRecord (s : State) : List Byte :=
  [byteOf s.table.records.length] ++ be32 s.table.ballast ++ be32 s.table.capacity ++
    [byteOf (bit s.table.shedding), byteOf ((s.table.anchorRecord.map Neighbour.station).getD 0)] ++
    be16 (setPointField s.table.anchorSetPoint) ++ s.table.records.flatMap Neighbour.bytes

/-! ### CLAIMS -/

/-- Each element of a list with its place, counted from a first number. -/
def numbered {α : Type} : Nat → List α → List (Nat × α)
  | _, [] => []
  | n, x :: xs => (n, x) :: numbered (n + 1) xs

/-- The wait reason of a QUEUED claim: BEHIND, SHEDDING, COMMITMENT WAIT or READY (R113). That the reasons are numbered
from 0 in the order of the CLAIMS table of section 11.6 is the model's choice (DESIGN CHOICE, unsafe, assumption 38).
The mode is not read: for a claim that still stands between the mode's leaving RUN and ADMISSION_DARK_ENTRY, R113 names
no reason, and the model goes on showing the one that the rest of the state gives (DESIGN CHOICE, unsafe, assumption
41). -/
def waitReason (s : State) (c : OwnClaim) : Nat :=
  if (s.adm.oldestQueued.map OwnClaim.circuit) != some c.circuit then 0
  else if s.anyShedding then 1
  else if s.cfg.lc < s.adm.commitment + c.amount then 2
  else 3

/-- Holdoff remaining, present in HOLDOFF. -/
def ClaimState.holdoffLeft : ClaimState → Option Nat
  | .holdoff r => some r
  | _ => none

/-- Backoff remaining, present in DEFERRED. -/
def ClaimState.backoffLeft : ClaimState → Option Nat
  | .deferred r => some r
  | _ => none

/-- Settle remaining, present in SETTLING. -/
def ClaimState.settleLeft : ClaimState → Option Nat
  | .settling r => some r
  | _ => none

/-- An own claim with its creation order, 15 bytes. -/
def ownClaimBytes (s : State) (nc : Nat × OwnClaim) : List Byte :=
  let c := nc.2
  [byteOf c.circuit.idx] ++ be16 c.amount ++ [byteOf c.cls, byteOf c.effective, byteOf c.state.code, byteOf nc.1] ++
    optByte c.state.holdoffLeft ++ [byteOf c.retries] ++ opt16 c.state.backoffLeft ++ opt16 c.state.settleLeft ++
    [byteOf (bit c.restore)] ++ optByte (if c.isQueued then some (waitReason s c) else none)

/-- A heard claim with its arrival order, 8 bytes. -/
def heardClaimBytes (nh : Nat × HeardEntry) : List Byte :=
  let h := nh.2
  [byteOf h.owner, byteOf h.tag] ++ be16 h.amount ++ [byteOf h.effective] ++ be16 h.hold ++ [byteOf nh.1]

/-- The CLAIMS record, 7 + 15 × o + 8 × h bytes. -/
def claimsRecord (s : State) : List Byte :=
  [byteOf s.adm.own.length] ++ be16 s.adm.commitment ++ be16 s.cfg.lc ++ [byteOf (bit s.adm.claimsPending)] ++
    (numbered 1 s.adm.own).flatMap (ownClaimBytes s) ++ [byteOf s.adm.heard.length] ++
    (numbered 1 s.adm.heard).flatMap heardClaimBytes

/-! ### CIRCUITS -/

/-- The demand type byte of a circuit. -/
def demandTypeByte (cfg : Config) : Circ → Byte
  | .c4 => 0xFF
  | k => byteOf (demandCode (cfg.demandType.get k.idx))

/-- An entry of the circuit table, 8 bytes. -/
def circuitBytes (s : State) (k : Circ) : List Byte :=
  be16 (s.rating k) ++ [byteOf (s.classOf k), demandTypeByte s.cfg k, byteOf (s.circuitState k).code,
    byteOf (bit (s.circ.table.get k).mark)] ++ opt16 (s.circuitState k).pause

/-- A rotation list, padded with 0xFF to 5 bytes. -/
def rotationBytes (list : List Circ) : List Byte :=
  (list.map fun k => byteOf k.idx) ++ List.replicate (5 - list.length) 0xFF

/-- Offset 40 of CIRCUITS. -/
def Circuits.demandBits (c : Circuits) : Nat :=
  bit c.demand.k0.level + 2 * bit c.demand.k1.level + 4 * bit c.demand.k2.level + 8 * bit c.demand.k3.level

/-- Offset 41 of CIRCUITS. -/
def Circuits.flagBits (c : Circuits) : Nat :=
  bit c.active + 2 * bit c.stage1 + 4 * bit c.stage2 + 8 * bit c.shedding

/-- The CIRCUITS record, 74 bytes. -/
def circuitsRecord (s : State) : List Byte :=
  Circ.all.flatMap (circuitBytes s) ++ [byteOf s.circ.demandBits, byteOf s.circ.flagBits] ++
    be16 s.circ.timer1 ++ be16 s.threshold1 ++ be16 s.circ.timer2 ++ be16 s.threshold2 ++
    be16 s.circ.restoreTimer ++ be16 s.restoreThreshold ++
    rotationBytes s.circ.rotation.k0 ++ rotationBytes s.circ.rotation.k1 ++ rotationBytes s.circ.rotation.k2 ++
    rotationBytes s.circ.rotation.k3

/-! ### SAW -/

/-- The CLUTCH pin as driven (R115, R137). -/
def State.clutchPin (s : State) : Bool := s.saw.state.asksClutch && s.circuitState .c4 == .on

/-- Offset 17 of SAW. -/
def Saw.inputBits (w : Saw) : Nat :=
  bit w.start.level + 2 * bit w.stop.level + 4 * bit w.clutchClosed.level + 8 * bit w.forwardLimit.level +
    16 * bit w.returnLimit.level

/-- The SAW record, 20 bytes. -/
def sawPanelRecord (s : State) : List Byte :=
  [byteOf s.saw.state.code] ++ optByte (s.saw.state.faultCode.map FaultCode.code) ++ be16 s.saw.baseFeed ++
    beSigned s.saw.feed ++ opt16 (s.saw.target.map Prod.fst) ++ opt16 (s.saw.target.map Prod.snd) ++
    [byteOf s.saw.stallRun, byteOf s.saw.stallCount, byteOf s.saw.adaptCount,
      byteOf (bit s.saw.adaptFull + 2 * bit s.saw.adaptLow)] ++
    optByte (s.saw.state.timer.map Prod.fst) ++ opt16 (s.saw.state.timer.map Prod.snd) ++
    [byteOf s.saw.inputBits, byteOf (bit s.saw.state.asksClutch + 2 * bit s.clutchPin),
      byteOf (s.circuitState .c4).code]

/-! ### COUNTERS -/

/-- The 31 event counters, in the order of the record. -/
def counterList (s : State) : List Nat :=
  [s.meter.chatter, s.meter.badCycles, s.meter.lockLosses, s.gov.overspeedCycles] ++
    [s.tele.sent, s.tele.received, s.tele.crcFailures, s.tele.foreignHamlet, s.tele.malformed,
      s.tele.duplicateStation, s.tele.statusSuperseded] ++
    [s.table.overflow, s.adm.refusals, s.adm.admissions, s.adm.deferrals, s.adm.promotions, s.adm.claimOverflow] ++
    [s.circ.sheds1, s.circ.sheds2, s.circ.restores, s.saw.sawRefused, s.saw.sawFaults, s.saw.stalls,
      s.saw.sawShedStops] ++
    [s.gate.raisePulses, s.gate.lowerPulses, s.gate.pulsesCut, s.mc.darkEntries, s.mc.recallsHeard,
      s.mc.recallTimeouts, s.panel.overruns]

/-- The COUNTERS record, 62 bytes. -/
def countersRecord (s : State) : List Byte := (counterList s).flatMap be16

/-! ### The frame of a reply (R187) -/

/-- The sum of the bytes. -/
def byteSum (bytes : List Byte) : Nat := (bytes.map BitVec.toNat).sum

/-- The checksum that brings the sum of all bytes to 0 modulo 256. -/
def checksum (bytes : List Byte) : Byte := byteOf (256 - byteSum bytes % 256)

/-- A reply with its record (R187). -/
def replyFrame (code : Byte) (record : List Byte) : List Byte :=
  let body := [0xA5, code, byteOf record.length] ++ record
  body ++ [checksum body]

end Sys2Proof.Machine
end

