-- ==== Sys2Proof/Machine/Meter.lean ====
section
/-! DEFINITION. The Line Meter (chapter 1): crossings, samples, the cycle end of R15 and its parts, the start of the
meter (R17), and the commands ZERO_CROSSING, ADC_SAMPLE, MISSING_CROSSING_EVENT, LOCK_ACQUIRED and LOCK_LOST. -/

namespace Sys2Proof.Machine

/-! ### The measures of one cycle end -/

/-- MS of an accumulation: floor(Σs² / n), 0 where n is 0 (R8). -/
def meanSquare (sumSq samples : Nat) : Nat := if samples = 0 then 0 else sumSq / samples

/-- The class of a cycle end, from its period (absent for the missing-crossing event) and its Vrms (R9). -/
def classify (vmin : Nat) (period : Option Nat) (vrms : Nat) : CycleClass :=
  match period with
  | none => .missing
  | some p => if p < 16000 || 25000 < p then .badRange else if vrms < vmin then .badVoltage else .good

/-- f of a GOOD cycle end (R10). -/
def frequency (period : Nat) : Nat := 1000000000 / period

/-- F after a GOOD cycle end, from the lock state found (R11). -/
def filterFrequency (k : Nat) (found : Lock) (filtered freq : Nat) : Nat :=
  if found.trusted then ((filtered : Int) + Int.tdiv ((freq : Int) - filtered) (2 ^ k)).toNat else freq

/-- The line lock with its two runs. -/
structure LockRuns where
  lock : Lock
  goodRun : Nat
  badRun : Nat
deriving DecidableEq, Repr

/-- ACQUIRING at a GOOD cycle end (R12). -/
def acquireStep (na : Nat) (l : LockRuns) : LockRuns :=
  if na ≤ l.goodRun + 1 then ⟨.locked, l.goodRun + 1, 0⟩ else ⟨.acquiring, l.goodRun + 1, l.badRun⟩

/-- LOCKED or DOUBTFUL at a cycle end that is not GOOD, with the bad run that it reaches (R13). -/
def loseStep (nl reached : Nat) (l : LockRuns) : LockRuns :=
  if nl ≤ reached then ⟨.lost, 0, reached⟩ else ⟨.doubtful, l.goodRun, reached⟩

/-- The lock transition of a cycle end (R12, R13). -/
def lockStep (na nl : Nat) (good : Bool) (l : LockRuns) : LockRuns :=
  match l.lock, good with
  | .lost, true => ⟨.acquiring, 1, l.badRun⟩
  | .lost, false => ⟨.lost, 0, l.badRun⟩
  | .acquiring, true => acquireStep na l
  | .acquiring, false => ⟨.lost, 0, l.badRun⟩
  | .locked, true => ⟨.locked, l.goodRun, 0⟩
  | .locked, false => loseStep nl 1 l
  | .doubtful, true => ⟨.locked, l.goodRun, 0⟩
  | .doubtful, false => loseStep nl (l.badRun + 1) l

/-- The lock of the meter with its runs. -/
def Meter.lockRuns (m : Meter) : LockRuns := ⟨m.lock, m.goodRun, m.badRun⟩

/-- LOCK LOSSES after a passage from one lock state to another (R13). -/
def countLockLoss (found after : Lock) (n : Nat) : Nat := if found.trusted && after == .lost then satInc n else n

/-- The meter after a cycle end, by the nine steps of R15. `period` is absent for the missing-crossing event. -/
def Meter.cycleEnd (cfg : Config) (period : Option Nat) (m : Meter) : Meter :=
  let ms := meanSquare m.sumSq m.samples
  let vrms := isqrt ms
  let cls := classify cfg.vmin period vrms
  let good := cls == .good
  let freq := if good then period.map frequency else none
  let filtered := (freq.map (filterFrequency cfg.k m.lock m.filtered)).getD m.filtered
  let runs := lockStep cfg.na cfg.nl good m.lockRuns
  let count := (m.cycleCount + 1) % 65536
  { m with
    sumSq := 0
    samples := 0
    filtered := filtered
    lock := runs.lock
    goodRun := runs.goodRun
    badRun := runs.badRun
    cycleCount := count
    record :=
      { cycleCount := count
        cls := cls
        period := period
        freq := freq
        filtered := filtered
        ms := period.map fun _ => ms
        vrms := period.map fun _ => vrms
        lock := runs.lock }
    badCycles := if good then m.badCycles else satInc m.badCycles
    lockLosses := countLockLoss m.lock runs.lock m.lockLosses }

/-- Publish a Line Record: it is handed to its four readers (R16). -/
def publish (r : LineRecord) (s : State) : State :=
  s.setHanded
    { s.handed with
      governorRecords := s.handed.governorRecords ++ [r]
      circuitRecords := s.handed.circuitRecords ++ [r]
      sawRecords := s.handed.sawRecords ++ [r]
      modeRecords := s.handed.modeRecords ++ [r] }

/-- A cycle end of the part: the meter's steps and the publication (R15, R16). -/
def cycleEnd (period : Option Nat) (s : State) : State :=
  publish (s.meter.cycleEnd s.cfg period).record (s.setMeter (s.meter.cycleEnd s.cfg period))

/-! ### Starting (R17) -/

/-- The values the meter takes at each start, with the start value of F; its counters keep theirs. -/
def Meter.started (f : Nat) (m : Meter) : Meter :=
  { m with
    elapsed := 65535
    silence := 0
    sumSq := 0
    samples := 0
    filtered := f
    lock := .lost
    goodRun := 0
    badRun := 0
    cycleCount := 0
    record := LineRecord.startValues f }

/-- Line Records of the old run that no reader has taken are not handed any more (R41, R178; assumption 14). -/
def dropRecords (s : State) : State :=
  s.setHanded { s.handed with governorRecords := [], circuitRecords := [], sawRecords := [], modeRecords := [] }

/-- The meter starts (R17). -/
def startMeter (f : Nat) (s : State) : State := dropRecords (s.setMeter (s.meter.started f))

/-! ### Crossings and samples -/

/-- A reported crossing: accepted as a cycle end after 8,000 µs, else counted as chatter; ignored while the meter is
idle (R2, R3). -/
def reportCrossing (s : State) : State :=
  if s.meterRuns then
    if 8000 ≤ s.meter.elapsed then
      cycleEnd (some s.meter.elapsed) (s.setMeter { s.meter with elapsed := 0, silence := 0 })
    else s.setMeter { s.meter with chatter := satInc s.meter.chatter }
  else s

/-- A sample delivered to the meter while it runs (R6, R7). -/
def addSample (volts : Int) (s : State) : State :=
  if s.meterRuns then
    s.setMeter
      { s.meter with
        sumSq := s.meter.sumSq + (clampSample volts).natAbs * (clampSample volts).natAbs
        samples := s.meter.samples + 1 }
  else s

/-- The timebase runs on to the next 200 µs sample instant (R6). -/
def toSampleInstant (s : State) : State :=
  let t := elapseTo (nextInstant 200 s.time.lastSample s.time.now) s
  t.setTime { t.time with lastSample := t.time.now }

/-- The silence timer reaches 40,000 µs: a MISSING cycle end (R5). -/
def missingCrossing (s : State) : State :=
  if s.meterRuns then
    let t := elapse (40000 - s.meter.silence) s
    cycleEnd none (t.setMeter { t.meter with silence := 0 })
  else s

/-! ### The lock transitions by themselves (assumption 5) -/

/-- The lock of the meter takes new runs, and a loss is counted (R13). -/
def setLock (runs : LockRuns) (s : State) : State :=
  s.setMeter
    { s.meter with
      lock := runs.lock
      goodRun := runs.goodRun
      badRun := runs.badRun
      lockLosses := countLockLoss s.meter.lock runs.lock s.meter.lockLosses }

/-- The next GOOD cycle end would bring the good run to Na. -/
def lockAcquiredDue (s : State) : Bool :=
  s.meterRuns && s.meter.lock == .acquiring && s.cfg.na ≤ s.meter.goodRun + 1

/-- The next cycle end that is not GOOD would bring the bad run to Nl. -/
def lockLostDue (s : State) : Bool :=
  s.meterRuns && (lockStep s.cfg.na s.cfg.nl false s.meter.lockRuns).lock == .lost && s.meter.lock.trusted

/-! ### The commands -/

/-- ZERO_CROSSING (R3). -/
def execZeroCrossing (dt : Nat) (s : State) : Result := answer s (reportCrossing (elapse dt s))

/-- ADC_SAMPLE (R6, R7). -/
def execAdcSample (volts : Int) (s : State) : Result := answer s (addSample volts (toSampleInstant s))

/-- MISSING_CROSSING_EVENT (R5). -/
def execMissingCrossingEvent (s : State) : Result := answer s (missingCrossing s)

/-- LOCK_ACQUIRED (R12). -/
def execLockAcquired (s : State) : Result :=
  answer s (if lockAcquiredDue s then setLock (lockStep s.cfg.na s.cfg.nl true s.meter.lockRuns) s else s)

/-- LOCK_LOST (R13). -/
def execLockLost (s : State) : Result :=
  answer s (if lockLostDue s then setLock (lockStep s.cfg.na s.cfg.nl false s.meter.lockRuns) s else s)

end Sys2Proof.Machine
end

