-- ==== Sys2Proof/Machine/ModeControl.lean ====
section
/-! DEFINITION. The Mode Controller (chapter 9): the entries to DARK, RECOVER, STAGGER and RUN (R172 to R177), the Line
Record (R171), its tick work (R173, R175, R176), and its commands. -/

namespace Sys2Proof.Machine

/-! ### The entries -/

/-- The entry to DARK is handed to the six blocks that have something to do at it (R172). -/
def DarkEntries.all : DarkEntries := ⟨true, true, true, true, true, true⟩

/-- Entry to DARK, counted or not (R172). -/
def enterDark (counted : Bool) (s : State) : State :=
  (s.setMc
      { s.mc with
        mode := .dark
        darkDuration := 0
        recallWait := none
        stagger := none
        darkEntries := if counted then satInc s.mc.darkEntries else s.mc.darkEntries }).setHanded
    { s.handed with dark := DarkEntries.all }

/-- Entry to STAGGER (R176). -/
def enterStagger (s : State) : State :=
  s.setMc
    { s.mc with mode := .stagger, recallWait := none, stagger := some (s.loader.strapLatch * s.cfg.tsg) }

/-- Entry to RECOVER (R174): the Telegram Controller takes it at the same event; a recall origin goes on to STAGGER. -/
def enterRecover (s : State) : State :=
  let t := telegramRecoverEntry (s.setMc { s.mc with mode := .recover })
  if t.cfg.recallOrigin then enterStagger t else t.setMc { t.mc with recallWait := some t.cfg.trw }

/-- Entry to RUN, handed to the Circuit Controller and to Gate Trim (R177). An evaluation event still untaken was
composed before this RUN and is handed no more, so that the first evaluation is of the first composition in RUN (R169;
DEDUCED, assumption 39). -/
def enterRun (s : State) : State :=
  (s.setMc { s.mc with mode := .run, stagger := none }).setHanded
    { s.handed with circuitRun := true, gateRun := true, evaluations := [] }

/-! ### The Line Record (R171) -/

/-- The Mode Controller takes a Line Record (R171). -/
def modeRecord (r : LineRecord) (s : State) : State :=
  match s.mc.mode, r.lock with
  | .dark, .locked => enterRecover s
  | .recover, .lost => enterDark true s
  | .stagger, .lost => enterDark true s
  | .run, .lost => enterDark true s
  | _, _ => s

/-! ### The recall and the waits (R173, R175, R176) -/

/-- A recall-heard event acts in RECOVER only (R175). -/
def recallHeard (s : State) : State :=
  match s.mc.mode with
  | .recover => enterStagger (s.setMc { s.mc with recallsHeard := satInc s.mc.recallsHeard })
  | _ => s

/-- The recall wait expires (R175). -/
def recallTimeout (s : State) : State :=
  enterStagger (s.setMc { s.mc with recallTimeouts := satInc s.mc.recallTimeouts })

/-- The recall wait counted down by one tick (R175). -/
def countRecallWait (s : State) : State :=
  match s.mc.recallWait with
  | some w => if w ≤ 1 then recallTimeout s else s.setMc { s.mc with recallWait := some (w - 1) }
  | none => s

/-- The stagger remaining counted down by one tick (R176). -/
def countStagger (s : State) : State :=
  match s.mc.stagger with
  | some w => if w ≤ 1 then enterRun s else s.setMc { s.mc with stagger := some (w - 1) }
  | none => s

/-- The dark duration counted by one tick; where it first exceeds Tdm every restore mark is cleared (R132, R173). -/
def countDark (s : State) : State :=
  let t := s.setMc { s.mc with darkDuration := satInc s.mc.darkDuration }
  if s.mc.darkDuration ≤ s.cfg.tdm && s.cfg.tdm < t.mc.darkDuration then t.setCirc t.circ.clearMarks else t

/-- The Mode Controller's work at a station tick, by the mode it finds. A tick that finds STAGGER counts the stagger
down (R176), also where the mode entered STAGGER by a recall, a recall origin's relock or a recall timeout just before
it at the same instant: the order with the tick first then leaves one tick more, though R175 says that both orders of a
recall and the tick give the same stagger (DESIGN CHOICE, unsafe, assumption 40). -/
def modeTick (s : State) : State :=
  match s.mc.mode with
  | .dark => countDark s
  | .recover => countRecallWait s
  | .stagger => countStagger s
  | _ => s

/-! ### The commands -/

/-- MODE_CYCLE_END (R171): the oldest Line Record handed to the Mode Controller. -/
def execModeCycleEnd (s : State) : Result :=
  answer s
    (match s.handed.modeRecords with
    | [] => s
    | r :: rest => modeRecord r (s.setHanded { s.handed with modeRecords := rest }))

/-- RECALL_HEARD (R175): one recall-heard event handed to the Mode Controller. -/
def execRecallHeard (s : State) : Result :=
  answer s
    (if 0 < s.handed.recalls then
      recallHeard (s.setHanded { s.handed with recalls := s.handed.recalls - 1 })
    else s)

/-- RECALL_WAIT_EXPIRY (R175): the recall wait is one tick from 0 (assumption 5). -/
def execRecallWaitExpiry (s : State) : Result :=
  answer s (if s.mc.mode = .recover ∧ s.mc.recallWait = some 1 then recallTimeout s else s)

/-- STAGGER_EXPIRY (R176): the stagger remaining is one tick from 0 (assumption 5). -/
def execStaggerExpiry (s : State) : Result :=
  answer s (if s.mc.mode = .stagger ∧ s.mc.stagger = some 1 then enterRun s else s)

/-- DARK_MEMORY_EXPIRY (R173): the dark duration is one tick from exceeding Tdm (assumption 5). -/
def execDarkMemoryExpiry (s : State) : Result :=
  answer s (if s.mc.mode = .dark ∧ s.mc.darkDuration = s.cfg.tdm then countDark s else s)

end Sys2Proof.Machine
end

