-- ==== Sys2Proof/Machine/Neighbours.lean ====
section
/-! DEFINITION. The Neighbour Table (chapter 4): hearing a STATUS (R71 to R74), ageing (R75, R76), emptying (R82), and
its commands. -/

namespace Sys2Proof.Machine

/-- The record that a STATUS writes: age 0, FRESH (R71, R72). -/
def HeardStatus.record (h : HeardStatus) : Neighbour where
  station := h.sender
  flags := h.flags
  ballast := h.ballast
  capacity := h.capacity
  setPoint := h.setPoint
  age := 0
  condition := .fresh

/-- The table holds a record for a station (R71). -/
def holdsStation (station : Nat) (records : List Neighbour) : Bool := records.any fun n => n.station == station

/-- The record of the sender is refreshed in place (R71). -/
def refresh (h : HeardStatus) (records : List Neighbour) : List Neighbour :=
  records.map fun n => if n.station = h.sender then h.record else n

/-- A record enters before the first record with a higher station number (R72). -/
def insertRecord (r : Neighbour) : List Neighbour → List Neighbour
  | [] => [r]
  | n :: ns => if r.station < n.station then r :: n :: ns else n :: insertRecord r ns

/-- Of two STALE records, the one to be given up: the older, and of equals the higher-numbered (R73). -/
def olderStale (x y : Neighbour) : Neighbour :=
  if x.age < y.age || (x.age == y.age && x.station < y.station) then y else x

/-- The STALE record with the greatest age, of equals the one with the higher station number (R73). -/
def oldestStale : List Neighbour → Option Neighbour
  | [] => none
  | n :: ns =>
    match oldestStale ns with
    | none => if n.condition = .stale then some n else none
    | some m => some (if n.condition = .stale then olderStale n m else m)

/-- Remove the record of a station (R76). -/
def removeStation (station : Nat) (records : List Neighbour) : List Neighbour :=
  records.filter fun n => n.station != station

/-- The table after a good STATUS, and the station whose record was given up, if any (R71 to R74). -/
def Table.hear (h : HeardStatus) (t : Table) : Table × Option Nat :=
  if holdsStation h.sender t.records then ({ t with records := refresh h t.records }, none)
  else if t.records.length < 16 then ({ t with records := insertRecord h.record t.records }, none)
  else
    match oldestStale t.records with
    | some old => ({ t with records := insertRecord h.record (removeStation old.station t.records) }, some old.station)
    | none => ({ t with overflow := satInc t.overflow }, none)

/-- The Neighbour Table takes a good STATUS: outside RECOVER, STAGGER and RUN it is discarded (R82); a removal is handed
to the Admission Controller (R73, R76), and so is the hamlet SHEDDING flag becoming true (R79). -/
def hearStatus (h : HeardStatus) (s : State) : State :=
  if s.mc.mode.online then
    let r := s.table.hear h
    let raised := !s.table.shedding && r.1.shedding
    (s.setTable r.1).setHanded
      { s.handed with
        removed := s.handed.removed ++ r.2.toList
        hamletRaised := s.handed.hamletRaised + bit raised }
  else s

/-- A record one tick older: STALE at 3 × Ia (R75). -/
def Neighbour.aged (ia : Nat) (n : Neighbour) : Neighbour :=
  { n with
    age := satInc n.age
    condition := if 3 * ia ≤ satInc n.age then .stale else n.condition }

/-- The record has reached 8 × Ia (R75). -/
def Neighbour.agedOut (ia : Nat) (n : Neighbour) : Bool := 8 * ia ≤ n.age

/-- The Neighbour Table's work at a station tick, all records together (R75), each removal handed (R76). That several
removals of one tick are handed in table order is the model's choice (DESIGN CHOICE, unsafe, assumption 36): R75 and R76
give no order. -/
def neighbourTick (s : State) : State :=
  let aged := s.table.records.map (Neighbour.aged s.cfg.ia)
  (s.setTable { s.table with records := aged.filter fun n => !n.agedOut s.cfg.ia }).setHanded
    { s.handed with
      removed := s.handed.removed ++ (aged.filter (Neighbour.agedOut s.cfg.ia)).map Neighbour.station }

/-- The table emptied, without neighbour-removed events (R82, R83). -/
def Table.emptied (t : Table) : Table := { t with records := [] }

/-- The record of a station. -/
def Table.find (t : Table) (station : Nat) : Option Neighbour := t.records.find? fun n => n.station == station

/-- The next tick would make the record of this station STALE (R75). -/
def staleDue (station : Nat) (s : State) : Bool :=
  (s.table.find station).any fun n => n.isFresh && n.age + 1 == 3 * s.cfg.ia

/-- The next tick would remove the record of this station (R75). -/
def agedOutDue (station : Nat) (s : State) : Bool :=
  (s.table.find station).any fun n => n.age + 1 == 8 * s.cfg.ia

/-- NEIGHBOUR_STATUS_HEARD (R71 to R74): the oldest STATUS handed to the table. -/
def execNeighbourStatusHeard (s : State) : Result :=
  answer s
    (match s.handed.statuses with
    | [] => s
    | h :: rest => hearStatus h (s.setHanded { s.handed with statuses := rest }))

/-- NEIGHBOUR_STALE (R75): the record of this station ages by the tick that makes it STALE (assumption 5). -/
def execNeighbourStale (station : Nat) (s : State) : Result :=
  answer s
    (if staleDue station s then
      s.setTable
        { s.table with
          records := s.table.records.map fun n => if n.station = station then n.aged s.cfg.ia else n }
    else s)

/-- NEIGHBOUR_AGED_OUT (R75, R76): the record of this station reaches 8 × Ia and is removed (assumption 5). -/
def execNeighbourAgedOut (station : Nat) (s : State) : Result :=
  answer s
    (if agedOutDue station s then
      (s.setTable { s.table with records := removeStation station s.table.records }).setHanded
        { s.handed with removed := s.handed.removed ++ [station] }
    else s)

/-- NEIGHBOUR_DARK_ENTRY (R82). -/
def execNeighbourDarkEntry (s : State) : Result :=
  answer s
    (if s.handed.dark.neighbour then
      (s.setTable s.table.emptied).setHanded { s.handed with dark := { s.handed.dark with neighbour := false } }
    else s)

end Sys2Proof.Machine
end

