-- ==== Sys2Proof/Machine/Restart.lean ====
section
/-! DEFINITION. What all blocks take at one event: the RESTART of R189 in the two cases of R178, and the ends of START
(R184). -/

namespace Sys2Proof.Machine

/-! ### The start values the ends of START and a RESTART give (R17, R40, R41) -/

/-- The Line Meter and the Ballast Governor take a start value (R17, R40). -/
def startLine (f : Nat) (s : State) : State := (startMeter f s).setGov (s.gov.started f)

/-- The Ballast Governor's figures are reset (R41). -/
def restartGovernor (s : State) : State := s.setGov (s.gov.inactive.started s.cfg.fcfg)

/-! ### RESTART (R189) -/

/-- The duplicate-station timer becomes 0 (R69). -/
def clearDuplicate (s : State) : State := s.setTele { s.tele with duplicateTimer := 0 }

/-- The Telegram Controller takes a RESTART that is not taken in HALTED (R69). -/
def restartTelegrams (s : State) : State := clearDuplicate (s.setTele s.tele.goDark)

/-- The Neighbour Table, the Admission Controller, the Circuit Controller, the Saw Drive and Gate Trim take a RESTART
(R83, R111, R133, R158, R169), the Circuit Controller before the Saw Drive (assumption 26). -/
def restartBlocks (s : State) : State :=
  let t := ((s.setTable s.table.emptied).setAdm s.adm.emptied).setCirc s.circ.restarted
  let u := restartSaw t
  u.setGate u.gate.restarted

/-- A RESTART taken in DARK, RECOVER, STAGGER or RUN (R178). -/
def restartRunning (s : State) : State :=
  enterDark false (restartBlocks (restartTelegrams (startMeter s.cfg.fcfg (restartGovernor s))))

/-- The settings at an entry to START from HALTED (R180); the strap latch and the record in force keep their values. -/
def enterStart (s : State) : State :=
  (s.setMc { s.mc with mode := .start }).setLoader
    { s.loader with
      strapDone := false
      status := .notRun
      attempts := 0
      phase := .none
      clampCount := 0
      enteredAt := s.time.now }

/-- A RESTART taken in HALTED (R178, R180): the meter becomes idle, and its records are handed no more (assumption 14).
-/
def restartHalted (s : State) : State := enterStart (dropRecords (restartBlocks (clearDuplicate s)))

/-- RESTART, by the mode in which it is taken (R189). -/
def restartPart (s : State) : State :=
  match s.mc.mode with
  | .start => s
  | .halted => restartHalted s
  | _ => restartRunning s

/-! ### The ends of START (R184) -/

/-- Fb takes its start value (R158). -/
def setBaseFeed (ff : Nat) (s : State) : State := s.setSaw { s.saw with baseFeed := ff }

/-- START succeeds with a clamped record, less the request held by the panel (R178, R184). -/
def startSucceeds (cfg : Config) (s : State) : State :=
  let t := startLine cfg.fcfg (s.setCfg cfg)
  enterDark false (setBaseFeed cfg.ff (t.setCirc (t.circ.buildRotation cfg)))

/-- START fails, less the request held by the panel (R184): HALTED on the defaults, with the autoload status as it
stands. -/
def startFails (s : State) : State :=
  let t := startLine 50000 (s.setCfg defaultConfig)
  setBaseFeed 300 (t.setMc { t.mc with mode := .halted })

end Sys2Proof.Machine
end

