-- ==== Sys2Proof/Machine/Panel.lean ====
section
/-! DEFINITION. The Panel Port (chapter 11): a byte on the panel line (R186), the replies (R187), CLEAR (R188), RESTART
(R189), and the panel's commands. -/

namespace Sys2Proof.Machine

/-- A reply begins at this event (R187). -/
def beginReply (bytes : List Byte) (s : State) : State :=
  s.setPanel { s.panel with reply := some { bytes := bytes, startedAt := s.time.now } }

/-- PANEL OVERRUNS is counted (R186, R191). -/
def panelOverrun (s : State) : State := s.setPanel { s.panel with overruns := satInc s.panel.overruns }

/-! ### CLEAR (R188) -/

/-- The meter's counters cleared. -/
def Meter.clearCounters (m : Meter) : Meter := { m with chatter := 0, badCycles := 0, lockLosses := 0 }

/-- The governor's counter cleared. -/
def Governor.clearCounters (g : Governor) : Governor := { g with overspeedCycles := 0 }

/-- The Telegram Controller's counters cleared. -/
def Telegram.clearCounters (t : Telegram) : Telegram :=
  { t with
    sent := 0
    received := 0
    crcFailures := 0
    foreignHamlet := 0
    malformed := 0
    duplicateStation := 0
    statusSuperseded := 0 }

/-- The Neighbour Table's counter cleared. -/
def Table.clearCounters (t : Table) : Table := { t with overflow := 0 }

/-- The Admission Controller's counters cleared. -/
def Admission.clearCounters (a : Admission) : Admission :=
  { a with refusals := 0, admissions := 0, deferrals := 0, promotions := 0, claimOverflow := 0 }

/-- The Circuit Controller's counters cleared. -/
def Circuits.clearCounters (c : Circuits) : Circuits := { c with sheds1 := 0, sheds2 := 0, restores := 0 }

/-- The Saw Drive's counters cleared. -/
def Saw.clearCounters (w : Saw) : Saw := { w with sawRefused := 0, sawFaults := 0, stalls := 0, sawShedStops := 0 }

/-- Gate Trim's counters cleared. -/
def Gate.clearCounters (g : Gate) : Gate := { g with raisePulses := 0, lowerPulses := 0, pulsesCut := 0 }

/-- The Mode Controller's counters cleared. -/
def ModeCtl.clearCounters (m : ModeCtl) : ModeCtl := { m with darkEntries := 0, recallsHeard := 0, recallTimeouts := 0 }

/-- CLEAR: the 31 event counters and the clamp count become 0 (R188). -/
def clearAll (s : State) : State :=
  let t := (((s.setMeter s.meter.clearCounters).setGov s.gov.clearCounters).setTele s.tele.clearCounters).setTable
    s.table.clearCounters
  let u := (((t.setAdm s.adm.clearCounters).setCirc s.circ.clearCounters).setSaw s.saw.clearCounters).setGate
    s.gate.clearCounters
  ((u.setMc s.mc.clearCounters).setLoader { s.loader with clampCount := 0 }).setPanel { s.panel with overruns := 0 }

/-! ### Requests (R186, R187) -/

/-- A request taken outside START (R186): a code of the table has its framed reply, composed from the state before the
event; any other value is answered 0x15. -/
def takeRequest (b : Byte) (s : State) : State :=
  match b.toNat with
  | 1 => beginReply (replyFrame b (summaryRecord s)) s
  | 2 => beginReply (replyFrame b (lineRecord s)) s
  | 3 => beginReply (replyFrame b (neighboursRecord s)) s
  | 4 => beginReply (replyFrame b (claimsRecord s)) s
  | 5 => beginReply (replyFrame b (circuitsRecord s)) s
  | 6 => beginReply (replyFrame b (sawPanelRecord s)) s
  | 7 => beginReply (replyFrame b (countersRecord s)) s
  | 8 => beginReply (replyFrame b []) (clearAll s)
  | 9 => beginReply (replyFrame b []) (restartPart s)
  | _ => beginReply [0x15] s

/-- A byte taken in START (R186). -/
def takeInStart (b : Byte) (s : State) : State :=
  if s.panel.pendingRequest.isSome then panelOverrun s
  else if b.toNat = 1 then takeRequest b s
  else s.setPanel { s.panel with pendingRequest := some b }

/-- A byte received on the panel line (R186). -/
def panelByte (b : Byte) (s : State) : State :=
  if s.panel.reply.isSome then panelOverrun s
  else
    match s.mc.mode with
    | .start => takeInStart b s
    | _ => takeRequest b s

/-- At the end of START the request held is taken in the mode then entered (R186). -/
def takePending (s : State) : State :=
  match s.panel.pendingRequest with
  | some b => panelByte b (s.setPanel { s.panel with pendingRequest := none })
  | none => s

/-- The last byte of the reply leaves the line (R186). -/
def replyComplete (s : State) : State :=
  match s.panel.reply with
  | some r =>
    let t := elapseTo (r.startedAt + panelTime r.bytes.length) s
    t.setPanel { t.panel with reply := none }
  | none => s

/-- The bytes of the reply that have not yet started on the line (R186, R187). -/
def State.bytesToSend (s : State) : List Byte :=
  match s.panel.reply with
  | some r => r.bytes.drop (((s.time.now - r.startedAt) * 3) / 3125 + 1)
  | none => []

/-! ### The commands -/

/-- SUMMARY (R187). -/
def execSummary (dt : Nat) (s : State) : Result := answer s (panelByte 0x01 (elapse dt s))

/-- LINE (R187). -/
def execLine (dt : Nat) (s : State) : Result := answer s (panelByte 0x02 (elapse dt s))

/-- NEIGHBOURS (R85). -/
def execNeighbours (dt : Nat) (s : State) : Result := answer s (panelByte 0x03 (elapse dt s))

/-- CLAIMS (R113). -/
def execClaims (dt : Nat) (s : State) : Result := answer s (panelByte 0x04 (elapse dt s))

/-- CIRCUITS (R135). -/
def execCircuits (dt : Nat) (s : State) : Result := answer s (panelByte 0x05 (elapse dt s))

/-- SAW (R160). -/
def execSaw (dt : Nat) (s : State) : Result := answer s (panelByte 0x06 (elapse dt s))

/-- COUNTERS (R187). -/
def execCounters (dt : Nat) (s : State) : Result := answer s (panelByte 0x07 (elapse dt s))

/-- CLEAR (R188). -/
def execClear (dt : Nat) (s : State) : Result := answer s (panelByte 0x08 (elapse dt s))

/-- RESTART (R189). -/
def execRestart (dt : Nat) (s : State) : Result := answer s (panelByte 0x09 (elapse dt s))

/-- UNKNOWN_REQUEST (R186). -/
def execUnknownRequest (dt : Nat) (byte : Byte) (s : State) : Result := answer s (panelByte byte (elapse dt s))

/-- PANEL_OVERRUN (R186): a byte that the port may have to discard. -/
def execPanelOverrun (dt : Nat) (byte : Byte) (s : State) : Result := answer s (panelByte byte (elapse dt s))

/-- REPLY_COMPLETE (R186). -/
def execReplyComplete (s : State) : Result := answer s (replyComplete s)

end Sys2Proof.Machine
end

