-- ==== Sys2Proof/Machine/RecordDecode.lean ====
section
/-! DEFINITION. The configuration record: its bytes decoded (section 11.5), the clamps of R183, and the clamp count. -/

namespace Sys2Proof.Machine

/-! ### Decoding (section 11.5) -/

/-- Bits `lo` and up of the byte at an offset, as a number below `2 ^ width`. -/
def bitsAt (bytes : List Byte) (offset lo width : Nat) : Nat := byteAt bytes offset / 2 ^ lo % 2 ^ width

/-- A flag bit of the byte at an offset. -/
def flagAt (bytes : List Byte) (offset lo : Nat) : Bool := bitsAt bytes offset lo 1 == 1

/-- The demand type bit of a circuit. -/
def demandTypeAt (bytes : List Byte) (lo : Nat) : DemandType := if flagAt bytes 3 lo then .edge else .level

/-- The record decoded by the layout and the storage units of section 11.5, before the clamps. -/
def decodeRecord (b : List Byte) : Config where
  hamlet := byteAt b 1
  anchor := flagAt b 2 0
  adopt := flagAt b 2 1
  recallOrigin := flagAt b 2 2
  gateFitted := flagAt b 2 3
  sawFitted := flagAt b 2 4
  keepAdaptation := flagAt b 2 5
  demandType := ⟨demandTypeAt b 0, demandTypeAt b 1, demandTypeAt b 2, demandTypeAt b 3⟩
  cls := ⟨bitsAt b 4 0 2, bitsAt b 4 2 2, bitsAt b 4 4 2, bitsAt b 4 6 2, bitsAt b 3 4 2⟩
  fcfg := wordAt b 5
  vmin := byteAt b 7
  k := bitsAt b 8 0 3
  nl := bitsAt b 8 4 4
  na := byteAt b 9
  kp := byteAt b 10
  ki := byteAt b 11
  fover := byteAt b 12 * 20
  pb := byteAt b 13 * 25
  vn := byteAt b 14
  ia := byteAt b 15
  nrep := bitsAt b 16 0 3
  eq := bitsAt b 16 4 4
  trd := byteAt b 17 * 20
  lc := byteAt b 18 * 200
  reserve := byteAt b 19 * 50
  th := byteAt b 20
  ts := byteAt b 21 * 5
  tb := byteAt b 22
  nf := bitsAt b 23 0 4
  lr := bitsAt b 23 4 4
  rating :=
    ⟨byteAt b 24 * 100, byteAt b 25 * 100, byteAt b 26 * 100, byteAt b 27 * 100, byteAt b 28 * 100⟩
  u1 := byteAt b 29 * 20
  u2 := wordAt b 30
  t1 := byteAt b 32 * 2
  t2 := byteAt b 33
  tq := byteAt b 34 * 25
  tr := byteAt b 35 * 25
  tce := byteAt b 36 * 2
  trel := byteAt b 37 * 2
  msp := byteAt b 38 * 10
  tsu := byteAt b 39 * 10
  dsl := byteAt b 40 * 10
  dst := byteAt b 41 * 20
  ff := byteAt b 42 * 10
  fc := byteAt b 43 * 10
  rr := byteAt b 44
  nst := byteAt b 45
  nad := byteAt b 46
  step := byteAt b 47
  rbk := byteAt b 48 * 10
  nbk := byteAt b 49
  lst := bitsAt b 50 0 4
  ng := bitsAt b 50 4 4
  rrt := byteAt b 51 * 10
  tready := wordAt b 52
  ht := byteAt b 54 * 5
  band := byteAt b 55 * 5
  tgi := wordAt b 56
  lp := byteAt b 58
  tdm := byteAt b 59 * 250
  trw := byteAt b 60 * 20
  tsg := byteAt b 61

/-! ### The clamps (R183) -/

/-- The first pass: every numeric field but the six linked ones is brought within its range. -/
def clampFixed (c : Config) : Config :=
  { c with
    hamlet := clampNat c.hamlet 1 254
    fcfg := clampNat c.fcfg 48000 52000
    vmin := clampNat c.vmin 100 220
    k := clampNat c.k 0 4
    na := clampNat c.na 5 250
    nl := clampNat c.nl 1 15
    kp := clampNat c.kp 0 255
    ki := clampNat c.ki 0 255
    fover := clampNat c.fover 500 5000
    pb := clampNat c.pb 0 6000
    vn := clampNat c.vn 200 250
    ia := clampNat c.ia 25 250
    nrep := clampNat c.nrep 1 4
    eq := clampNat c.eq 1 15
    trd := clampNat c.trd 100 3000
    lc := clampNat c.lc 0 30000
    reserve := clampNat c.reserve 0 10000
    th := clampNat c.th 10 250
    ts := clampNat c.ts 25 500
    tb := clampNat c.tb 10 250
    nf := clampNat c.nf 1 15
    lr := clampNat c.lr 0 15
    rating :=
      ⟨clampNat c.rating.c0 0 15000, clampNat c.rating.c1 0 15000, clampNat c.rating.c2 0 15000,
        clampNat c.rating.c3 0 15000, clampNat c.rating.c4 0 15000⟩
    cls :=
      ⟨clampNat c.cls.c0 0 3, clampNat c.cls.c1 0 3, clampNat c.cls.c2 0 3, clampNat c.cls.c3 0 3,
        clampNat c.cls.c4 0 3⟩
    t1 := clampNat c.t1 10 500
    t2 := clampNat c.t2 2 100
    tq := clampNat c.tq 50 3000
    tr := clampNat c.tr 50 3000
    tce := clampNat c.tce 10 500
    trel := clampNat c.trel 10 500
    msp := clampNat c.msp 50 1000
    tsu := clampNat c.tsu 50 1500
    rr := clampNat c.rr 1 200
    nst := clampNat c.nst 1 50
    nad := clampNat c.nad 5 250
    step := clampNat c.step 1 100
    rbk := clampNat c.rbk 50 1000
    nbk := clampNat c.nbk 5 250
    lst := clampNat c.lst 1 10
    rrt := clampNat c.rrt 100 1000
    tready := clampNat c.tready 250 15000
    ht := clampNat c.ht 0 1000
    band := clampNat c.band 0 500
    ng := clampNat c.ng 1 15
    tgi := clampNat c.tgi 250 15000
    lp := clampNat c.lp 5 250
    tdm := clampNat c.tdm 500 60000
    trw := clampNat c.trw 100 3000
    tsg := clampNat c.tsg 10 250 }

/-- The second pass: the six linked fields, in their order, each from the values settled before it. -/
def clampLinked (c : Config) : Config :=
  let u1 := clampNat c.u1 200 3000
  let u2 := max (clampNat c.u2 300 5000) (u1 + 100)
  let dsl := min (clampNat c.dsl 50 1000) (u1 - 50)
  let dst := clampNat c.dst (dsl + 50) u1
  let ff := clampNat c.ff 50 1000
  let fc := clampNat c.fc ff 1000
  { c with u1 := u1, u2 := u2, dsl := dsl, dst := dst, ff := ff, fc := fc }

/-- Both passes. -/
def clampConfig (c : Config) : Config := clampLinked (clampFixed c)

/-- The numeric fields of the table of section 10.4, in its order. -/
def configNumbers (c : Config) : List Nat :=
  [c.fcfg, c.vmin, c.k, c.na, c.nl, c.kp, c.ki, c.fover, c.pb, c.vn] ++
    [c.hamlet, c.ia, c.nrep, c.eq, c.trd, c.lc, c.reserve, c.th, c.ts, c.tb, c.nf, c.lr] ++
    [c.rating.c0, c.rating.c1, c.rating.c2, c.rating.c3, c.rating.c4] ++
    [c.cls.c0, c.cls.c1, c.cls.c2, c.cls.c3, c.cls.c4] ++
    [c.u1, c.u2, c.t1, c.t2, c.tq, c.tr, c.tce, c.trel, c.msp, c.tsu, c.dsl, c.dst, c.ff, c.fc, c.rr, c.nst, c.nad,
      c.step, c.rbk, c.nbk, c.lst, c.rrt, c.tready] ++
    [c.ht, c.band, c.ng, c.tgi, c.lp, c.tdm, c.trw, c.tsg]

/-- The clamp count: the fields whose final value differs from the value decoded (R183). -/
def clampsMade (decoded final : Config) : Nat :=
  (((configNumbers decoded).zip (configNumbers final)).filter fun p => p.1 != p.2).length

/-! ### The checks (R182) -/

/-- What the checks of R182 find in the staging buffer. -/
inductive RecordCheck where
  | wrongTag
  | badCrc
  | accepted
deriving DecidableEq, Repr

/-- The checks in their order: the layout tag, then the CRC of bytes 0..61 against bytes 62 and 63. -/
def checkRecord (b : List Byte) : RecordCheck :=
  if byteAt b 0 != 0x4B then .wrongTag
  else if (crc16 (b.take 62)).toNat != wordAt b 62 then .badCrc
  else .accepted

end Sys2Proof.Machine
end

