-- ==== Sys2Proof/Machine/Loader.lean ====
section
/-! DEFINITION. The Start Loader (chapter 10): the straps (R180), the autoload (R181, R182), the ends of START with the
panel's held request (R184, R186), and its commands. -/

namespace Sys2Proof.Machine

/-! ### The ends of START -/

/-- START ends by failure, with the autoload status that it leaves (R184). -/
def failStart (status : AutoloadStatus) (s : State) : State :=
  takePending (startFails (s.setLoader { s.loader with status := status, phase := .none }))

/-- START ends by success with an accepted record (R183, R184). -/
def succeedStart (decoded : Config) (s : State) : State :=
  let final := clampConfig decoded
  takePending
    (startSucceeds final
      (s.setLoader
        { s.loader with status := .loaded, phase := .none, clampCount := clampsMade decoded final }))

/-! ### The autoload (R181, R182) -/

/-- The bus of an attempt up to the given address byte, which the memory acknowledges or not: a start condition, the
device address for a write and the word address, and after a repeated start condition the device address for a read
(R181). -/
def addressPhase : AddressByte → Bool → List BusEvent
  | .deviceForWrite, ack => [.start, .sent 0xA0 ack]
  | .wordAddress, ack => [.start, .sent 0xA0 true, .sent 0x00 ack]
  | .deviceForRead, ack => [.start, .sent 0xA0 true, .sent 0x00 true, .repeatedStart, .sent 0xA1 ack]

/-- The 64 bytes read: each is acknowledged but the last (R181). -/
def readPhase (bytes : List Byte) : List BusEvent :=
  (bytes.take 63).map (fun b => .read b true) ++ (bytes.drop 63).map fun b => .read b false

/-- The bus of an attempt that the memory ends by not acknowledging an address byte (R181). -/
def failedTransaction (which : AddressByte) : List BusEvent := addressPhase which false ++ [.stop]

/-- The bus of an attempt that completes (R181). -/
def completeTransaction (bytes : List Byte) : List BusEvent :=
  addressPhase .deviceForRead true ++ readPhase bytes ++ [.stop]

/-- An attempt begins with a start condition (R181). -/
def beginAttempt (s : State) : State :=
  s.setLoader
    { s.loader with attempts := s.loader.attempts + 1, status := .reading, phase := .attempt, bus := [.start] }

/-- An attempt is under way. -/
def attemptUnderWay (s : State) : Bool := s.mc.mode == .start && s.loader.phase == .attempt

/-- The memory has not acknowledged an address byte: the loader ends the transaction and discards the staging buffer
(R181). -/
def notAcknowledged (which : AddressByte) (s : State) : State :=
  if attemptUnderWay s then
    let t := s.setLoader { s.loader with bus := failedTransaction which, staging := [] }
    if t.loader.attempts < 4 then t.setLoader { t.loader with phase := .waiting (t.time.now + 5000) }
    else failStart .noAnswer t
  else s

/-- The retry wait ends and the next attempt begins (R181). -/
def retryWaitOver (s : State) : State :=
  match s.loader.phase with
  | .waiting instant => if s.mc.mode = .start then beginAttempt (elapseTo instant s) else s
  | _ => s

/-- An attempt has brought 64 bytes into the staging buffer (R181), which is checked (R182). -/
def attemptDone (bytes : List Byte) (s : State) : State :=
  if attemptUnderWay s then
    let t := s.setLoader { s.loader with bus := completeTransaction bytes, staging := bytes }
    match checkRecord bytes with
    | .wrongTag => failStart .wrongTag t
    | .badCrc => failStart .badCrc t
    | .accepted => succeedStart (decodeRecord bytes) t
  else s

/-! ### The straps (R180) -/

/-- The instant of the first 200 µs sample after the entry to START. -/
def strapInstant (s : State) : Nat := (s.loader.enteredAt / 200 + 1) * 200

/-- The straps are latched: 0 ends START, any other number begins the autoload (R180). -/
def latchStraps (n : Nat) (s : State) : State :=
  if s.mc.mode = .start ∧ s.loader.strapDone = false then
    let t := elapseTo (strapInstant s) s
    let u := t.setLoader { t.loader with strapLatch := n, strapDone := true }
    if n = 0 then failStart .notRun u else beginAttempt u
  else s

/-! ### The commands -/

/-- STRAP_LATCH (R180). -/
def execStrapLatch (straps : BitVec 5) (s : State) : Result := answer s (latchStraps straps.toNat s)

/-- ADDRESS_NOT_ACKNOWLEDGED (R181). -/
def execAddressNotAcknowledged (dt : Nat) (which : AddressByte) (s : State) : Result :=
  answer s (notAcknowledged which (elapse dt s))

/-- AUTOLOAD_RETRY_WAIT_EXPIRY (R181). -/
def execAutoloadRetryWaitExpiry (s : State) : Result := answer s (retryWaitOver s)

/-- ATTEMPT_COMPLETE (R182). A completed attempt always has 64 bytes (R181); a command that brings another number of
bytes is no event of the part, and stops (assumption 18). -/
def execAttemptComplete (dt : Nat) (bytes : List Byte) (s : State) : Result :=
  if bytes.length = 64 then answer s (attemptDone bytes (elapse dt s)) else .fault .notSixtyFourBytes

end Sys2Proof.Machine
end

