-- ==== Sys2Proof/Machine/Power.lean ====
section
/-! DEFINITION. The supply: POWER_ON (R180) and POWER_LOST (R172). -/

namespace Sys2Proof.Machine

/-- The power-on values, with the commands that wait. -/
def powerOnState (s : State) : State := { State.reset with pending := s.pending }

/-- POWER_ON (R180): every block takes its power-on values. -/
def execPowerOn (s : State) : Result := .next (powerOnState s)

/-- POWER_LOST (R172): the part stops and all its state is lost; nothing acts until a POWER_ON (assumption 8). -/
def execPowerLost (s : State) : Result := .next { powerOnState s with powered := false }

end Sys2Proof.Machine
end

