-- ==== Sys2Proof/Machine/Tick.lean ====
section
/-! DEFINITION. STATION_TICK (R1): the tick is one instant, and each block takes it as an event of its own, in the order
in which the commands name the blocks (assumption 3). -/

namespace Sys2Proof.Machine

/-- The blocks that take a tick. -/
def TickBlock.all : List TickBlock := [.telegram, .neighbour, .admission, .circuit, .saw, .gate, .mode]

/-- The tick work of a block, with the levels at the pins. -/
def blockTick (p : Pins) : TickBlock → State → State
  | .telegram, s => telegramTick s
  | .neighbour, s => neighbourTick s
  | .admission, s => admissionTick s
  | .circuit, s => circuitTick p s
  | .saw, s => sawTick p s
  | .gate, s => gateTick p s
  | .mode, s => modeTick s

/-- A new tick begins where every block has taken the one before: the timebase runs on to the next 20,000 µs instant
(R1). -/
def beginTick (s : State) : State :=
  if s.time.tickWaiting.isEmpty then
    let t := elapseTo (nextInstant 20000 s.time.lastTick s.time.now) s
    t.setTime { t.time with lastTick := t.time.now, tickWaiting := TickBlock.all }
  else s

/-- A block takes the tick, if it has not taken it yet. -/
def takeTick (p : Pins) (s : State) (b : TickBlock) : State :=
  if s.time.tickWaiting.contains b then
    blockTick p b (s.setTime { s.time with tickWaiting := s.time.tickWaiting.filter fun c => !(c == b) })
  else s

/-- STATION_TICK (R1). -/
def execStationTick (blocks : List TickBlock) (pins : Pins) (s : State) : Result :=
  answer s (blocks.foldl (takeTick pins) (beginTick s))

end Sys2Proof.Machine
end

