-- ==== Sys2Proof/Machine/Dispatch.lean ====
section
/-! DEFINITION. The one dispatch from a command to its meaning. -/

namespace Sys2Proof.Machine

/-- The effect of a command on everything but the queue. -/
def exec (i : Instr) (s : State) : Host.Outcome State Fault Refusal :=
  match i with
  | .powerOn => Sys2Proof.Machine.execPowerOn s
  | .stationTick blocks pins => Sys2Proof.Machine.execStationTick blocks pins s
  | .zeroCrossing dt => Sys2Proof.Machine.execZeroCrossing dt s
  | .adcSample volts => Sys2Proof.Machine.execAdcSample volts s
  | .missingCrossingEvent => Sys2Proof.Machine.execMissingCrossingEvent s
  | .lockAcquired => Sys2Proof.Machine.execLockAcquired s
  | .lockLost => Sys2Proof.Machine.execLockLost s
  | .governorCycleEnd => Sys2Proof.Machine.execGovernorCycleEnd s
  | .circuitCycleEnd => Sys2Proof.Machine.execCircuitCycleEnd s
  | .sawCycleEnd => Sys2Proof.Machine.execSawCycleEnd s
  | .modeCycleEnd => Sys2Proof.Machine.execModeCycleEnd s
  | .telegramDarkEntry => Sys2Proof.Machine.execTelegramDarkEntry s
  | .neighbourDarkEntry => Sys2Proof.Machine.execNeighbourDarkEntry s
  | .admissionDarkEntry => Sys2Proof.Machine.execAdmissionDarkEntry s
  | .circuitDarkEntry => Sys2Proof.Machine.execCircuitDarkEntry s
  | .sawDarkEntry => Sys2Proof.Machine.execSawDarkEntry s
  | .gateDarkEntry => Sys2Proof.Machine.execGateDarkEntry s
  | .circuitRunEntry => Sys2Proof.Machine.execCircuitRunEntry s
  | .gateRunEntry => Sys2Proof.Machine.execGateRunEntry s
  | .carrierAppears dt => Sys2Proof.Machine.execCarrierAppears dt s
  | .carrierEnds dt => Sys2Proof.Machine.execCarrierEnds dt s
  | .quietGapExpiry => Sys2Proof.Machine.execQuietGapExpiry s
  | .transmissionComplete => Sys2Proof.Machine.execTransmissionComplete s
  | .telegramArrival dt bytes => Sys2Proof.Machine.execTelegramArrival dt bytes s
  | .receiveQualityPoor => Sys2Proof.Machine.execReceiveQualityPoor s
  | .neighbourStatusHeard => Sys2Proof.Machine.execNeighbourStatusHeard s
  | .neighbourStale station => Sys2Proof.Machine.execNeighbourStale station s
  | .neighbourAgedOut station => Sys2Proof.Machine.execNeighbourAgedOut station s
  | .neighbourRemoved => Sys2Proof.Machine.execNeighbourRemoved s
  | .hamletSheddingRaised => Sys2Proof.Machine.execHamletSheddingRaised s
  | .ownSheddingRaised => Sys2Proof.Machine.execOwnSheddingRaised s
  | .heardClaim => Sys2Proof.Machine.execHeardClaim s
  | .heardRelease => Sys2Proof.Machine.execHeardRelease s
  | .recallHeard => Sys2Proof.Machine.execRecallHeard s
  | .creationRequest => Sys2Proof.Machine.execCreationRequest s
  | .withdrawal => Sys2Proof.Machine.execWithdrawal s
  | .admitted => Sys2Proof.Machine.execAdmitted s
  | .refused => Sys2Proof.Machine.execRefused s
  | .holdoffExpiry => Sys2Proof.Machine.execHoldoffExpiry s
  | .backoffExpiry circuit => Sys2Proof.Machine.execBackoffExpiry circuit s
  | .settleExpiry circuit => Sys2Proof.Machine.execSettleExpiry circuit s
  | .holdExpiry owner tag => Sys2Proof.Machine.execHoldExpiry owner tag s
  | .claimCopyDue tag => Sys2Proof.Machine.execClaimCopyDue tag s
  | .releaseCopyDue tag => Sys2Proof.Machine.execReleaseCopyDue tag s
  | .statusIntervalExpiry => Sys2Proof.Machine.execStatusIntervalExpiry s
  | .recallDurationExpiry => Sys2Proof.Machine.execRecallDurationExpiry s
  | .duplicateTimerExpiry => Sys2Proof.Machine.execDuplicateTimerExpiry s
  | .gateEvaluation => Sys2Proof.Machine.execGateEvaluation s
  | .pulseEnd => Sys2Proof.Machine.execPulseEnd s
  | .pauseExpiry circuit => Sys2Proof.Machine.execPauseExpiry circuit s
  | .stageShed stage => Sys2Proof.Machine.execStageShed stage s
  | .restore => Sys2Proof.Machine.execRestore s
  | .engageTimeout => Sys2Proof.Machine.execEngageTimeout s
  | .spinupTimeout => Sys2Proof.Machine.execSpinupTimeout s
  | .readyTimeout => Sys2Proof.Machine.execReadyTimeout s
  | .releaseTimeout => Sys2Proof.Machine.execReleaseTimeout s
  | .stall => Sys2Proof.Machine.execStall s
  | .adaptationIntervalComplete => Sys2Proof.Machine.execAdaptationIntervalComplete s
  | .sawBackoffEnd => Sys2Proof.Machine.execSawBackoffEnd s
  | .recallWaitExpiry => Sys2Proof.Machine.execRecallWaitExpiry s
  | .staggerExpiry => Sys2Proof.Machine.execStaggerExpiry s
  | .darkMemoryExpiry => Sys2Proof.Machine.execDarkMemoryExpiry s
  | .strapLatch straps => Sys2Proof.Machine.execStrapLatch straps s
  | .addressNotAcknowledged dt which => Sys2Proof.Machine.execAddressNotAcknowledged dt which s
  | .autoloadRetryWaitExpiry => Sys2Proof.Machine.execAutoloadRetryWaitExpiry s
  | .attemptComplete dt bytes => Sys2Proof.Machine.execAttemptComplete dt bytes s
  | .summary dt => Sys2Proof.Machine.execSummary dt s
  | .line dt => Sys2Proof.Machine.execLine dt s
  | .neighbours dt => Sys2Proof.Machine.execNeighbours dt s
  | .claims dt => Sys2Proof.Machine.execClaims dt s
  | .circuits dt => Sys2Proof.Machine.execCircuits dt s
  | .saw dt => Sys2Proof.Machine.execSaw dt s
  | .counters dt => Sys2Proof.Machine.execCounters dt s
  | .clear dt => Sys2Proof.Machine.execClear dt s
  | .restart dt => Sys2Proof.Machine.execRestart dt s
  | .unknownRequest dt byte => Sys2Proof.Machine.execUnknownRequest dt byte s
  | .panelOverrun dt byte => Sys2Proof.Machine.execPanelOverrun dt byte s
  | .replyComplete => Sys2Proof.Machine.execReplyComplete s
  | .delimiterFound dt bits => Sys2Proof.Machine.execDelimiterFound dt bits s
  | .telegramAbandoned dt bytes => Sys2Proof.Machine.execTelegramAbandoned dt bytes s
  | .powerLost => Sys2Proof.Machine.execPowerLost s

end Sys2Proof.Machine
end

