-- ==== Sys2Proof/Machine/Outputs.lean ====
section
/-! DEFINITION. The levels at the outputs of section 11.3, as functions of the state (assumption 30). -/

namespace Sys2Proof.Machine

/-- The levels at the outputs. -/
structure OutputPins where
  contactor : Four Bool
  ballast : Bool
  clutch : Bool
  /-- the duty of FEED PWM, per-mille -/
  feedDuty : Nat
  feedDirection : Bool
  raise : Bool
  lower : Bool
  attention : Bool
  /-- the bytes of the telegram in transmission -/
  modem : List Byte
deriving DecidableEq, Repr

/-- The contactor of a switched circuit is closed while the circuit is ON (R115). -/
def State.contactor (s : State) (k : Circ) : Bool := s.circuitState k == .on

/-- The RAISE output (R161). -/
def TrimState.raises : TrimState → Bool
  | .raising _ => true
  | _ => false

/-- The LOWER output (R161). -/
def TrimState.lowers : TrimState → Bool
  | .lowering _ => true
  | _ => false

/-- The telegram in transmission (R50). -/
def TxState.onAir : TxState → List Byte
  | .sending out => out.bytes
  | _ => []

/-- The output pins of a state (R32, R43, R115, R137, R161, R190). -/
def State.outputs (s : State) : OutputPins where
  contactor := ⟨s.contactor .c0, s.contactor .c1, s.contactor .c2, s.contactor .c3⟩
  ballast := s.gov.switch
  clutch := s.clutchPin
  feedDuty := s.saw.feed.natAbs
  feedDirection := s.saw.feed < 0
  raise := s.gate.state.raises
  lower := s.gate.state.lowers
  attention := s.attention
  modem := s.tele.tx.onAir

/-- The bits that the modem sends of the telegram in transmission, each byte least significant bit first (R43). -/
def State.modemBits (s : State) : List Bool := wireBits s.tele.tx.onAir

end Sys2Proof.Machine
end

