-- ==== Sys2Proof/WellFormed.lean ====
section
/-! DEFINITION. Which commands are well formed: the ranges that the rules give their operands. `exec` is total on the
others too; what it does with them is said where it matters. -/

namespace Sys2Proof

/-- A station number (R70, 00_scope.md section 5). -/
def stationOk (n : Nat) : Bool := 1 ≤ n && n ≤ 31

/-- No block is named twice: a block takes a tick once (R1). -/
def blocksOk : List TickBlock → Bool
  | [] => true
  | b :: bs => !bs.contains b && blocksOk bs

/-- The request codes of the table of section 11.1. -/
def isRequestCode (b : Byte) : Bool := 1 ≤ b.toNat && b.toNat ≤ 9

/-- Header, body and check of a telegram the receiver accepts (R44, R60): four header bytes, a body as long as the
fourth says and at most 24, two check bytes. -/
def telegramLengthOk (bytes : List Byte) : Bool :=
  match bytes with
  | _ :: _ :: _ :: len :: rest => len.toNat ≤ 24 && rest.length == len.toNat + 2
  | _ => false

/-- A header whose length byte is above 24 (R60). -/
def abandonedHeaderOk (bytes : List Byte) : Bool :=
  match bytes with
  | [_, _, _, len] => 24 < len.toNat
  | _ => false

/-- The sixteen delimiter bits as they arrive, each byte least significant bit first (R43, R44). -/
def delimiterBits : List Bool :=
  [true, false, true, false, false, false, true, true,
   false, true, false, true, true, true, false, false]

/-- The bits end with the delimiter (R60). -/
def endsWithDelimiter (bits : List Bool) : Bool :=
  bits.drop (bits.length - 16) == delimiterBits

/-- The operands lie within what the rules give the command. -/
def Instr.wellFormed : Instr → Bool
  | .stationTick blocks _ => blocksOk blocks
  | .neighbourStale n => stationOk n
  | .neighbourAgedOut n => stationOk n
  | .holdExpiry owner tag => stationOk owner && tag ≤ 4
  | .telegramArrival _ bytes => telegramLengthOk bytes
  | .telegramAbandoned _ bytes => abandonedHeaderOk bytes
  | .delimiterFound _ bits => endsWithDelimiter bits
  | .attemptComplete _ bytes => bytes.length == 64
  | .unknownRequest _ b => !isRequestCode b
  | _ => true

end Sys2Proof
end

