-- ==== Sys2Proof/Safety.lean ====
section
/-! DEFINITION. What counts as a safe answer of a step, and the invariants of the part: the conditions that the rules
say hold between any two events. -/

namespace Sys2Proof.Machine

/-- The answer is a next state. -/
def completes : Host.Outcome State Fault Refusal → Bool
  | .next _ => true
  | .fault _ => false
  | .refused _ => false

/-- Every command waiting in the queue is well formed. -/
def State.queueOk (s : State) : Bool := s.pending.all Instr.wellFormed

/-- A condition that every step keeps. -/
def EveryStepKeeps (inv : State → Prop) : Prop := ∀ s t, inv s → step s = .next t → inv t

/-- The mode belongs to the Start Loader: START or HALTED. -/
def State.held (s : State) : Prop := s.mc.mode = .start ∨ s.mc.mode = .halted

/-- `n` lies in the range `lo`..`hi`. -/
def within (lo n hi : Nat) : Prop := lo ≤ n ∧ n ≤ hi

/-- Every event counter is a count that stops at 65,535 (00_scope.md section 6). -/
def countersOk (s : State) : Prop := ∀ n ∈ counterList s, n ≤ 65535

/-- The numeric fields lie in the ranges of the table of section 10.4, the linked ones included. -/
structure ConfigOk (c : Config) : Prop where
  fcfg : within 48000 c.fcfg 52000
  vmin : within 100 c.vmin 220
  k : c.k ≤ 4
  na : within 5 c.na 250
  nl : within 1 c.nl 15
  kp : c.kp ≤ 255
  ki : c.ki ≤ 255
  fover : within 500 c.fover 5000
  pb : c.pb ≤ 6000
  vn : within 200 c.vn 250
  hamlet : within 1 c.hamlet 254
  ia : within 25 c.ia 250
  nrep : within 1 c.nrep 4
  eq : within 1 c.eq 15
  trd : within 100 c.trd 3000
  lc : c.lc ≤ 30000
  reserve : c.reserve ≤ 10000
  th : within 10 c.th 250
  ts : within 25 c.ts 500
  tb : within 10 c.tb 250
  nf : within 1 c.nf 15
  lr : c.lr ≤ 15
  rating : ∀ k, c.rating.get k ≤ 15000
  cls : ∀ k, c.cls.get k ≤ 3
  u1 : within 200 c.u1 3000
  u2 : within 300 c.u2 5000
  u2Linked : c.u1 + 100 ≤ c.u2
  t1 : within 10 c.t1 500
  t2 : within 2 c.t2 100
  tq : within 50 c.tq 3000
  tr : within 50 c.tr 3000
  tce : within 10 c.tce 500
  trel : within 10 c.trel 500
  msp : within 50 c.msp 1000
  tsu : within 50 c.tsu 1500
  dsl : within 50 c.dsl 1000
  dslLinked : c.dsl + 50 ≤ c.dst
  dst : c.dst ≤ c.u1
  ff : within 50 c.ff 1000
  fc : within c.ff c.fc 1000
  rr : within 1 c.rr 200
  nst : within 1 c.nst 50
  nad : within 5 c.nad 250
  step : within 1 c.step 100
  rbk : within 50 c.rbk 1000
  nbk : within 5 c.nbk 250
  lst : within 1 c.lst 10
  rrt : within 100 c.rrt 1000
  tready : within 250 c.tready 15000
  ht : c.ht ≤ 1000
  band : c.band ≤ 500
  ng : within 1 c.ng 15
  tgi : within 250 c.tgi 15000
  lp : within 5 c.lp 250
  tdm : within 500 c.tdm 60000
  trw : within 100 c.trw 3000
  tsg : within 10 c.tsg 250

/-- The configuration in force is in range (R183). -/
def configOk (s : State) : Prop := ConfigOk s.cfg

/-- The ticks and the samples lie on their grids from power-on (R1, R6). -/
structure GridOk (t : Time) : Prop where
  tick : t.lastTick % 20000 = 0
  tickPast : t.lastTick ≤ t.now
  sample : t.lastSample % 200 = 0
  samplePast : t.lastSample ≤ t.now

/-- The timebase of a state keeps its grids. -/
def gridOk (s : State) : Prop := GridOk s.time

/-- The Line Meter's figures (R4, R5, R8, R11 to R13). -/
structure MeterOk (c : Config) (m : Meter) : Prop where
  elapsed : m.elapsed ≤ 65535
  silence : m.silence ≤ 40000
  sumSq : m.sumSq ≤ 261121 * m.samples
  filtered : within 40000 m.filtered 62500
  cycleCount : m.cycleCount ≤ 65535
  acquiring : m.lock = .acquiring → 1 ≤ m.goodRun ∧ m.goodRun < c.na
  locked : m.lock = .locked → m.badRun = 0
  doubtful : m.lock = .doubtful → m.badRun < c.nl
  goodRun : m.goodRun ≤ 250
  badRun : m.badRun ≤ 15

/-- The meter is in order under a configuration that is in range. -/
def meterOk (s : State) : Prop := ConfigOk s.cfg ∧ MeterOk s.cfg s.meter

/-- The governor's figures (R22, R23, R27, R29, R31, R33, R35). -/
structure GovernorOk (g : Governor) : Prop where
  target : within 48000 g.target 52000
  setPoint : within 48000 g.setPoint 52000
  integral : g.integral ≤ 256000
  demand : g.demand ≤ 1000
  burst : g.burst ≤ 999
  absorbed : g.absorbed ≤ g.capacity
  sums : g.sumAbsorbed ≤ g.sumCapacity

/-- The governor is in order under a configuration that is in range. -/
def governorOk (s : State) : Prop := ConfigOk s.cfg ∧ GovernorOk s.gov

/-- The receive quality counter and the quality agree (R63). -/
structure QualityOk (s : State) : Prop where
  config : ConfigOk s.cfg
  atMost : s.tele.qualityCount ≤ s.cfg.eq
  good : s.tele.quality = .good → s.tele.qualityCount < s.cfg.eq
  poor : s.tele.quality = .poor → 0 < s.tele.qualityCount
  held : s.held → s.tele.qualityCount = 0

/-- The recall wait stands in RECOVER only and the stagger remaining in STAGGER only (R174, R176). -/
structure ModeOk (m : ModeCtl) : Prop where
  waiting : m.recallWait.isSome = true ↔ m.mode = .recover
  stagger : m.stagger.isSome = true ↔ m.mode = .stagger
  dark : m.darkDuration ≤ 65535

/-- The Mode Controller of a state is in order. -/
def modeOk (s : State) : Prop := ModeOk s.mc

/-- The Neighbour Table is ascending, holds at most 16 records, and each record's condition follows its age (R70, R72,
R75). -/
structure TableOk (s : State) : Prop where
  config : ConfigOk s.cfg
  ascending : s.table.records.Pairwise fun x y => x.station < y.station
  atMost : s.table.records.length ≤ 16
  ages : ∀ n ∈ s.table.records, n.age < 8 * s.cfg.ia ∧ (n.condition = .fresh ↔ n.age < 3 * s.cfg.ia)
  held : s.held → s.table.records = []

/-- The claim list: its bounds, its distinct keys, the commitment limit, and no own claim outside RUN once the entry to
DARK has been taken (R86 to R88, R92, R101, R110). -/
structure ClaimsOk (s : State) : Prop where
  own : (s.adm.own.map OwnClaim.circuit).Nodup
  heard : (s.adm.heard.map fun h => (h.owner, h.tag)).Nodup
  heardAtMost : s.adm.heard.length ≤ 7
  holds : ∀ h ∈ s.adm.heard, 1 ≤ h.hold
  classes : ∀ c ∈ s.adm.own, c.effective ≤ c.cls ∧ c.retries ≤ 255
  commitment : s.adm.commitment ≤ s.cfg.lc
  run : s.adm.own ≠ [] → s.mc.mode = .run ∨ s.handed.dark.admission = true
  held : s.held → s.adm.own = []

/-- The tag of a copy. -/
def Copy.tag : Copy → Circ
  | .claim k => k
  | .release k => k

/-- What the deferral of a group of own claims leaves: DEFERRALS, PROMOTIONS and REFUSALS are counted, the CLAIM
schedule of each ends with its waiting copy, a RELEASE schedule of two copies starts with its first copy in the list,
and no other schedule or copy changes (R49, R58, R59, R100 to R102). Where the Telegram Controller has already taken the
entry to DARK, the RELEASE schedules end as they start (R59, R68; assumption 35). -/
structure GroupDeferred (group : List OwnClaim) (s t : State) : Prop where
  deferrals : t.adm.deferrals = min 65535 (s.adm.deferrals + group.length)
  promotions :
    t.adm.promotions =
      min 65535 (s.adm.promotions + (group.filter fun o => (o.deferral s.cfg).effective < o.effective).length)
  refusals :
    t.adm.refusals =
      min 65535 (s.adm.refusals + (group.filter fun o => (o.deferral s.cfg).exhausted s.cfg.lr).length)
  claims : ∀ k,
    t.tele.claimSchedules.get k =
      if k ∈ group.map OwnClaim.circuit then none else s.tele.claimSchedules.get k
  releases : ∀ k,
    t.tele.releaseSchedules.get k =
      if k ∈ group.map OwnClaim.circuit then (if s.telegramsWentDark then none else some ⟨2, none⟩)
      else s.tele.releaseSchedules.get k
  list :
    t.tele.list =
      (s.tele.list.filter fun c => !(group.map OwnClaim.circuit).contains c.tag) ++
        if s.telegramsWentDark then [] else (group.map OwnClaim.circuit).map Copy.release
  slot : t.tele.slot = s.tele.slot

/-- An own claim of the circuit is in HOLDOFF or SETTLING. -/
def announced (s : State) (k : Circ) : Prop := ∃ c ∈ s.adm.own, c.circuit = k ∧ (c.inHoldoff || c.inSettling) = true

/-- The transmit queue, the repeat schedules and the transmitter agree (R48, R49, R51, R57 to R59). -/
structure TransmitterOk (s : State) : Prop where
  own : (s.adm.own.map OwnClaim.circuit).Nodup
  oneCopy : (s.tele.list.map Copy.tag).Nodup
  claimCopy : ∀ k, Copy.claim k ∈ s.tele.list → ∃ n, s.tele.claimSchedules.get k = some ⟨n, none⟩
  releaseCopy : ∀ k, Copy.release k ∈ s.tele.list → ∃ n, s.tele.releaseSchedules.get k = some ⟨n, none⟩
  oneSchedule : ∀ k, s.tele.claimSchedules.get k = none ∨ s.tele.releaseSchedules.get k = none
  forClaim : ∀ k, s.tele.claimSchedules.get k ≠ none → announced s k
  claimOnAir : ∀ k b d, s.tele.tx = .sending ⟨.claim k true, b, d⟩ →
    Copy.claim k ∉ s.tele.list ∧ ∃ n, s.tele.claimSchedules.get k = some ⟨n, none⟩
  releaseOnAir : ∀ k b d, s.tele.tx = .sending ⟨.release k true, b, d⟩ →
    Copy.release k ∉ s.tele.list ∧ ∃ n, s.tele.releaseSchedules.get k = some ⟨n, none⟩
  idle : s.tele.tx = .idle → s.tele.queued = false
  gap : s.tele.tx = .gap → s.tele.queued = true ∧ s.tele.carrier = false
  waiting : s.tele.tx = .carrierWait → s.tele.queued = true ∧ s.tele.carrier = true
  sending : s.tele.tx.isSending = true → s.tele.rx = .closed
  held : s.held → ∀ k, s.tele.claimSchedules.get k = none

/-- A circuit is in use only while the Circuit Controller is active, which it is only in RUN until it takes the entry to
DARK; circuit 4 is ON only while the drive asks for the clutch, and WAITING only while the saw is CLAIMING (R115, R117,
R121, R138). -/
structure CircuitsOk (s : State) : Prop where
  inactive : s.circ.active = false → ∀ k, s.circuitState k = .off
  active : s.circ.active = true → s.mc.mode = .run ∨ s.handed.dark.circuit = true
  sawOn : s.circuitState .c4 = .on → s.saw.state.asksClutch = true
  sawWaiting : s.circuitState .c4 = .waiting → s.saw.state = .claiming
  sawNotShed : s.circuitState .c4 ≠ .shed
  sawNotPaused : ∀ n, s.circuitState .c4 ≠ .paused n
  sawNotMarked : (s.circ.table.get .c4).mark = false

/-- The rotation lists: empty until START has succeeded, which is as long as the mode belongs to the Start Loader; from
then on each index stands exactly once, in the list of its configured class (R126, R133). -/
structure RotationOk (s : State) : Prop where
  config : ConfigOk s.cfg
  held : s.held → s.circ.rotation = ⟨[], [], [], []⟩
  built : ¬s.held → ∀ cls, cls ≤ 3 →
    (s.circ.rotation.get cls).Nodup ∧ ∀ k, k ∈ s.circ.rotation.get cls ↔ s.cfg.cls.get k = cls

/-- The feed command by the state of the saw, and the bounds of the base feed (R137, R146, R150, R151). -/
structure SawOk (s : State) : Prop where
  config : ConfigOk s.cfg
  base : within s.cfg.ff s.saw.baseFeed s.cfg.fc
  cutting : s.saw.state = .cutting → 0 ≤ s.saw.feed ∧ s.saw.feed ≤ s.saw.baseFeed
  backoff : ∀ n, s.saw.state = .backoff n → s.saw.feed = -(s.cfg.rbk : Int)
  returning : s.saw.state = .returning → s.saw.feed = -(s.cfg.rrt : Int)
  still : s.saw.state ≠ .cutting → (∀ n, s.saw.state ≠ .backoff n) → s.saw.state ≠ .returning → s.saw.feed = 0
  held : s.held → s.saw.state = .idle

/-- Gate Trim's counts and pulses (R161, R162, R164, R167). -/
structure GateOk (s : State) : Prop where
  inactive : s.gate.active = false → s.gate.state = .rest ∧ s.gate.high = 0 ∧ s.gate.low = 0
  active : s.gate.active = true → (s.mc.mode = .run ∨ s.handed.dark.gate = true) ∧ s.cfg.gateFitted = true
  held : s.held → s.gate.active = false
  counts : s.gate.high ≤ s.cfg.ng ∧ s.gate.low ≤ s.cfg.ng ∧ (s.gate.high = 0 ∨ s.gate.low = 0)
  raising : s.gate.state.raises = true → s.gate.openLimit.level = false
  lowering : s.gate.state.lowers = true → s.gate.closedLimit.level = false
  since : s.gate.sinceLast ≤ 65535

/-- In START and HALTED all outputs but ATTENTION are off, the Telegram Controller neither sends nor receives, and no
cause of ATTENTION stands but HALTED itself (R180, R185, R190). -/
structure Quiet (s : State) : Prop where
  circuits : s.circ.active = false ∧ ∀ k, s.circuitState k = .off
  ballast : s.gov.switch = false
  saw : s.saw.state = .idle ∧ s.saw.feed = 0
  gate : s.gate.state = .rest ∧ s.gate.active = false
  claims : s.adm.own = [] ∧ s.adm.heard = []
  table : s.table.records = []
  queue : s.tele.slot = none ∧ s.tele.list = []
  schedules : ∀ k, s.tele.claimSchedules.get k = none ∧ s.tele.releaseSchedules.get k = none
  air : s.tele.tx = .idle ∧ s.tele.rx = .closed
  causes : s.tele.duplicateTimer = 0 ∧ s.tele.quality = .good ∧ s.loader.clampCount = 0

/-- Quiet while the mode belongs to the Start Loader. -/
def heldQuiet (s : State) : Prop := s.held → Quiet s

end Sys2Proof.Machine
end

