-- ==== Sys2Proof/Certificates/Slice0/Obligations.lean ====
section
/-! DEFINITION. The statements for the provers. Each says what a rule of spec/ says of the model; OBLIGATIONS.json lists
them with the rule or the section each rests on. -/

open Sys2Proof Sys2Proof.Machine

/-! ### The queue, the supply and reset -/

/-- A step runs the command at the front of the queue on the state with the queue's rest; on an empty queue the part
idles, which is the model's choice (assumption 1). -/
def Obligations.StepTakesTheFrontCommand : Prop :=
  (∀ (c : Instr) (rest : List Instr) (s : State), s.pending = c :: rest →
    step s = exec c { s with pending := rest }) ∧
  ∀ s : State, s.pending = [] → step s = .next s

/-- No command changes the queue, POWER_ON and POWER_LOST included. The spec names no queue of commands: the queue is
the model's own (assumption 1), and so is that the two commands of the supply keep it (assumption 8). -/
def Obligations.ExecKeepsTheQueue : Prop :=
  ∀ (c : Instr) (s t : State), exec c s = .next t → t.pending = s.pending

/-- Every command completes, but for an ATTEMPT_COMPLETE that does not bring 64 bytes, which no completed attempt does
(R181; assumption 18). POWER_ON gives the power-on state and POWER_LOST loses all state (R172, R180); that both keep the
queue, and that no other command acts without power, is the model's reading (assumptions 1 and 8). -/
def Obligations.CommandsCompleteAndNeedPower : Prop :=
  (∀ (c : Instr) (s : State), (∃ t, exec c s = .next t) ∨
    ∃ dt bytes, c = .attemptComplete dt bytes ∧ bytes.length ≠ 64 ∧ exec c s = .fault .notSixtyFourBytes) ∧
  (∀ s : State, exec .powerOn s = .next { State.reset with pending := s.pending }) ∧
  (∀ s : State, exec .powerLost s = .next { State.reset with pending := s.pending, powered := false }) ∧
  ∀ (c : Instr) (s t : State), s.powered = false → c ≠ .powerOn → c ≠ .powerLost → exec c s = .next t → t = s

/-- The power-on values that the rules of the blocks give, the debounced levels and runs of the eleven inputs and the
outputs among them (R17, R39, R69, R83, R111, R116, R133, R136, R158, R162, R169, R179, R180, R191), and the invariants
of Safety.lean right after power-on. -/
def Obligations.PowerOnValuesAndInvariants : Prop :=
  let s := State.reset
  (s.mc.mode = .start ∧ s.mc.darkDuration = 0 ∧ s.mc.recallWait = none ∧ s.mc.stagger = none) ∧
  (∀ n ∈ counterList s, n = 0) ∧
  (s.meter.filtered = 50000 ∧ s.meter.lock = .lost) ∧
  (s.gov.setPoint = 50000 ∧ s.gov.target = 50000 ∧ s.gov.demand = 0 ∧ s.gov.integral = 0 ∧ s.gov.burst = 0 ∧
    s.gov.switch = false ∧ s.gov.absorbed = 0 ∧ s.gov.capacity = 0 ∧ s.gov.sumAbsorbed = 0 ∧ s.gov.sumCapacity = 0 ∧
    s.gov.sumCount = 0) ∧
  (s.tele.slot = none ∧ s.tele.list = [] ∧ s.tele.tx = .idle ∧ s.tele.rx = .closed ∧ s.tele.statusCount = 0 ∧
    s.tele.recallDuration = 0 ∧ s.tele.qualityCount = 0 ∧ s.tele.quality = .good ∧ s.tele.duplicateTimer = 0 ∧
    ∀ k, s.tele.claimSchedules.get k = none ∧ s.tele.releaseSchedules.get k = none) ∧
  (s.table.records = [] ∧ s.adm.own = [] ∧ s.adm.heard = []) ∧
  (s.circ.active = false ∧ s.circ.stage1 = false ∧ s.circ.stage2 = false ∧ s.circ.timer1 = 0 ∧ s.circ.timer2 = 0 ∧
    s.circ.restoreTimer = 0 ∧ s.circ.kept = none ∧ s.circ.rotation = ⟨[], [], [], []⟩ ∧
    s.circ.demand = ⟨⟨false, 0⟩, ⟨false, 0⟩, ⟨false, 0⟩, ⟨false, 0⟩⟩ ∧ ∀ k, s.circ.table.get k = ⟨.off, false⟩) ∧
  (s.saw.state = .idle ∧ s.saw.feed = 0 ∧ s.saw.baseFeed = 300 ∧ s.saw.stallRun = 0 ∧ s.saw.stallCount = 0 ∧
    s.saw.adaptCount = 0 ∧ s.saw.adaptFull = true ∧ s.saw.adaptLow = false ∧ s.saw.target = none ∧
    s.saw.start = ⟨false, 0⟩ ∧ s.saw.stop = ⟨false, 0⟩ ∧ s.saw.clutchClosed = ⟨false, 0⟩ ∧
    s.saw.forwardLimit = ⟨false, 0⟩ ∧ s.saw.returnLimit = ⟨false, 0⟩) ∧
  (s.gate.state = .rest ∧ s.gate.sinceLast = 65535 ∧ s.gate.high = 0 ∧ s.gate.low = 0 ∧ s.gate.active = false ∧
    s.gate.evaluation = none ∧ s.gate.openLimit = ⟨false, 0⟩ ∧ s.gate.closedLimit = ⟨false, 0⟩) ∧
  (s.loader.strapLatch = 0 ∧ s.loader.strapDone = false ∧ s.loader.status = .notRun ∧ s.loader.attempts = 0 ∧
    s.loader.clampCount = 0 ∧ s.cfg = defaultConfig) ∧
  (s.panel.pendingRequest = none ∧ s.panel.reply = none ∧ s.attention = false) ∧
  (s.outputs =
    { contactor := ⟨false, false, false, false⟩, ballast := false, clutch := false, feedDuty := 0,
      feedDirection := false, raise := false, lower := false, attention := false, modem := [] }) ∧
  countersOk s ∧ configOk s ∧ gridOk s ∧ meterOk s ∧ governorOk s ∧ QualityOk s ∧ modeOk s ∧ TableOk s ∧ ClaimsOk s ∧
    TransmitterOk s ∧ CircuitsOk s ∧ RotationOk s ∧ SawOk s ∧ GateOk s ∧ heldQuiet s

/-! ### The station tick -/

/-- A tick falls on the grid of 20,000 µs from power-on, and every block takes it once: a block that has taken it does
nothing when it is named again, a block that waits beside others does the same work as when it waits alone and leaves
the others waiting, a command that names several blocks is the commands that name one of them each, in turn, as far as
the tick goes, and a command that names none only brings a new tick (R1; that the commands name the blocks is
assumption 3). A block's tick work leaves alone all that its rules do not name (R54, R75, R95, R123, R157, R167,
R173). -/
def Obligations.TickFallsOnTheGrid : Prop :=
  (∀ (b : TickBlock) (p : Pins) (s : State), s.powered = true → gridOk s → s.time.tickWaiting = [] →
    s.time.now < s.time.lastTick + 20000 →
    ∃ t, exec (.stationTick [b] p) s = .next t ∧ t.time.now = s.time.lastTick + 20000 ∧
      t.time.lastTick = s.time.lastTick + 20000 ∧ t.time.lastSample = s.time.lastSample ∧
      t.time.tickWaiting = TickBlock.all.filter fun c => !(c == b)) ∧
  (∀ (b : TickBlock) (p : Pins) (s : State), s.powered = true → s.time.tickWaiting ≠ [] → b ∉ s.time.tickWaiting →
    exec (.stationTick [b] p) s = .next s) ∧
  (∀ (b : TickBlock) (p : Pins) (s : State), s.powered = true → b ∈ s.time.tickWaiting →
    ∃ t, exec (.stationTick [b] p) { s with time := { s.time with tickWaiting := [b] } } = .next t ∧
      exec (.stationTick [b] p) s =
        .next { t with time := { t.time with tickWaiting := s.time.tickWaiting.filter fun c => !(c == b) } }) ∧
  (∀ (b : TickBlock) (rest : List TickBlock) (p : Pins) (s t : State), s.powered = true →
    exec (.stationTick [b] p) s = .next t →
    exec (.stationTick (b :: rest) p) s =
      if t.time.tickWaiting = [] then .next t else exec (.stationTick rest p) t) ∧
  (∀ (p : Pins) (s : State), s.powered = true →
    ∃ t, exec (.stationTick [] p) s = .next t ∧
      (s.time.tickWaiting ≠ [] → t = s) ∧
      (s.time.tickWaiting = [] → t.time.tickWaiting = TickBlock.all ∧
        ∀ b, exec (.stationTick [b] p) s = exec (.stationTick [b] p) t)) ∧
  ∀ (b : TickBlock) (p : Pins) (s : State), s.powered = true → s.time.tickWaiting = [b] →
    let kept := { s with time := { s.time with tickWaiting := [] } }
    ∃ t, exec (.stationTick [b] p) s = .next t ∧
      match b with
      | .telegram =>
        t = { kept with
          tele := t.tele
          gov :=
            { s.gov with
              sumAbsorbed := t.gov.sumAbsorbed, sumCapacity := t.gov.sumCapacity, sumCount := t.gov.sumCount }
          handed := { s.handed with evaluations := t.handed.evaluations } }
      | .neighbour => t = { kept with table := t.table, handed := { s.handed with removed := t.handed.removed } }
      | .admission =>
        t = { kept with adm := t.adm, tele := t.tele, handed := { s.handed with answers := t.handed.answers } }
      | .circuit =>
        t = { kept with circ := t.circ, saw := t.saw, handed := { s.handed with requests := t.handed.requests } }
      | .saw =>
        t = { kept with saw := t.saw, circ := t.circ, handed := { s.handed with requests := t.handed.requests } }
      | .gate => t = { kept with gate := t.gate }
      | .mode =>
        t = { kept with
          mc := t.mc
          circ := { s.circ with table := t.circ.table }
          handed :=
            { s.handed with
              circuitRun := t.handed.circuitRun, gateRun := t.handed.gateRun, evaluations := t.handed.evaluations } }

/-- Every input is debounced at every tick that its block takes, in every mode, and a change is believed at the third
sample in a row that shows it (R116, R136, R162). -/
def Obligations.InputsAreDebounced : Prop :=
  (∀ (d : Debouncer) (v : Bool), d.level ≠ v → d.run = 0 →
    (d.sample v).level = d.level ∧ ((d.sample v).sample v).level = d.level ∧
      (((d.sample v).sample v).sample v) = ⟨v, 0⟩) ∧
  (∀ (d : Debouncer) (v : Bool), d.level = v → d.sample v = ⟨v, 0⟩) ∧
  (∀ (p : Pins) (s : State), s.powered = true → s.time.tickWaiting = [.circuit] →
    ∃ t, exec (.stationTick [.circuit] p) s = .next t ∧
      t.circ.demand =
        ⟨s.circ.demand.k0.sample p.demand0, s.circ.demand.k1.sample p.demand1, s.circ.demand.k2.sample p.demand2,
          s.circ.demand.k3.sample p.demand3⟩) ∧
  (∀ (p : Pins) (s : State), s.powered = true → s.time.tickWaiting = [.saw] →
    ∃ t, exec (.stationTick [.saw] p) s = .next t ∧
      t.saw.start = s.saw.start.sample p.start ∧ t.saw.stop = s.saw.stop.sample p.stop ∧
      t.saw.clutchClosed = s.saw.clutchClosed.sample p.clutchClosed ∧
      t.saw.forwardLimit = s.saw.forwardLimit.sample p.forwardLimit ∧
      t.saw.returnLimit = s.saw.returnLimit.sample p.returnLimit) ∧
  ∀ (p : Pins) (s : State), s.powered = true → s.time.tickWaiting = [.gate] →
    ∃ t, exec (.stationTick [.gate] p) s = .next t ∧
      t.gate.openLimit = s.gate.openLimit.sample p.openLimit ∧
      t.gate.closedLimit = s.gate.closedLimit.sample p.closedLimit

/-- The Admission Controller's work at a tick, in the order of R95. The holds go down and those that reach 0 leave; the
settles go down and those that reach 0 leave with their CLAIM schedules and no RELEASE; the backoffs go down and those
that reach 0 rejoin QUEUED at the last places; the holdoffs go down, and those that reach 0 are decided as one group by
the headroom test, with the deferral of R100 for those that fail; where the mode is read as having left RUN they are
removed undecided; then QUEUED claims enter HOLDOFF, oldest first, in RUN and while neither SHEDDING flag holds, as long
as the commitment sum with the next one stays within Lc: a head that does not fit keeps all behind it waiting (R49, R57
to R59, R87, R92, R93, R95, R96, R98, R100 to R104, R107, R110; that admissions and deferrals interleave in the own
order is assumption 13, that the claims are removed where the mode has left RUN is assumption 37, and that a RELEASE
schedule ends as it starts where the Telegram Controller has taken the entry to DARK is assumption 35). -/
def Obligations.AdmissionTickWorksInOrder : Prop :=
  ∀ (p : Pins) (s : State), s.powered = true → s.time.tickWaiting = [.admission] → countersOk s →
    (s.adm.own.map OwnClaim.circuit).Nodup →
    let heard := (s.adm.heard.map fun h => { h with hold := h.hold - 1 }).filter fun h => h.hold != 0
    let settling := s.adm.own.map fun c =>
      match c.state with
      | .settling r => { c with state := .settling (r - 1) }
      | _ => c
    let settled := (settling.filter fun c => c.state == .settling 0).map OwnClaim.circuit
    let backing := (settling.filter fun c => c.state != .settling 0).map fun c =>
      match c.state with
      | .deferred r => { c with state := .deferred (r - 1) }
      | _ => c
    let rejoined :=
      (backing.filter fun c => c.state != .deferred 0) ++
        (backing.filter fun c => c.state == .deferred 0).map fun c => { c with state := .queued }
    let holding := rejoined.map fun c =>
      match c.state with
      | .holdoff r => { c with state := .holdoff (r - 1) }
      | _ => c
    let tested := { s with adm := { s.adm with own := holding, heard := heard } }
    let inRun := s.mc.mode == .run
    let admitted := holding.filter fun c => inRun && c.state == .holdoff 0 && headroom tested c
    let failed := holding.filter fun c => inRun && c.state == .holdoff 0 && !headroom tested c
    let lost := holding.filter fun c => !inRun && c.state == .holdoff 0
    let refused := failed.filter fun c => (c.deferral s.cfg).exhausted s.cfg.lr
    let decided := holding.filterMap fun c =>
      if c ∈ admitted then some { c with state := .settling s.cfg.ts }
      else if c ∈ refused ∨ c ∈ lost then none
      else if c ∈ failed then some (c.deferral s.cfg)
      else some c
    let committed := ((decided.filter fun c => c.inHoldoff || c.inSettling).map OwnClaim.amount).sum
    let circuits := fun cs : List OwnClaim => cs.map OwnClaim.circuit
    let silent := circuits lost
    let wentDark := s.handed.dark.admission && !s.handed.dark.telegram
    ∃ t advanced waiting, exec (.stationTick [.admission] p) s = .next t ∧
      (decided.filter fun c => c.state == .queued) = advanced ++ waiting ∧
      t.adm =
        { heard := heard
          own := decided.map fun c => if c ∈ advanced then { c with state := .holdoff s.cfg.th } else c
          admissions := min 65535 (s.adm.admissions + admitted.length)
          deferrals := min 65535 (s.adm.deferrals + failed.length)
          promotions :=
            min 65535
              (s.adm.promotions + (failed.filter fun c => (c.deferral s.cfg).effective < c.effective).length)
          refusals := min 65535 (s.adm.refusals + refused.length)
          claimOverflow := s.adm.claimOverflow } ∧
      (advanced ≠ [] → s.mc.mode = .run ∧ s.circ.shedding = false ∧ s.table.shedding = false ∧
        committed + (advanced.map OwnClaim.amount).sum ≤ s.cfg.lc) ∧
      (∀ c ∈ waiting.head?, s.mc.mode ≠ .run ∨ s.circ.shedding = true ∨ s.table.shedding = true ∨
        s.cfg.lc < committed + (advanced.map OwnClaim.amount).sum + c.amount) ∧
      t.handed.answers =
        s.handed.answers ++
          holding.filterMap (fun c =>
            if c ∈ admitted then some (.admitted c.circuit)
            else if c ∈ refused then some (.refused c.circuit)
            else none) ∧
      (∀ k, t.tele.claimSchedules.get k =
        if k ∈ circuits advanced then some ⟨s.cfg.nrep, none⟩
        else if k ∈ settled ++ silent ++ circuits failed then none
        else s.tele.claimSchedules.get k) ∧
      (∀ k, t.tele.releaseSchedules.get k =
        if k ∈ circuits advanced then none
        else if k ∈ circuits failed then (if wentDark then none else some ⟨2, none⟩)
        else s.tele.releaseSchedules.get k) ∧
      t.tele.list =
        (s.tele.list.filter fun c =>
            match c with
            | .claim k => decide (k ∉ settled ++ silent ++ circuits failed)
            | .release k => decide (k ∉ circuits failed ++ circuits advanced)) ++
          (if wentDark then [] else (circuits failed).map Copy.release) ++ (circuits advanced).map Copy.claim ∧
      t = { s with
        time := { s.time with tickWaiting := [] }
        adm := t.adm
        tele :=
          { s.tele with
            list := t.tele.list
            claimSchedules := t.tele.claimSchedules
            releaseSchedules := t.tele.releaseSchedules
            tx := t.tele.tx
            gapTimer := t.tele.gapTimer }
        handed := { s.handed with answers := t.handed.answers } }

/-! ### The Line Meter -/

/-- The two cycle ends of the meter. An accepted crossing has a period, its measures, its class and, where it is GOOD,
its f, and restarts both timers; the missing-crossing event, 40,000 µs after the silence timer started, is MISSING, has
none of them, and lets the elapsed time run on. Each moves the lock by the tables, counts LOCK LOSSES and BAD CYCLES,
empties the accumulation and hands the new record to the four readers (R3 to R5, R8 to R16). A run that no row of the
tables names keeps its value, which is the model's reading (assumption 10). -/
def Obligations.CycleEndsOfTheMeter : Prop :=
  ∀ s : State, s.powered = true → s.mc.mode ≠ .start →
    let g := s.meter.goodRun
    let b := s.meter.badRun
    let lockAfter : Bool → Lock × Nat × Nat := fun good =>
      match s.meter.lock, good with
      | .lost, true => (.acquiring, 1, b)
      | .lost, false => (.lost, 0, b)
      | .acquiring, true => if s.cfg.na ≤ g + 1 then (.locked, g + 1, 0) else (.acquiring, g + 1, b)
      | .acquiring, false => (.lost, 0, b)
      | .locked, true => (.locked, g, 0)
      | .locked, false => if s.cfg.nl ≤ 1 then (.lost, 0, 1) else (.doubtful, g, 1)
      | .doubtful, true => (.locked, g, 0)
      | .doubtful, false => if s.cfg.nl ≤ b + 1 then (.lost, 0, b + 1) else (.doubtful, g, b + 1)
    let losses : Bool → Nat := fun good =>
      if (s.meter.lock = .locked ∨ s.meter.lock = .doubtful) ∧ (lockAfter good).1 = .lost then
        min 65535 (s.meter.lockLosses + 1)
      else s.meter.lockLosses
    let count := (s.meter.cycleCount + 1) % 65536
    let published := fun (dt : Nat) (m : Meter) =>
      { s with
        time := { s.time with now := s.time.now + dt }
        tele := (elapse dt s).tele
        meter := m
        handed :=
          { s.handed with
            governorRecords := s.handed.governorRecords ++ [m.record]
            circuitRecords := s.handed.circuitRecords ++ [m.record]
            sawRecords := s.handed.sawRecords ++ [m.record]
            modeRecords := s.handed.modeRecords ++ [m.record] } }
    (∀ dt : Nat, 8000 ≤ min 65535 (s.meter.elapsed + dt) →
      let period := min 65535 (s.meter.elapsed + dt)
      let ms := if s.meter.samples = 0 then 0 else s.meter.sumSq / s.meter.samples
      let cls : CycleClass :=
        if period < 16000 ∨ 25000 < period then .badRange else if isqrt ms < s.cfg.vmin then .badVoltage else .good
      let good := cls == .good
      let f := 1000000000 / period
      let filtered :=
        if good then
          if s.meter.lock = .locked ∨ s.meter.lock = .doubtful then
            ((s.meter.filtered : Int) + Int.tdiv ((f : Int) - s.meter.filtered) (2 ^ s.cfg.k)).toNat
          else f
        else s.meter.filtered
      exec (.zeroCrossing dt) s =
        .next
          (published dt
            { elapsed := 0
              silence := 0
              sumSq := 0
              samples := 0
              filtered := filtered
              lock := (lockAfter good).1
              goodRun := (lockAfter good).2.1
              badRun := (lockAfter good).2.2
              cycleCount := count
              record :=
                { cycleCount := count
                  cls := cls
                  period := some period
                  freq := if good then some f else none
                  filtered := filtered
                  ms := some ms
                  vrms := some (isqrt ms)
                  lock := (lockAfter good).1 }
              chatter := s.meter.chatter
              badCycles := if good then s.meter.badCycles else min 65535 (s.meter.badCycles + 1)
              lockLosses := losses good })) ∧
    (s.meter.silence ≤ 40000 →
      let dt := 40000 - s.meter.silence
      exec .missingCrossingEvent s =
        .next
          (published dt
            { elapsed := min 65535 (s.meter.elapsed + dt)
              silence := 0
              sumSq := 0
              samples := 0
              filtered := s.meter.filtered
              lock := (lockAfter false).1
              goodRun := (lockAfter false).2.1
              badRun := (lockAfter false).2.2
              cycleCount := count
              record :=
                { cycleCount := count
                  cls := .missing
                  period := none
                  freq := none
                  filtered := s.meter.filtered
                  ms := none
                  vrms := none
                  lock := (lockAfter false).1 }
              chatter := s.meter.chatter
              badCycles := min 65535 (s.meter.badCycles + 1)
              lockLosses := losses false }))

/-- A crossing within 8,000 µs is chatter; a sample joins the accumulation; the lock is acquired at good run Na and lost
at bad run Nl (R3, R6, R7, R12, R13; that the last two can be commanded by themselves is assumption 5). In START the
meter is idle: crossings, samples, the missing-crossing event and the lock events change nothing of it, and no Line
Record is published (R2, R17). -/
def Obligations.ChatterSamplesAndLock : Prop :=
  (∀ (dt : Nat) (s : State), s.powered = true → s.mc.mode ≠ .start → s.meter.elapsed + dt < 8000 →
    exec (.zeroCrossing dt) s =
      .next
        ((elapse dt s).setMeter
          { (elapse dt s).meter with chatter := min 65535 (s.meter.chatter + 1) })) ∧
  (∀ (v : Int) (s : State), s.powered = true → s.mc.mode ≠ .start →
    let t := elapseTo (nextInstant 200 s.time.lastSample s.time.now) s
    let sample := (if v < -511 then -511 else if 511 < v then 511 else v).natAbs
    exec (.adcSample v) s =
      .next
        { t with
          time := { t.time with lastSample := t.time.now }
          meter :=
            { t.meter with sumSq := s.meter.sumSq + sample * sample, samples := s.meter.samples + 1 } }) ∧
  (∀ s : State, s.powered = true → s.mc.mode ≠ .start → s.meter.lock = .acquiring → s.meter.goodRun + 1 = s.cfg.na →
    exec .lockAcquired s =
      .next { s with meter := { s.meter with lock := .locked, goodRun := s.cfg.na, badRun := 0 } }) ∧
  (∀ s : State, s.powered = true → s.mc.mode ≠ .start → s.meter.lock = .doubtful → s.meter.badRun + 1 = s.cfg.nl →
    exec .lockLost s =
      .next
        { s with
          meter :=
            { s.meter with
              lock := .lost
              goodRun := 0
              badRun := s.cfg.nl
              lockLosses := min 65535 (s.meter.lockLosses + 1) } }) ∧
  ∀ s : State, s.powered = true → s.mc.mode = .start →
    (∀ dt, exec (.zeroCrossing dt) s = .next (elapse dt s) ∧ (elapse dt s).meter = s.meter) ∧
    (∀ v, ∃ t, exec (.adcSample v) s = .next t ∧ t.meter = s.meter ∧
      t = { s with time := t.time, tele := { s.tele with gapTimer := t.tele.gapTimer } }) ∧
    exec .missingCrossingEvent s = .next s ∧ exec .lockAcquired s = .next s ∧ exec .lockLost s = .next s

/-- R10: a GOOD cycle end has f = floor(10⁹ / P), which lies within 40,000..62,500 mHz; a cycle end of any other class
has no f. -/
def Obligations.FrequencyOfAGoodCycle : Prop :=
  (∀ (cfg : Config) (p : Option Nat) (m : Meter),
    let r := (m.cycleEnd cfg p).record
    (r.cls = .good →
      ∃ period, p = some period ∧ 16000 ≤ period ∧ period ≤ 25000 ∧ r.freq = some (1000000000 / period) ∧
        40000 ≤ 1000000000 / period ∧ 1000000000 / period ≤ 62500) ∧
    (r.cls ≠ .good → r.freq = none)) ∧
  frequency 19952 = 50120

/-- R8: MS is floor(Σs² / n) and Vrms its integer square root, both 0 where n is 0, within 0..261,121 and 0..511; a
MISSING cycle end has neither. The premise is the bound that the clamp of R6 gives the accumulation. -/
def Obligations.MeanSquareAndVrms : Prop :=
  (∀ (cfg : Config) (period : Nat) (m : Meter), m.sumSq ≤ 261121 * m.samples →
    ∃ ms v, (m.cycleEnd cfg (some period)).record.ms = some ms ∧
      (m.cycleEnd cfg (some period)).record.vrms = some v ∧
      ms = (if m.samples = 0 then 0 else m.sumSq / m.samples) ∧
      v * v ≤ ms ∧ ms < (v + 1) * (v + 1) ∧ ms ≤ 261121 ∧ v ≤ 511) ∧
  (∀ (cfg : Config) (m : Meter),
    (m.cycleEnd cfg none).record.ms = none ∧ (m.cycleEnd cfg none).record.vrms = none) ∧
  meanSquare 5300000 100 = 53000 ∧ isqrt 53000 = 230

/-! ### The Ballast Governor -/

/-- A GOOD cycle end while governing, without overspeed: the target, Fs moved toward it by at most 10 mHz, e, A, D, the
firing decision and the watts (R22, R23, R25 to R27, R29, R31, R33, R35, R80). -/
def Obligations.GoverningAtAGoodCycleEnd : Prop :=
  ∀ (r : LineRecord) (rest : List LineRecord) (ms : Nat) (s : State), s.powered = true →
    s.handed.governorRecords = r :: rest → s.mc.mode.online = true → r.lock.trusted = true → r.cls = .good →
    r.ms = some ms →
    let anchorSetPoint :=
      (s.table.records.find? fun n => n.condition == .fresh && n.flags.anchor && n.setPoint.isSome).bind
        Neighbour.setPoint
    let target :=
      if s.cfg.adopt = true ∧ s.cfg.anchor = false then
        match anchorSetPoint with
        | some sp => if sp < 48000 then 48000 else if 52000 < sp then 52000 else sp
        | none => s.cfg.fcfg
      else s.cfg.fcfg
    let fs :=
      if s.gov.setPoint ≤ target + 10 ∧ target ≤ s.gov.setPoint + 10 then target
      else if s.gov.setPoint < target then s.gov.setPoint + 10
      else s.gov.setPoint - 10
    let e := (r.filtered : Int) - fs
    r.filtered < fs + s.cfg.fover →
    let a := (clampInt ((s.gov.integral : Int) + s.cfg.ki * e) 0 256000).toNat
    let d := (clampInt (Int.tdiv (s.cfg.kp * e) 16 + (a / 256 : Nat)) 0 1000).toNat
    let w := s.cfg.pb * d * ms / (1000 * (s.cfg.vn * s.cfg.vn))
    let c := s.cfg.pb * ms / (s.cfg.vn * s.cfg.vn)
    exec .governorCycleEnd s =
      .next
        { s with
          gov :=
            { s.gov with
              target := target
              setPoint := fs
              lastError := some e
              integral := a
              demand := d
              burst := if 1000 ≤ s.gov.burst + d then s.gov.burst + d - 1000 else s.gov.burst + d
              switch := 1000 ≤ s.gov.burst + d
              absorbed := w
              capacity := c
              sumAbsorbed := s.gov.sumAbsorbed + w
              sumCapacity := s.gov.sumCapacity + c
              sumCount := s.gov.sumCount + 1 }
          handed := { s.handed with governorRecords := rest } }

/-- The other cycle ends of the governor. An inactive one clears the figures; a MISSING one opens the switch and holds
the rest; a BAD one holds the target, Fs, D and A, and fires and counts the watts of the held D; at overspeed the target
and Fs move as at any GOOD cycle end, D is 1000, A is held, the switch closes with B as it was, and the watts are those
of 1000 per-mille (R20, R22, R23, R25, R28, R30 to R33, R35). That an inactive, a MISSING and a BAD one keep the e that
LINE shows is assumption 22. -/
def Obligations.GoverningAtOtherCycleEnds : Prop :=
  ∀ (r : LineRecord) (rest : List LineRecord) (ms : Nat) (s : State), s.powered = true →
    s.handed.governorRecords = r :: rest →
    let governs := s.mc.mode.online = true ∧ r.lock.trusted = true
    let answered := fun g : Governor =>
      exec .governorCycleEnd s = .next { s with gov := g, handed := { s.handed with governorRecords := rest } }
    let w := fun d : Nat => s.cfg.pb * d * ms / (1000 * (s.cfg.vn * s.cfg.vn))
    let c := s.cfg.pb * ms / (s.cfg.vn * s.cfg.vn)
    (¬governs →
      answered
        { s.gov with
          demand := 0, integral := 0, burst := 0, switch := false, absorbed := 0, capacity := 0, sumAbsorbed := 0,
          sumCapacity := 0, sumCount := 0 }) ∧
    (governs → r.cls = .missing → answered { s.gov with switch := false, absorbed := 0, capacity := 0 }) ∧
    (governs → r.cls = .badRange ∨ r.cls = .badVoltage → r.ms = some ms →
      let fired := 1000 ≤ s.gov.burst + s.gov.demand
      answered
        { s.gov with
          burst := if fired then s.gov.burst + s.gov.demand - 1000 else s.gov.burst + s.gov.demand
          switch := fired
          absorbed := w s.gov.demand
          capacity := c
          sumAbsorbed := s.gov.sumAbsorbed + w s.gov.demand
          sumCapacity := s.gov.sumCapacity + c
          sumCount := s.gov.sumCount + 1 }) ∧
    (governs → r.cls = .good → r.ms = some ms →
      let anchorSetPoint :=
        (s.table.records.find? fun n => n.condition == .fresh && n.flags.anchor && n.setPoint.isSome).bind
          Neighbour.setPoint
      let target :=
        if s.cfg.adopt = true ∧ s.cfg.anchor = false then
          match anchorSetPoint with
          | some sp => if sp < 48000 then 48000 else if 52000 < sp then 52000 else sp
          | none => s.cfg.fcfg
        else s.cfg.fcfg
      let fs :=
        if s.gov.setPoint ≤ target + 10 ∧ target ≤ s.gov.setPoint + 10 then target
        else if s.gov.setPoint < target then s.gov.setPoint + 10
        else s.gov.setPoint - 10
      fs + s.cfg.fover ≤ r.filtered →
      answered
        { s.gov with
          target := target
          setPoint := fs
          lastError := some ((r.filtered : Int) - fs)
          demand := 1000
          switch := true
          absorbed := w 1000
          capacity := c
          sumAbsorbed := s.gov.sumAbsorbed + w 1000
          sumCapacity := s.gov.sumCapacity + c
          sumCount := s.gov.sumCount + 1
          overspeedCycles := min 65535 (s.gov.overspeedCycles + 1) })

/-- Over a run of cycle ends with demands D, B stays within 0..999 and the number of cycles decided fired is
floor((B + ΣD) / 1000) (a clause of R31). -/
def Obligations.BurstFiringConservesDemand : Prop :=
  ∀ (g : Governor) (ds : List Nat), g.burst ≤ 999 → (∀ d ∈ ds, d ≤ 1000) →
    let fired := ds.foldl
      (fun (p : Governor × Nat) d => (({ p.1 with demand := d } : Governor).fire,
        p.2 + bit ({ p.1 with demand := d } : Governor).fire.switch)) (g, 0)
    fired.1.burst ≤ 999 ∧ fired.2 = (g.burst + ds.sum) / 1000 ∧ fired.1.burst = (g.burst + ds.sum) % 1000

/-! ### The Telegram Controller -/

/-- A CLAIM or a RELEASE of another station of the hamlet, framed as section 11.5 lays it out, arrives as it was sent:
it is counted RECEIVED, it brings the receive quality counter down, and its fields are handed to the Admission
Controller (R44, R45, R61 to R63, R66). That the bytes arrive at the one instant of the command is the model's form
(assumption 16). -/
def Obligations.ClaimAndReleaseArriveAsSent : Prop :=
  ∀ (dt sender : Nat) (s : State), s.powered = true → s.mc.mode.online = true → s.tele.rx = .header [] →
    s.cfg.hamlet ≤ 254 → 1 ≤ sender → sender ≤ 31 → sender ≠ s.loader.strapLatch →
    let good := fun (h : HeardTelegram) =>
      { elapse dt s with
        tele :=
          { (elapse dt s).tele with
            rx := .hunt
            received := min 65535 (s.tele.received + 1)
            qualityCount := s.tele.qualityCount - 1
            quality := if s.tele.qualityCount = 1 then .good else s.tele.quality }
        handed := { s.handed with heard := s.handed.heard ++ [h] } }
    (∀ tag effective amount hold, tag ≤ 4 → effective ≤ 3 → amount < 65536 → hold < 65536 →
      exec (.telegramArrival dt ((frame s.cfg.hamlet 2 sender (claimBytes tag effective amount hold)).drop 4)) s =
        .next (good (.claim sender tag effective amount hold))) ∧
    ∀ tag, tag ≤ 4 →
      exec (.telegramArrival dt ((frame s.cfg.hamlet 3 sender [byteOf tag]).drop 4)) s =
        .next (good (.release sender tag))

/-- A STATUS of another station of the hamlet arrives as it was composed: its averages, its seven flags and its
set-point are handed to the Neighbour Table, and a recall sequence in it to the Mode Controller (R44 to R46, R56, R61 to
R63, R65, R66). That the bytes arrive at the one instant of the command is the model's form (assumption 16). -/
def Obligations.StatusArrivesAsComposed : Prop :=
  ∀ (dt sender : Nat) (b : StatusBody) (s : State), s.powered = true → s.mc.mode.online = true →
    s.tele.rx = .header [] → s.cfg.hamlet ≤ 254 → 1 ≤ sender → sender ≤ 31 → sender ≠ s.loader.strapLatch →
    b.ballast < 65536 → b.capacity < 65536 → (∀ x ∈ b.setPointField, x < 65536) →
    b.flags.setPointPresent = b.setPointField.isSome →
    exec (.telegramArrival dt ((frame s.cfg.hamlet 1 sender (statusBytes s.cfg.hamlet b)).drop 4)) s =
      .next
        { elapse dt s with
          tele :=
            { (elapse dt s).tele with
              rx := .hunt
              received := min 65535 (s.tele.received + 1)
              qualityCount := s.tele.qualityCount - 1
              quality := if s.tele.qualityCount = 1 then .good else s.tele.quality }
          handed :=
            { s.handed with
              recalls := s.handed.recalls + bit b.carriesRecall
              statuses :=
                s.handed.statuses ++
                  [{ sender := sender
                     flags := b.flags
                     ballast := b.ballast
                     capacity := b.capacity
                     setPoint := b.setPointField.map (· + 40000) }] } }

/-- The carrier and the delimiter: a carrier in GAP sends the transmitter to CARRIER-WAIT, its end restarts the gap
there, leaves the transmitter in every other state as it is, GAP with its timer counting on among them, and counts a
partial telegram, in HEADER or in BODY, as a failed check (outside RECOVER, STAGGER and RUN nothing is counted,
assumption 32); the delimiter aligns the receiver at any bit position; a length above 24 abandons the telegram. Every
whole telegram passes the receive filter, and the first step that applies decides: a bad CRC, a foreign hamlet, a
malformed telegram, the station's own number, or a good telegram (R51, R60 to R65; what the good ones hand on is said
beside their kinds, and that the bytes arrive at the one instant of the command is assumption 16). -/
def Obligations.CarrierAndReceiver : Prop :=
  (∀ (dt : Nat) (s : State), s.powered = true →
    exec (.carrierAppears dt) s =
      .next
        { elapse dt s with
          tele :=
            if s.tele.tx = .gap then { s.tele with carrier := true, tx := .carrierWait, gapTimer := 0 }
            else { s.tele with carrier := true } }) ∧
  (∀ (dt : Nat) (s : State), s.powered = true →
    let restarted : Telegram :=
      if s.tele.tx = .carrierWait then { s.tele with carrier := false, tx := .gap, gapTimer := 0 }
      else if s.tele.tx = .gap then { s.tele with carrier := false, gapTimer := s.tele.gapTimer + dt }
      else { s.tele with carrier := false }
    let cutShort : Telegram :=
      { restarted with
        rx := .hunt
        crcFailures := min 65535 (s.tele.crcFailures + 1)
        qualityCount := min s.cfg.eq (s.tele.qualityCount + 1)
        quality := if s.cfg.eq ≤ s.tele.qualityCount + 1 then .poor else s.tele.quality }
    (s.tele.rx = .closed ∨ s.tele.rx = .hunt →
      exec (.carrierEnds dt) s = .next { elapse dt s with tele := restarted }) ∧
    ((∃ got, s.tele.rx = .header got) ∨ (∃ header got, s.tele.rx = .body header got) →
      exec (.carrierEnds dt) s =
        .next { elapse dt s with tele := if s.mc.mode.online then cutShort else restarted })) ∧
  (∀ (dt : Nat) (before : List Bool) (s : State), s.powered = true → s.mc.mode.online = true →
    s.tele.carrier = true → s.tele.rx = .hunt →
    exec (.delimiterFound dt (before ++ delimiterBits)) s =
      .next { elapse dt s with tele := { (elapse dt s).tele with rx := .header [] } }) ∧
  (∀ (dt : Nat) (h k n len : Byte) (s : State), s.powered = true → s.mc.mode.online = true →
    s.tele.rx = .header [] → 24 < len.toNat →
    exec (.telegramAbandoned dt [h, k, n, len]) s =
      .next
        { elapse dt s with
          tele :=
            { (elapse dt s).tele with
              rx := .hunt
              crcFailures := min 65535 (s.tele.crcFailures + 1)
              qualityCount := min s.cfg.eq (s.tele.qualityCount + 1)
              quality := if s.cfg.eq ≤ s.tele.qualityCount + 1 then .poor else s.tele.quality } }) ∧
  ∀ (dt : Nat) (h k n : Byte) (body check : List Byte) (s : State), s.powered = true → s.mc.mode.online = true →
    s.tele.rx = .header [] → body.length ≤ 24 → check.length = 2 →
    let header := [h, k, n, byteOf body.length]
    let arrival := exec (.telegramArrival dt (header ++ body ++ check)) s
    let e := elapse dt s
    let setPointPresent := (body.getD 4 0).getLsbD 1 = true
    let wellFormed :=
      1 ≤ n.toNat ∧ n.toNat ≤ 31 ∧
        (k.toNat = 1 ∧ ¬setPointPresent ∧ (body.length = 5 ∨ body.length = 16) ∨
          k.toNat = 1 ∧ setPointPresent ∧ (body.length = 7 ∨ body.length = 18) ∨
          k.toNat = 2 ∧ body.length = 6 ∧ byteAt body 0 ≤ 4 ∧ byteAt body 1 ≤ 3 ∨
          k.toNat = 3 ∧ body.length = 1 ∧ byteAt body 0 ≤ 4)
    let worse := { e.tele with
      rx := .hunt
      qualityCount := min s.cfg.eq (s.tele.qualityCount + 1)
      quality := if s.cfg.eq ≤ s.tele.qualityCount + 1 then .poor else s.tele.quality }
    ((crc16 (header ++ body)).toNat ≠ wordAt check 0 →
      arrival = .next { e with tele := { worse with crcFailures := min 65535 (s.tele.crcFailures + 1) } }) ∧
    ((crc16 (header ++ body)).toNat = wordAt check 0 →
      (h.toNat ≠ s.cfg.hamlet →
        arrival =
          .next { e with tele := { e.tele with rx := .hunt, foreignHamlet := min 65535 (s.tele.foreignHamlet + 1) } }) ∧
      (h.toNat = s.cfg.hamlet → ¬wellFormed →
        arrival = .next { e with tele := { worse with malformed := min 65535 (s.tele.malformed + 1) } }) ∧
      (h.toNat = s.cfg.hamlet → wellFormed → n.toNat = s.loader.strapLatch →
        arrival =
          .next
            { e with
              tele :=
                { e.tele with
                  rx := .hunt
                  duplicateStation := min 65535 (s.tele.duplicateStation + 1)
                  duplicateTimer := 500 } }) ∧
      (h.toNat = s.cfg.hamlet → wellFormed → n.toNat ≠ s.loader.strapLatch →
        ∃ t, arrival = .next t ∧
          t = { e with
            tele :=
              { e.tele with
                rx := .hunt
                received := min 65535 (s.tele.received + 1)
                qualityCount := s.tele.qualityCount - 1
                quality := if s.tele.qualityCount = 1 then .good else s.tele.quality }
            handed := { s.handed with
              recalls := s.handed.recalls + bit (standsIn (recallSequence s.cfg.hamlet) body)
              statuses := t.handed.statuses
              heard := t.handed.heard } }))

/-- The gap runs out and the head of the list is sent, a CLAIM with the hold of its claim as it then stands, in HOLDOFF
or in SETTLING, or a RELEASE, or else the STATUS; the telegram completes after its carrier time, which is rounded up to
whole µs (assumption 9); SENT is counted, the schedule of the copy goes on, unless it has ended since, and the gap
starts afresh where the queue holds an entry (R43, R47, R50, R51, R53, R57 to R59). That the quiet-gap timer stands at 0
in SENDING and in IDLE is the model's choice (assumption 44). -/
def Obligations.TransmissionStartsAndCompletes : Prop :=
  (∀ s : State, s.powered = true → s.mc.mode.online = true → s.tele.tx = .gap →
    let dt := 8000 + 2000 * s.loader.strapLatch - s.tele.gapTimer
    let starts := fun (item : TxItem) (bytes : List Byte) (list : List Copy) (slot : Option StatusBody) =>
      exec .quietGapExpiry s =
        .next
          { elapse dt s with
            tele :=
              { s.tele with
                slot := slot
                list := list
                tx := .sending ⟨item, bytes, s.time.now + dt + (bytes.length * 10000 + 2) / 3⟩
                gapTimer := 0
                rx := .closed } }
    (∀ (tag : Circ) (rest : List Copy) (c : OwnClaim) (r hold : Nat), s.tele.list = .claim tag :: rest →
      s.adm.ownOf tag = some c →
      (c.state = .holdoff r ∧ hold = r + s.cfg.ts ∨ c.state = .settling r ∧ hold = r) →
      starts (.claim tag true)
        (frame s.cfg.hamlet 2 s.loader.strapLatch (claimBytes tag.idx c.effective c.amount hold)) rest s.tele.slot) ∧
    (∀ (tag : Circ) (rest : List Copy), s.tele.list = .release tag :: rest →
      starts (.release tag true) (frame s.cfg.hamlet 3 s.loader.strapLatch [byteOf tag.idx]) rest s.tele.slot) ∧
    ∀ b : StatusBody, s.tele.list = [] → s.tele.slot = some b →
      starts .status (frame s.cfg.hamlet 1 s.loader.strapLatch (statusBytes s.cfg.hamlet b)) [] none) ∧
  ∀ (item : TxItem) (bytes : List Byte) (at_ : Nat) (s : State), s.powered = true → s.mc.mode.online = true →
    s.tele.tx = .sending ⟨item, bytes, at_⟩ →
    let completes := fun (claims releases : Five (Option Schedule)) =>
      exec .transmissionComplete s =
        .next
          { elapseTo at_ s with
            tele :=
              { s.tele with
                claimSchedules := claims
                releaseSchedules := releases
                tx := if s.tele.queued then (if s.tele.carrier then .carrierWait else .gap) else .idle
                gapTimer := 0
                rx := .hunt
                sent := min 65535 (s.tele.sent + 1) } }
    let next := fun n : Nat => if n ≤ 1 then none else some (Schedule.mk (n - 1) (some 0))
    (item = .status ∨ (∃ tag, item = .claim tag false ∨ item = .release tag false) →
      completes s.tele.claimSchedules s.tele.releaseSchedules) ∧
    (∀ (tag : Circ) (n : Nat), item = .claim tag true → s.tele.claimSchedules.get tag = some ⟨n, none⟩ →
      completes (s.tele.claimSchedules.set tag (next n)) s.tele.releaseSchedules) ∧
    ∀ (tag : Circ) (n : Nat), item = .release tag true → s.tele.releaseSchedules.get tag = some ⟨n, none⟩ →
      completes s.tele.claimSchedules (s.tele.releaseSchedules.set tag (next n))

/-- The timers of the Telegram Controller at the tick that brings them to their ends: the STATUS interval composes a
STATUS and empties the governor's sums; the recall duration and the duplicate-station timer reach 0; the next CLAIM or
RELEASE copy joins the list; the receive quality becomes POOR at Eq (R36, R46, R48, R54, R55, R57, R59, R63, R64, R163;
that they can be commanded by themselves is assumption 5). -/
def Obligations.TelegramTimersExpire : Prop :=
  (∀ s : State, s.powered = true → s.mc.mode.online = true → s.tele.statusCount + 1 = s.cfg.ia →
    let ballast := if s.gov.sumCount = 0 then 0 else s.gov.sumAbsorbed / s.gov.sumCount
    let capacity := if s.gov.sumCount = 0 then 0 else s.gov.sumCapacity / s.gov.sumCount
    ∃ t, exec .statusIntervalExpiry s = .next t ∧ t.tele.statusCount = 0 ∧
      t.tele.slot =
        some
          { ballast := ballast
            capacity := capacity
            flags :=
              { anchor := s.cfg.anchor
                setPointPresent := s.cfg.anchor
                shedding := s.circ.stage1 || s.circ.stage2
                sawFitted := s.cfg.sawFitted
                gateFitted := s.cfg.gateFitted
                recallOrigin := s.cfg.recallOrigin
                stagger := s.mc.mode == .stagger }
            setPointField := if s.cfg.anchor then some (s.gov.setPoint - 40000) else none
            carriesRecall := 0 < s.tele.recallDuration } ∧
      t.tele.statusSuperseded =
        (if s.tele.slot = none then s.tele.statusSuperseded else min 65535 (s.tele.statusSuperseded + 1)) ∧
      t.tele.list = s.tele.list ∧
      t = { s with
        tele := t.tele
        gov := { s.gov with sumAbsorbed := 0, sumCapacity := 0, sumCount := 0 }
        handed := { s.handed with evaluations := s.handed.evaluations ++ [⟨ballast, capacity, s.mc.mode⟩] } }) ∧
  (∀ s : State, s.powered = true → s.mc.mode.online = true → s.tele.recallDuration = 1 →
    exec .recallDurationExpiry s = .next { s with tele := { s.tele with recallDuration := 0 } }) ∧
  (∀ s : State, s.powered = true → s.tele.duplicateTimer = 1 →
    exec .duplicateTimerExpiry s = .next { s with tele := { s.tele with duplicateTimer := 0 } }) ∧
  (∀ (tag : Circ) (n : Nat) (s : State), s.powered = true → s.tele.claimSchedules.get tag = some ⟨n, some 4⟩ →
    ∃ t, exec (.claimCopyDue tag) s = .next t ∧ t.tele.list = s.tele.list ++ [.claim tag] ∧
      t.tele.claimSchedules.get tag = some ⟨n, none⟩ ∧ t.tele.slot = s.tele.slot ∧
      (s.tele.tx = .idle → t.tele.tx = if s.tele.carrier then .carrierWait else .gap) ∧
      t = { s with tele := t.tele }) ∧
  (∀ (tag : Circ) (n : Nat) (s : State), s.powered = true → s.tele.releaseSchedules.get tag = some ⟨n, some 4⟩ →
    ∃ t, exec (.releaseCopyDue tag) s = .next t ∧ t.tele.list = s.tele.list ++ [.release tag] ∧
      t.tele.releaseSchedules.get tag = some ⟨n, none⟩ ∧ t.tele.slot = s.tele.slot ∧
      (s.tele.tx = .idle → t.tele.tx = if s.tele.carrier then .carrierWait else .gap) ∧
      t = { s with tele := t.tele }) ∧
  ∀ s : State, s.powered = true → s.mc.mode.online = true → s.tele.quality = .good →
    s.tele.qualityCount + 1 = s.cfg.eq →
    exec .receiveQualityPoor s =
      .next { s with tele := { s.tele with qualityCount := s.cfg.eq, quality := .poor } }

/-- What a tick counts in the Telegram Controller. In every mode the duplicate-station timer goes down, and each
schedule whose next copy is not due yet counts, the copy joining the list at the fifth tick; copies due together join in
ascending tag, CLAIM before RELEASE (the order is the model's choice, assumption 12). In RECOVER, STAGGER and RUN the
recall duration goes down and then the STATUS interval counts, and at Ia a STATUS is composed, which empties the
governor's sums and hands the evaluation event. An idle transmitter starts its gap where an entry waits (R36, R46, R48,
R51, R54, R55, R57, R59, R64, R163). -/
def Obligations.TelegramTickCounts : Prop :=
  ∀ (p : Pins) (s : State), s.powered = true → s.time.tickWaiting = [.telegram] →
    let online := s.mc.mode = .recover ∨ s.mc.mode = .stagger ∨ s.mc.mode = .run
    let composes := online ∧ s.cfg.ia ≤ s.tele.statusCount + 1
    let ballast := if s.gov.sumCount = 0 then 0 else s.gov.sumAbsorbed / s.gov.sumCount
    let capacity := if s.gov.sumCount = 0 then 0 else s.gov.sumCapacity / s.gov.sumCount
    let status : StatusBody :=
      { ballast := ballast
        capacity := capacity
        flags :=
          { anchor := s.cfg.anchor
            setPointPresent := s.cfg.anchor
            shedding := s.circ.stage1 || s.circ.stage2
            sawFitted := s.cfg.sawFitted
            gateFitted := s.cfg.gateFitted
            recallOrigin := s.cfg.recallOrigin
            stagger := s.mc.mode == .stagger }
        setPointField := if s.cfg.anchor then some (s.gov.setPoint - 40000) else none
        carriesRecall := 1 < s.tele.recallDuration }
    let counted : Option Schedule → Option Schedule := fun sc =>
      match sc with
      | some ⟨n, some c⟩ => if c < 4 then some ⟨n, some (c + 1)⟩ else some ⟨n, none⟩
      | other => other
    let due : Option Schedule → Bool := fun sc =>
      match sc with
      | some ⟨_, some c⟩ => decide (4 ≤ c)
      | _ => false
    let list :=
      s.tele.list ++ (Circ.all.filter fun k => due (s.tele.claimSchedules.get k)).map Copy.claim ++
        (Circ.all.filter fun k => due (s.tele.releaseSchedules.get k)).map Copy.release
    ∃ t, exec (.stationTick [.telegram] p) s = .next t ∧
      t.tele.list = list ∧
      (∀ k, t.tele.claimSchedules.get k = counted (s.tele.claimSchedules.get k) ∧
        t.tele.releaseSchedules.get k = counted (s.tele.releaseSchedules.get k)) ∧
      (composes → t.tele.slot = some status ∧ t.tele.statusCount = 0 ∧
        t.tele.statusSuperseded =
          (if s.tele.slot = none then s.tele.statusSuperseded else min 65535 (s.tele.statusSuperseded + 1)) ∧
        t.gov = { s.gov with sumAbsorbed := 0, sumCapacity := 0, sumCount := 0 } ∧
        t.handed = { s.handed with evaluations := s.handed.evaluations ++ [⟨ballast, capacity, s.mc.mode⟩] }) ∧
      (¬composes → t.tele.slot = s.tele.slot ∧ t.tele.statusSuperseded = s.tele.statusSuperseded ∧
        t.gov = s.gov ∧ t.handed = s.handed) ∧
      (online → ¬composes → t.tele.statusCount = s.tele.statusCount + 1) ∧
      (¬online → t.tele.statusCount = s.tele.statusCount) ∧
      (s.tele.tx = .idle →
        t.tele.tx =
          if list = [] ∧ t.tele.slot = none then .idle else if s.tele.carrier then .carrierWait else .gap) ∧
      (s.tele.tx.isSending = true ∨ t.tele.list ≠ [] ∧ s.tele.tx ≠ .idle → t.tele.tx = s.tele.tx ∧
        t.tele.gapTimer = s.tele.gapTimer) ∧
      t = { s with
        time := { s.time with tickWaiting := [] }
        gov := t.gov
        handed := t.handed
        tele :=
          { s.tele with
            duplicateTimer := s.tele.duplicateTimer - 1
            recallDuration := if online then s.tele.recallDuration - 1 else s.tele.recallDuration
            statusCount := t.tele.statusCount
            slot := t.tele.slot
            statusSuperseded := t.tele.statusSuperseded
            claimSchedules := t.tele.claimSchedules
            releaseSchedules := t.tele.releaseSchedules
            list := t.tele.list
            tx := t.tele.tx
            gapTimer := t.tele.gapTimer } }

/-! ### The Neighbour Table -/

/-- R72: a good STATUS from a station that has no record, in a table of fewer than 16 records, is inserted after every
record with a lower station number and before every record with a higher one, with the STATUS's fields, age 0 and FRESH.
The premise that the table is ascending is the law of the table (R70). -/
def Obligations.NewNeighbourIsInsertedInOrder : Prop :=
  ∀ (h : HeardStatus) (rest : List HeardStatus) (s : State), s.powered = true → s.mc.mode.online = true →
    s.handed.statuses = h :: rest → (s.table.records.Pairwise fun x y => x.station < y.station) →
    (∀ n ∈ s.table.records, n.station ≠ h.sender) → s.table.records.length < 16 →
    ∃ t lower higher, exec .neighbourStatusHeard s = .next t ∧ s.table.records = lower ++ higher ∧
      t.table.records =
        lower ++
          { station := h.sender, flags := h.flags, ballast := h.ballast, capacity := h.capacity, setPoint := h.setPoint,
            age := 0, condition := .fresh } :: higher ∧
      (∀ n ∈ lower, n.station < h.sender) ∧ (∀ n ∈ higher, h.sender < n.station) ∧
      t.table.records.length = s.table.records.length + 1

/-- A known sender's record is refreshed in place; a newcomer to a full table takes the place of the oldest STALE
record, whose station is handed as removed, or is counted as overflow where none is STALE; the hamlet SHEDDING flag
becoming true is handed on (R71, R73, R74, R76, R79). -/
def Obligations.KnownAndSurplusNeighbours : Prop :=
  ∀ (h : HeardStatus) (rest : List HeardStatus) (s : State), s.powered = true → s.mc.mode.online = true →
    s.handed.statuses = h :: rest →
    ∃ t, exec .neighbourStatusHeard s = .next t ∧
      t = { s with
        table := t.table
        handed :=
          { s.handed with
            statuses := rest
            removed := t.handed.removed
            hamletRaised :=
              s.handed.hamletRaised + if s.table.shedding = false ∧ t.table.shedding = true then 1 else 0 } } ∧
      ((∃ n ∈ s.table.records, n.station = h.sender) →
        t.table.records =
            (s.table.records.map fun n =>
              if n.station = h.sender then
                { station := h.sender, flags := h.flags, ballast := h.ballast, capacity := h.capacity,
                  setPoint := h.setPoint, age := 0, condition := .fresh }
              else n) ∧
          t.handed.removed = s.handed.removed ∧ t.table.overflow = s.table.overflow) ∧
      ((∀ n ∈ s.table.records, n.station ≠ h.sender ∧ n.condition = .fresh) → 16 ≤ s.table.records.length →
        t.table = { s.table with overflow := min 65535 (s.table.overflow + 1) } ∧
          t.handed.removed = s.handed.removed) ∧
      ((∀ n ∈ s.table.records, n.station ≠ h.sender) → 16 ≤ s.table.records.length →
        (∃ n ∈ s.table.records, n.condition = .stale) →
        ∃ old ∈ s.table.records, old.condition = .stale ∧
          (∀ n ∈ s.table.records, n.condition = .stale → n.age < old.age ∨ n.age = old.age ∧ n.station ≤ old.station) ∧
          t.handed.removed = s.handed.removed ++ [old.station] ∧ t.table.overflow = s.table.overflow ∧
          (∀ n ∈ t.table.records, n.station ≠ old.station) ∧
          (∀ n ∈ s.table.records, n.station ≠ old.station → n ∈ t.table.records) ∧
          ∃ n ∈ t.table.records, n.station = h.sender ∧ n.age = 0 ∧ n.condition = .fresh)

/-- At a tick every record ages by one and goes STALE at 3 × Ia; the records that reach 8 × Ia leave the table and their
removals are handed; the two ends of a record by themselves; the heard claims of a removed station are forgotten (R75,
R76, R109; assumption 5). That the removals of one tick are handed in table order is the model's choice (assumption 36).
-/
def Obligations.NeighboursAgeOut : Prop :=
  (∀ (p : Pins) (s : State), s.powered = true → s.time.tickWaiting = [.neighbour] →
    let aged := s.table.records.map fun n =>
      { n with
        age := min 65535 (n.age + 1)
        condition := if 3 * s.cfg.ia ≤ min 65535 (n.age + 1) then Condition.stale else n.condition }
    exec (.stationTick [.neighbour] p) s =
      .next
        { s with
          time := { s.time with tickWaiting := [] }
          table := { s.table with records := aged.filter fun n => n.age < 8 * s.cfg.ia }
          handed :=
            { s.handed with
              removed := s.handed.removed ++ (aged.filter fun n => 8 * s.cfg.ia ≤ n.age).map Neighbour.station } }) ∧
  (∀ (n : Neighbour) (before after : List Neighbour) (s : State), s.powered = true →
    s.table.records = before ++ n :: after → (∀ m ∈ before ++ after, m.station ≠ n.station) → n.condition = .fresh →
    n.age + 1 = 3 * s.cfg.ia → n.age < 65535 →
    exec (.neighbourStale n.station) s =
      .next
        { s with
          table := { s.table with records := before ++ { n with age := n.age + 1, condition := .stale } :: after } }) ∧
  (∀ (n : Neighbour) (before after : List Neighbour) (s : State), s.powered = true →
    s.table.records = before ++ n :: after → (∀ m ∈ before ++ after, m.station ≠ n.station) →
    n.age + 1 = 8 * s.cfg.ia →
    exec (.neighbourAgedOut n.station) s =
      .next
        { s with
          table := { s.table with records := before ++ after }
          handed := { s.handed with removed := s.handed.removed ++ [n.station] } }) ∧
  ∀ (station : Nat) (rest : List Nat) (s : State), s.powered = true → s.handed.removed = station :: rest →
    exec .neighbourRemoved s =
      .next
        { s with
          adm := { s.adm with heard := s.adm.heard.filter fun h => h.owner != station }
          handed := { s.handed with removed := rest } }

/-- R94 and R89 spelled out: a claim passes where its amount is at most S − R − K. S is the own ballast and, in GOOD
reception, that of the FRESH neighbours; K is the sum of the heard claims with precedence, of all own claims in
SETTLING, and of the other own claims in HOLDOFF with precedence; precedence goes by the effective class, then the
owner's station number, then the tag. -/
def Obligations.HeadroomAndPrecedence : Prop :=
  (∀ (s : State) (c : OwnClaim),
    let own := s.loader.strapLatch
    let before : Nat → Nat → Nat → Bool := fun effective owner tag =>
      decide (effective < c.effective ∨
        effective = c.effective ∧ (owner < own ∨ owner = own ∧ tag < c.circuit.idx))
    let spare :=
      s.gov.absorbed +
        if s.tele.quality = .good then
          ((s.table.records.filter fun n => n.condition == .fresh).map Neighbour.ballast).sum
        else 0
    let competing :=
      ((s.adm.heard.filter fun h => before h.effective h.owner h.tag).map HeardEntry.amount).sum +
        ((s.adm.own.filter fun d => match d.state with | .settling _ => true | _ => false).map OwnClaim.amount).sum +
        ((s.adm.own.filter fun d =>
            (match d.state with | .holdoff _ => true | _ => false) && d.circuit != c.circuit &&
              before d.effective own d.circuit.idx).map OwnClaim.amount).sum
    (headroom s c = true ↔ (c.amount : Int) ≤ (spare : Int) - s.cfg.reserve - competing)) ∧
  ∀ x y z : Nat × Nat × Nat,
    precedes x x = false ∧ (x ≠ y → precedes x y = !precedes y x) ∧
      (precedes x y = true → precedes y z = true → precedes x z = true)

/-! ### The Admission Controller -/

/-- A shedding-raised event defers every own claim in HOLDOFF, in the own order, without a test; each is refused where
its retries are exhausted; the other claims stand. A deferral counts the retries to 255 at most, every Nf-th lowers the
effective class by one, the backoff is Tb × retries, and an ordinary claim is exhausted above Lr where Lr is not 0.
DEFERRALS, PROMOTIONS and REFUSALS are counted; the CLAIM schedule of each deferred claim ends, and a RELEASE schedule
of two copies starts, which ends at once where the Telegram Controller has already taken the entry to DARK (R49, R58,
R59, R68, R99 to R103; assumption 13 for the order, assumption 35 for the entry to DARK). -/
def Obligations.SheddingDefersEveryHoldoffClaim : Prop :=
  (∀ (cfg : Config) (c : OwnClaim),
    c.deferral cfg =
        { c with
          retries := min 255 (c.retries + 1)
          effective := if min 255 (c.retries + 1) % cfg.nf = 0 then c.effective - 1 else c.effective
          state := .deferred (cfg.tb * min 255 (c.retries + 1)) } ∧
      ((c.deferral cfg).exhausted cfg.lr = true ↔
        cfg.lr ≠ 0 ∧ cfg.lr < min 255 (c.retries + 1) ∧ c.restore = false)) ∧
  ∀ (c : Instr) (s : State), s.powered = true → (s.adm.own.map OwnClaim.circuit).Nodup → countersOk s →
    (c = .ownSheddingRaised ∧ 0 < s.handed.ownRaised ∨ c = .hamletSheddingRaised ∧ 0 < s.handed.hamletRaised) →
    let group := s.adm.own.filter OwnClaim.inHoldoff
    ∃ t, exec c s = .next t ∧ GroupDeferred group s t ∧
      t.adm.own =
        s.adm.own.filterMap (fun o =>
          if o ∈ group then
            (if (o.deferral s.cfg).exhausted s.cfg.lr then none else some (o.deferral s.cfg))
          else some o) ∧
      t.handed.answers =
        s.handed.answers ++
          (group.filter fun o => (o.deferral s.cfg).exhausted s.cfg.lr).map (fun o => .refused o.circuit) ∧
      t.adm.heard = s.adm.heard ∧ t.adm.admissions = s.adm.admissions ∧
      t.adm.claimOverflow = s.adm.claimOverflow ∧
      t = { s with
        adm := t.adm
        tele := t.tele
        handed :=
          { s.handed with
            answers := t.handed.answers
            ownRaised := if c = .ownSheddingRaised then s.handed.ownRaised - 1 else s.handed.ownRaised
            hamletRaised := if c = .ownSheddingRaised then s.handed.hamletRaised else s.handed.hamletRaised - 1 } }

/-- A heard CLAIM by the first case that applies: where its hold is 0 or it is counted as CLAIM OVERFLOW, no test is
made whatever own claims there are; where it is entered or refreshed, this is said for no own claim in HOLDOFF and the
transmitter settled as every event leaves it; a new heard CLAIM, or a new copy of one that is held, defers the own
claims in HOLDOFF over which it has precedence and which then fail the headroom test, each with a RELEASE (which ends at
once where the Telegram Controller has already taken the entry to DARK, assumption 35); a heard RELEASE; outside
RECOVER, STAGGER and RUN both are discarded (R59, R68, R89, R97, R100, R106, R108). -/
def Obligations.HeardClaimsEnterAndLeave : Prop :=
  (∀ (owner tag effective amount hold : Nat) (rest : List HeardTelegram) (s : State), s.powered = true →
    s.mc.mode.online = true → s.handed.heard = .claim owner tag effective amount hold :: rest →
    let known := ∃ h ∈ s.adm.heard, h.owner = owner ∧ h.tag = tag
    (hold = 0 ∨ ¬known ∧ 7 ≤ s.adm.heard.length ∨
      (∀ c ∈ s.adm.own, c.inHoldoff = false) ∧ s.tele.settle = s.tele) →
    let entry : HeardEntry := { owner := owner, tag := tag, amount := amount, effective := effective, hold := hold }
    exec .heardClaim s =
      .next
        { s with
          adm :=
            if hold = 0 then
              { s.adm with heard := s.adm.heard.filter fun h => !(h.owner == owner && h.tag == tag) }
            else if known then
              { s.adm with
                heard := s.adm.heard.map fun h => if h.owner = owner ∧ h.tag = tag then entry else h }
            else if s.adm.heard.length < 7 then { s.adm with heard := s.adm.heard ++ [entry] }
            else { s.adm with claimOverflow := min 65535 (s.adm.claimOverflow + 1) }
          handed := { s.handed with heard := rest } }) ∧
  (∀ (owner tag effective amount hold : Nat) (rest : List HeardTelegram) (s : State), s.powered = true →
    s.mc.mode.online = true → s.handed.heard = .claim owner tag effective amount hold :: rest →
    (s.adm.own.map OwnClaim.circuit).Nodup → countersOk s → 0 < hold →
    let known := ∃ h ∈ s.adm.heard, h.owner = owner ∧ h.tag = tag
    known ∨ s.adm.heard.length < 7 →
    let entry : HeardEntry := { owner := owner, tag := tag, amount := amount, effective := effective, hold := hold }
    let heard :=
      if known then s.adm.heard.map fun h => if h.owner = owner ∧ h.tag = tag then entry else h
      else s.adm.heard ++ [entry]
    let tested := { s with adm := { s.adm with heard := heard } }
    let own := s.loader.strapLatch
    let group := s.adm.own.filter fun o =>
      o.inHoldoff &&
        decide (effective < o.effective ∨
          effective = o.effective ∧ (owner < own ∨ owner = own ∧ tag < o.circuit.idx)) &&
        !headroom tested o
    ∃ t, exec .heardClaim s = .next t ∧ GroupDeferred group s t ∧ t.adm.heard = heard ∧
      t.adm.own =
        s.adm.own.filterMap (fun o =>
          if o ∈ group then
            (if (o.deferral s.cfg).exhausted s.cfg.lr then none else some (o.deferral s.cfg))
          else some o) ∧
      t.handed.answers =
        s.handed.answers ++
          (group.filter fun o => (o.deferral s.cfg).exhausted s.cfg.lr).map (fun o => .refused o.circuit) ∧
      t.adm.admissions = s.adm.admissions ∧ t.adm.claimOverflow = s.adm.claimOverflow ∧
      t = { s with
        adm := t.adm, tele := t.tele, handed := { s.handed with heard := rest, answers := t.handed.answers } }) ∧
  (∀ (owner tag : Nat) (rest : List HeardTelegram) (s : State), s.powered = true → s.mc.mode.online = true →
    s.handed.heard = .release owner tag :: rest →
    exec .heardRelease s =
      .next
        { s with
          adm := { s.adm with heard := s.adm.heard.filter fun h => !(h.owner == owner && h.tag == tag) }
          handed := { s.handed with heard := rest } }) ∧
  ∀ (h : HeardTelegram) (rest : List HeardTelegram) (s : State), s.powered = true → s.mc.mode.online = false →
    s.handed.heard = h :: rest →
    exec (match h with | .claim .. => .heardClaim | .release .. => .heardRelease) s =
      .next { s with handed := { s.handed with heard := rest } }

/-- A creation request in RUN makes a QUEUED claim at the end of the own order, or is refused where its amount exceeds
Lc; one outside RUN, or for a circuit that has a claim, is discarded; a withdrawal removes the claim, silently from
QUEUED and DEFERRED and with a RELEASE from HOLDOFF and SETTLING, whose schedule ends at once where the Telegram
Controller has already taken the entry to DARK (R58, R59, R68, R91, R105; assumption 35). -/
def Obligations.CreationAndWithdrawal : Prop :=
  (∀ (k : Circ) (amount cls : Nat) (restore : Bool) (rest : List Request) (s : State), s.powered = true →
    s.handed.requests = .create k amount cls restore :: rest →
    exec .creationRequest s =
      .next
        (if s.mc.mode ≠ .run ∨ ∃ c ∈ s.adm.own, c.circuit = k then
          { s with handed := { s.handed with requests := rest } }
        else if s.cfg.lc < amount then
          { s with
            adm := { s.adm with refusals := min 65535 (s.adm.refusals + 1) }
            handed := { s.handed with requests := rest, answers := s.handed.answers ++ [.refused k] } }
        else
          { s with
            adm :=
              { s.adm with
                own :=
                  s.adm.own ++
                    [{ circuit := k, amount := amount, cls := cls, effective := cls, state := .queued, retries := 0,
                       restore := restore }] }
            handed := { s.handed with requests := rest } })) ∧
  ∀ (k : Circ) (c : OwnClaim) (rest : List Request) (s : State), s.powered = true →
    s.handed.requests = .withdraw k :: rest → s.adm.ownOf k = some c →
    ∃ t, exec .withdrawal s = .next t ∧
      t.adm = { s.adm with own := s.adm.own.filter fun d => d.circuit != k } ∧
      t = { s with adm := t.adm, tele := t.tele, handed := { s.handed with requests := rest } } ∧
      ((c.state = .queued ∨ ∃ n, c.state = .deferred n) → t.tele = s.tele) ∧
      ((∃ n, c.state = .holdoff n ∨ c.state = .settling n) →
        t.tele.claimSchedules = s.tele.claimSchedules.set k none ∧ t.tele.slot = s.tele.slot ∧
          let others := s.tele.list.filter fun x => x != .claim k && x != .release k
          (s.handed.dark.admission = false ∨ s.handed.dark.telegram = true →
            t.tele.releaseSchedules = s.tele.releaseSchedules.set k (some ⟨2, none⟩) ∧
              t.tele.list = others ++ [.release k]) ∧
          (s.handed.dark.admission = true → s.handed.dark.telegram = false →
            t.tele.releaseSchedules = s.tele.releaseSchedules.set k none ∧ t.tele.list = others))

/-- The claims one tick from their holdoff expiry are tested as one group, each against the list in which all of them
are still in HOLDOFF: those that pass the headroom test enter SETTLING and are answered ADMITTED, the others are
deferred. ADMISSIONS, DEFERRALS, PROMOTIONS and REFUSALS are counted, and each deferral ends its CLAIM schedule and
starts a RELEASE schedule of two copies. An expiry that finds the mode no longer RUN decides nothing: its claims are
removed as the entry to DARK removes them, with no RELEASE and no answer (R49, R58, R59, R94, R96, R98, R100 to R102,
R110; assumptions 5, 13, 35 and 37). -/
def Obligations.HoldoffExpiryDecidesTheGroup : Prop :=
  ∀ s : State, s.powered = true → (s.adm.own.map OwnClaim.circuit).Nodup → (∀ c ∈ s.adm.own, c.state ≠ .holdoff 0) →
    countersOk s →
    (s.mc.mode ≠ .run →
      ∃ t, exec .holdoffExpiry s = .next t ∧
        let gone := (s.adm.own.filter fun c => c.state == .holdoff 1).map OwnClaim.circuit
        (∀ k, t.tele.claimSchedules.get k = if k ∈ gone then none else s.tele.claimSchedules.get k) ∧
        t = { s with
          adm := { s.adm with own := s.adm.own.filter fun c => c.state != .holdoff 1 }
          tele :=
            { s.tele with
              claimSchedules := t.tele.claimSchedules
              list := s.tele.list.filter fun c => !(gone.map Copy.claim).contains c
              tx := t.tele.tx
              gapTimer := t.tele.gapTimer } }) ∧
    (s.mc.mode = .run →
      let own := s.adm.own.map fun c => if c.state = .holdoff 1 then { c with state := .holdoff 0 } else c
      let tested := { s with adm := { s.adm with own := own } }
      let admitted := own.filter fun c => c.state == .holdoff 0 && headroom tested c
      let group := own.filter fun c => c.state == .holdoff 0 && !headroom tested c
      ∃ t, exec .holdoffExpiry s = .next t ∧ GroupDeferred group s t ∧
        t.adm.own =
          own.filterMap (fun o =>
            if o ∈ admitted then some { o with state := .settling s.cfg.ts }
            else if o ∈ group then
              (if (o.deferral s.cfg).exhausted s.cfg.lr then none else some (o.deferral s.cfg))
            else some o) ∧
        t.adm.heard = s.adm.heard ∧ t.adm.claimOverflow = s.adm.claimOverflow ∧
        t.adm.admissions = min 65535 (s.adm.admissions + admitted.length) ∧
        t.handed.answers =
          s.handed.answers ++
            own.filterMap (fun o =>
              if o ∈ admitted then some (.admitted o.circuit)
              else if o ∈ group ∧ (o.deferral s.cfg).exhausted s.cfg.lr then some (.refused o.circuit)
              else none) ∧
        t = { s with adm := t.adm, tele := t.tele, handed := { s.handed with answers := t.handed.answers } })

/-- The timers of the claims at the tick that brings them to 0: a backoff rejoins QUEUED at the last place, a settle
removes its claim with its CLAIM schedule and no RELEASE, a hold removes its heard entry (R103, R104, R107;
assumption 5). -/
def Obligations.ClaimTimersExpire : Prop :=
  (∀ (c : OwnClaim) (before after : List OwnClaim) (s : State), s.powered = true →
    s.adm.own = before ++ c :: after → c.state = .deferred 1 →
    (∀ d ∈ before ++ after, d.circuit ≠ c.circuit ∧ d.state ≠ .deferred 0) →
    exec (.backoffExpiry c.circuit) s =
      .next { s with adm := { s.adm with own := before ++ after ++ [{ c with state := .queued }] } }) ∧
  (∀ (c : OwnClaim) (s : State), s.powered = true → s.adm.ownOf c.circuit = some c → c.state = .settling 1 →
    ∃ t, exec (.settleExpiry c.circuit) s = .next t ∧
      t.adm = { s.adm with own := s.adm.own.filter fun d => d.circuit != c.circuit } ∧
      t.tele.claimSchedules.get c.circuit = none ∧
      t.tele.list = s.tele.list.filter (· != .claim c.circuit) ∧
      t.tele.releaseSchedules = s.tele.releaseSchedules ∧
      t = { s with adm := t.adm, tele := t.tele }) ∧
  ∀ (owner tag : Nat) (s : State), s.powered = true →
    exec (.holdExpiry owner tag) s =
      .next
        { s with
          adm :=
            { s.adm with
              heard := s.adm.heard.filter fun h => !(h.owner == owner && h.tag == tag && h.hold == 1) } }

/-! ### The Circuit Controller -/

/-- ADMITTED switches a WAITING circuit ON, and for circuit 4 takes the saw from CLAIMING to ENGAGING at the same event;
REFUSED takes a LEVEL circuit to PAUSED and an EDGE circuit to OFF, and the saw to IDLE. An answer that finds its
circuit in another state, or the controller not active, is ignored and not passed to the saw (R117, R122, R138, R140,
R159). -/
def Obligations.AnswersAreTaken : Prop :=
  (∀ (k : Circ) (rest : List Answer) (s : State), s.powered = true → s.handed.answers = .admitted k :: rest →
    s.circ.active = true → s.circuitState k = .waiting →
    exec .admitted s =
      .next
        { s with
          circ := { s.circ with table := s.circ.table.set k { s.circ.table.get k with state := .on } }
          saw :=
            if k = .c4 ∧ s.saw.state = .claiming then { s.saw with state := .engaging s.cfg.tce } else s.saw
          handed := { s.handed with answers := rest } }) ∧
  (∀ (k : Circ) (rest : List Answer) (s : State), s.powered = true → s.handed.answers = .refused k :: rest →
    s.circ.active = true → s.circuitState k = .waiting →
    exec .refused s =
      .next
        { s with
          circ :=
            { s.circ with
              table :=
                s.circ.table.set k
                  { s.circ.table.get k with
                    state :=
                      if k ≠ .c4 ∧ s.cfg.demandType.get k.idx = .level then .paused s.cfg.tr else .off } }
          saw :=
            if k = .c4 ∧ s.saw.state = .claiming then
              { s.saw with state := .idle, feed := 0, sawRefused := min 65535 (s.saw.sawRefused + 1) }
            else s.saw
          handed := { s.handed with answers := rest } }) ∧
  ∀ (k : Circ) (rest : List Answer) (s : State), s.powered = true →
    s.circ.active = false ∨ s.circuitState k ≠ .waiting →
    let ignored : State := { s with handed := { s.handed with answers := rest } }
    (s.handed.answers = .admitted k :: rest → exec .admitted s = .next ignored) ∧
    (s.handed.answers = .refused k :: rest → exec .refused s = .next ignored)

/-- The demand events of a tick, all four inputs at once. While active, a LEVEL circuit asks for power when its input
rises and gives it up when it falls, and an EDGE circuit is toggled by each rise; while not active only the rise of an
EDGE circuit acts, and clears its mark; a circuit of rating 0 takes no event; the requests go out in ascending circuit
index (R114, R116, R118, R120, R123, R132). The premises leave the other steps of the tick no work but the counting of
pauses, of which none ends. -/
def Obligations.DemandEventsAreTaken : Prop :=
  ∀ (p : Pins) (s : State), s.powered = true → s.time.tickWaiting = [.circuit] → s.circ.stage1 = false →
    s.circ.stage2 = false → s.circ.restoreTimer + 1 < s.restoreThreshold →
    (∀ k r, s.circuitState k = .paused r → 2 ≤ r) →
    let demand : Four Debouncer :=
      ⟨s.circ.demand.k0.sample p.demand0, s.circ.demand.k1.sample p.demand1, s.circ.demand.k2.sample p.demand2,
        s.circ.demand.k3.sample p.demand3⟩
    let fitted : Circ → Bool := fun k => k != .c4 && s.cfg.rating.get k != 0
    let edge : Circ → Bool := fun k => s.cfg.demandType.get k.idx == .edge
    let rose : Circ → Bool := fun k => fitted k && !(s.circ.demand.get k.idx).level && (demand.get k.idx).level
    let fell : Circ → Bool := fun k => fitted k && (s.circ.demand.get k.idx).level && !(demand.get k.idx).level
    let givesUp : Circ → Bool := fun k => if edge k then rose k else fell k
    let after : Circ → CircuitState := fun k =>
      match s.circuitState k with
      | .off => if rose k then .waiting else .off
      | .waiting => if givesUp k then .off else .waiting
      | .on => if givesUp k then .off else .on
      | .shed => if givesUp k then .off else .shed
      | .paused r => if k = .c4 then .paused r else .paused (r - 1)
    let asked : Circ → List Request := fun k =>
      match s.circuitState k with
      | .off => if rose k then [.create k (s.cfg.rating.get k) (s.cfg.cls.get k) false] else []
      | .waiting => if givesUp k then [.withdraw k] else []
      | .on => if givesUp k then [.withdraw k] else []
      | _ => []
    ∃ t, exec (.stationTick [.circuit] p) s = .next t ∧
      t = { s with
        time := { s.time with tickWaiting := [] }
        circ :=
          { s.circ with
            table := t.circ.table
            demand := demand
            timer1 := 0
            timer2 := 0
            restoreTimer := t.circ.restoreTimer }
        handed := { s.handed with requests := t.handed.requests } } ∧
      (s.circ.active = true →
        (∀ k, t.circ.table.get k = ⟨after k, (s.circ.table.get k).mark⟩) ∧
        t.handed.requests = s.handed.requests ++ Circ.switched.flatMap asked ∧
        t.circ.restoreTimer = if Circ.all.any (fun k => after k == .shed) then s.circ.restoreTimer + 1 else 0) ∧
      (s.circ.active = false →
        (∀ k, t.circ.table.get k =
          ⟨s.circuitState k, if rose k && edge k then false else (s.circ.table.get k).mark⟩) ∧
        t.handed.requests = s.handed.requests ∧ t.circ.restoreTimer = 0)

/-- What a tick counts in the Circuit Controller while it is active and no demand changes. Each pause goes down, and at
its end its circuit becomes WAITING or OFF by the debounced level; the timer of a stage counts while its condition holds
and is 0 otherwise; the restore timer counts while a circuit is SHED and neither condition holds, and is 0 otherwise.
The count that reaches the threshold sheds one circuit, stage 2 before stage 1, or takes the restore, as STAGE_SHED and
RESTORE do (R119, R123, R125, R126, R129). That they count between the mode leaving RUN and the end of the active span
is the model's choice (assumption 42). -/
def Obligations.CircuitTickCounts : Prop :=
  ∀ (p : Pins) (s : State), s.powered = true → s.time.tickWaiting = [.circuit] → s.circ.active = true →
    let demand : Four Debouncer :=
      ⟨s.circ.demand.k0.sample p.demand0, s.circ.demand.k1.sample p.demand1, s.circ.demand.k2.sample p.demand2,
        s.circ.demand.k3.sample p.demand3⟩
    (∀ k ∈ Circ.switched, (demand.get k.idx).level = (s.circ.demand.get k.idx).level) →
    let tick := exec (.stationTick [.circuit] p) s
    let u : State :=
      { s with time := { s.time with tickWaiting := [] }, circ := { s.circ with demand := demand } }
    let below1 := s.circ.timer1 + 1 < s.cfg.t1 + s.loader.strapLatch % 8
    let below2 := s.circ.timer2 + 1 < s.cfg.t2 + s.loader.strapLatch % 8
    let counted1 := if s.circ.stage1 then s.circ.timer1 + 1 else 0
    let counted2 := if s.circ.stage2 then s.circ.timer2 + 1 else 0
    (s.circ.stage1 = false → s.circ.stage2 = false → (∀ k, s.circuitState k ≠ .shed) →
      let ends : Circ → Bool := fun k =>
        match s.circuitState k with
        | .paused r => k != .c4 && decide (r ≤ 1)
        | _ => false
      let level : Circ → Bool := fun k => (s.circ.demand.get k.idx).level
      ∃ t, tick = .next t ∧
        (∀ k, t.circ.table.get k =
          ⟨match s.circuitState k with
            | .paused r =>
              if ends k then (if level k then .waiting else .off)
              else if k = .c4 then .paused r
              else .paused (r - 1)
            | other => other,
            (s.circ.table.get k).mark⟩) ∧
        t.handed.requests =
          s.handed.requests ++
            (Circ.switched.filter fun k => ends k && level k).map
              (fun k => .create k (s.cfg.rating.get k) (s.cfg.cls.get k) false) ∧
        t = { u with
          circ := { u.circ with table := t.circ.table, timer1 := 0, timer2 := 0, restoreTimer := 0 }
          handed := { s.handed with requests := t.handed.requests } }) ∧
    ((∀ k r, s.circuitState k ≠ .paused r) →
      (s.circ.stage1 = true ∨ s.circ.stage2 = true → (s.circ.stage1 = true → below1) →
        (s.circ.stage2 = true → below2) →
        tick = .next { u with circ := { u.circ with timer1 := counted1, timer2 := counted2, restoreTimer := 0 } }) ∧
      (s.circ.stage2 = true → s.circ.timer2 + 1 = s.cfg.t2 + s.loader.strapLatch % 8 →
        (s.circ.stage1 = true → below1) →
        tick = exec (.stageShed .stage2) { u with circ := { u.circ with timer1 := counted1, restoreTimer := 0 } }) ∧
      (s.circ.stage1 = true → s.circ.timer1 + 1 = s.cfg.t1 + s.loader.strapLatch % 8 →
        (s.circ.stage2 = true → below2) →
        tick = exec (.stageShed .stage1) { u with circ := { u.circ with timer2 := counted2, restoreTimer := 0 } }) ∧
      (s.circ.stage1 = true → s.circ.timer1 + 1 = s.cfg.t1 + s.loader.strapLatch % 8 → s.circ.stage2 = true →
        s.circ.timer2 + 1 = s.cfg.t2 + s.loader.strapLatch % 8 →
        ∃ v, exec (.stageShed .stage2) { u with circ := { u.circ with restoreTimer := 0 } } = .next v ∧
          tick = exec (.stageShed .stage1) v) ∧
      (s.circ.stage1 = false → s.circ.stage2 = false → (∃ k, s.circuitState k = .shed) →
        (s.circ.restoreTimer + 1 < s.cfg.tq + 10 * (s.loader.strapLatch % 8) →
          tick =
            .next
              { u with
                circ := { u.circ with timer1 := 0, timer2 := 0, restoreTimer := s.circ.restoreTimer + 1 } }) ∧
        (s.circ.restoreTimer + 1 = s.cfg.tq + 10 * (s.loader.strapLatch % 8) →
          tick = exec .restore { u with circ := { u.circ with timer1 := 0, timer2 := 0 } })))

/-- The entry to RUN: the Circuit Controller becomes active, judges both stage conditions from the values it has kept,
hands the own SHEDDING flag becoming true, claims the marked circuits whose demand stands and the unmarked LEVEL
circuits whose demand is asserted, in ascending class and then ascending index, and clears every mark; Gate Trim becomes
active where the gate is fitted. Gate Trim's entry does nothing where no gate is fitted. R130
and R177 have the entry taken finding the mode RUN; that an entry which no longer finds it does nothing is the model's
reading (assumption 32) (R124, R125, R130, R161, R177). -/
def Obligations.EntriesToRunAreTaken : Prop :=
  (∀ s : State, s.powered = true → s.handed.circuitRun = true → s.mc.mode = .run →
    (∀ k, s.circuitState k = .off) →
    let claims := fun k : Circ =>
      if k = .c4 ∨ s.cfg.rating.get k = 0 then false
      else if s.cfg.demandType.get k.idx = .edge then (s.circ.table.get k).mark
      else (s.circ.demand.get k.idx).level
    let order := [0, 1, 2, 3].flatMap fun cls => Circ.switched.filter fun k => s.cfg.cls.get k == cls
    let c1 :=
      match s.circ.kept with
      | some k =>
        k.lock.trusted && decide (k.filtered + s.cfg.u1 < k.setPoint) && (k.demand == 0 || s.cfg.pb == 0)
      | none => false
    let c2 :=
      match s.circ.kept with
      | some k => k.lock.trusted && decide (k.filtered + s.cfg.u2 < k.setPoint)
      | none => false
    ∃ t, exec .circuitRunEntry s = .next t ∧
      (∀ k, t.circ.table.get k =
        ⟨if claims k && decide (s.cfg.cls.get k ≤ 3) then .waiting else .off, false⟩) ∧
      t = { s with
        circ :=
          { s.circ with
            active := true
            table := t.circ.table
            stage1 := c1
            stage2 := c2
            timer1 := if c1 then s.circ.timer1 else 0
            timer2 := if c2 then s.circ.timer2 else 0
            restoreTimer := if c1 || c2 then 0 else s.circ.restoreTimer }
        handed :=
          { s.handed with
            circuitRun := false
            requests :=
              s.handed.requests ++
                (order.filter claims).map (fun k =>
                  .create k (s.cfg.rating.get k) (s.cfg.cls.get k) (s.circ.table.get k).mark)
            ownRaised := s.handed.ownRaised + bit (!(s.circ.stage1 || s.circ.stage2) && (c1 || c2)) } }) ∧
  (∀ s : State, s.powered = true → s.handed.circuitRun = true → s.mc.mode ≠ .run →
    exec .circuitRunEntry s = .next { s with handed := { s.handed with circuitRun := false } }) ∧
  ∀ s : State, s.powered = true → s.handed.gateRun = true →
    exec .gateRunEntry s =
      .next
        { s with
          gate := { s.gate with active := s.gate.active || (s.mc.mode == .run && s.cfg.gateFitted) }
          handed := { s.handed with gateRun := false } }


/-- A Line Record in the active span: the values are kept, both stage conditions judged from them, a condition that
holds stops the restore timer, and the own SHEDDING flag becoming true is handed on; a record carrying LOST ends the
span: every circuit OFF, the circuits 0..3 in use marked, the conditions false and the three timers 0, the rest as it
stood. A record taken outside the active span is kept, the conditions are false and nothing is handed (R117, R124, R125,
R131). That the active flag stands for the mode is the model's choice (assumption 42). -/
def Obligations.CircuitControllerTakesARecord : Prop :=
  ∀ (r : LineRecord) (rest : List LineRecord) (s : State), s.powered = true → s.handed.circuitRecords = r :: rest →
    let kept : Kept :=
      { filtered := r.filtered, lock := r.lock, setPoint := s.gov.setPoint, demand := s.gov.demand }
    let trusted := r.lock.trusted
    let c1 := trusted && decide (r.filtered + s.cfg.u1 < s.gov.setPoint) && (s.gov.demand == 0 || s.cfg.pb == 0)
    let c2 := trusted && decide (r.filtered + s.cfg.u2 < s.gov.setPoint)
    (s.circ.active = true → r.lock ≠ .lost →
      exec .circuitCycleEnd s =
        .next
          { s with
            circ :=
              { s.circ with
                kept := some kept
                stage1 := c1
                stage2 := c2
                timer1 := if c1 then s.circ.timer1 else 0
                timer2 := if c2 then s.circ.timer2 else 0
                restoreTimer := if c1 || c2 then 0 else s.circ.restoreTimer }
            handed :=
              { s.handed with
                circuitRecords := rest
                ownRaised := s.handed.ownRaised + bit (!(s.circ.stage1 || s.circ.stage2) && (c1 || c2)) } }) ∧
    (s.circ.active = true → r.lock = .lost →
      ∃ t, exec .circuitCycleEnd s = .next t ∧
        (∀ k, t.circ.table.get k =
          ⟨.off, (s.circ.table.get k).mark ||
            (k != .c4 && (s.circuitState k == .on || s.circuitState k == .waiting || s.circuitState k == .shed))⟩) ∧
        t = { s with
          circ :=
            { s.circ with
              kept := some kept, active := false, table := t.circ.table, stage1 := false, stage2 := false
              timer1 := 0, timer2 := 0, restoreTimer := 0 }
          handed := { s.handed with circuitRecords := rest } }) ∧
    (s.circ.active = false → r.lock ≠ .lost →
      exec .circuitCycleEnd s =
        .next
          { s with
            circ := { s.circ with kept := some kept, stage1 := false, stage2 := false, timer1 := 0, timer2 := 0 }
            handed := { s.handed with circuitRecords := rest } }) ∧
    (s.circ.active = false → r.lock = .lost →
      exec .circuitCycleEnd s =
        .next
          { s with
            circ := { s.circ with kept := some kept }
            handed := { s.handed with circuitRecords := rest } })

/-- The timers of the Circuit Controller at the tick that brings them to their ends: a pause ends by the debounced
level; a stage sheds, of its classes in the order 3, 2 and for stage 2 also 1, the first circuit ON of the first
rotation list that holds one, with a withdrawal, and circuit 4 with the stop of the saw, and moves it to the end of its
list; the restore brings back every SHED circuit as a restore claim (R119, R125 to R129, R155; assumptions 5 and 24). -/
def Obligations.CircuitTimersExpire : Prop :=
  (∀ (k : Circ) (s : State), s.powered = true → s.circ.active = true → s.circuitState k = .paused 1 →
    let asserted := (s.circ.demand.get k.idx).level
    exec (.pauseExpiry k) s =
      .next
        { s with
          circ :=
            { s.circ with
              table :=
                s.circ.table.set k { s.circ.table.get k with state := if asserted then .waiting else .off } }
          handed :=
            { s.handed with
              requests :=
                s.handed.requests ++
                  (if asserted then [.create k (s.cfg.rating.get k) (s.cfg.cls.get k) false] else []) } }) ∧
  (∀ (st : Stage) (s : State), s.powered = true → s.circ.condition st = true →
    s.circ.timer st + 1 = s.threshold st →
    let classes := if st = .stage2 then [3, 2, 1] else [3, 2]
    let someOn : Nat → Prop := fun cls => ∃ k ∈ s.circ.rotation.get cls, s.circuitState k = .on
    ((∀ cls ∈ classes, ¬someOn cls) →
      exec (.stageShed st) s =
        .next
          { s with
            circ :=
              { s.circ with
                timer1 := if st = .stage1 then 0 else s.circ.timer1
                timer2 := if st = .stage2 then 0 else s.circ.timer2 } }) ∧
    ∀ (cls : Nat) (k : Circ) (before after : List Circ), cls ∈ classes → (∀ c ∈ classes, cls < c → ¬someOn c) →
      s.circ.rotation.get cls = before ++ k :: after → s.circuitState k = .on →
      (∀ j ∈ before, s.circuitState j ≠ .on) → (s.circ.rotation.get cls).Nodup →
      ∃ t, exec (.stageShed st) s = .next t ∧
        t.circ.rotation.get cls = before ++ after ++ [k] ∧
        (∀ c, c ≤ 3 → c ≠ cls → t.circ.rotation.get c = s.circ.rotation.get c) ∧
        t.circ =
          { s.circ with
            table := s.circ.table.set k { s.circ.table.get k with state := if k = .c4 then .off else .shed }
            rotation := t.circ.rotation
            timer1 := if st = .stage1 then 0 else s.circ.timer1
            timer2 := if st = .stage2 then 0 else s.circ.timer2
            sheds1 := if st = .stage1 then min 65535 (s.circ.sheds1 + 1) else s.circ.sheds1
            sheds2 := if st = .stage2 then min 65535 (s.circ.sheds2 + 1) else s.circ.sheds2 } ∧
        t.handed = { s.handed with requests := s.handed.requests ++ [.withdraw k] } ∧
        (k ≠ .c4 ∨ s.saw.state.asksClutch = false → t.saw = s.saw) ∧
        (k = .c4 → s.saw.state.asksClutch = true →
          t.saw =
            { s.saw with
              state := if s.saw.clutchClosed.level then .stopping s.cfg.trel else .idle
              feed := 0, adaptCount := 0, adaptFull := true, adaptLow := false, target := none
              sawShedStops := min 65535 (s.saw.sawShedStops + 1) }) ∧
        t = { s with circ := t.circ, saw := t.saw, handed := t.handed }) ∧
  ∀ s : State, s.powered = true → s.circ.active = true → s.circ.stage1 = false → s.circ.stage2 = false →
    s.circ.restoreTimer + 1 = s.restoreThreshold →
    let order := s.circ.rotation.k0 ++ s.circ.rotation.k1 ++ s.circ.rotation.k2 ++ s.circ.rotation.k3
    let restored := order.filter fun k => s.circuitState k == .shed
    order.Nodup → restored ≠ [] →
    ∃ t, exec .restore s = .next t ∧
      (∀ k, t.circ.table.get k =
        if k ∈ restored then { s.circ.table.get k with state := .waiting } else s.circ.table.get k) ∧
      t = { s with
        circ :=
          { s.circ with
            table := t.circ.table
            restores := min 65535 (s.circ.restores + restored.length)
            restoreTimer := 0 }
        handed :=
          { s.handed with
            requests :=
              s.handed.requests ++
                restored.map fun k => .create k (s.cfg.rating.get k) (s.cfg.cls.get k) true } }

/-- A shed takes a circuit of the stage's classes only: the circuit it takes was ON and stood in the rotation list of
class 3 or 2, or for stage 2 of class 1, and no other circuit changes its state. Where each index stands in the list of
its configured class, as every step keeps it (EveryStepKeepsTheCircuits), the circuit is of such a class itself, so that
class 0 is never shed; and the lists are then without repeats, alone and together, and none is longer than five (R126 to
R128). -/
def Obligations.ShedsOnlyEligibleCircuits : Prop :=
  (∀ (st : Stage) (s t : State), s.powered = true → CircuitsOk s → exec (.stageShed st) s = .next t →
    (∀ k, t.circuitState k ≠ s.circuitState k →
      s.circuitState k = .on ∧ (k = .c4 → t.circuitState k = .off) ∧ (k ≠ .c4 → t.circuitState k = .shed) ∧
        (k ∈ s.circ.rotation.k3 ∨ k ∈ s.circ.rotation.k2 ∨ st = .stage2 ∧ k ∈ s.circ.rotation.k1) ∧
        (RotationOk s →
          s.cfg.cls.get k = 3 ∨ s.cfg.cls.get k = 2 ∨ st = .stage2 ∧ s.cfg.cls.get k = 1)) ∧
    ∀ j k, t.circuitState j ≠ s.circuitState j → t.circuitState k ≠ s.circuitState k → j = k) ∧
  ∀ s : State, RotationOk s →
    let lists := s.circ.rotation
    (lists.k0 ++ lists.k1 ++ lists.k2 ++ lists.k3).Nodup ∧
      ∀ cls, (lists.get cls).Nodup ∧ (lists.get cls).length ≤ 5

/-! ### The entries to DARK -/

/-- Each block's own taking of the entry to DARK. The Circuit Controller's, in the active span, turns every circuit OFF,
marks the circuits 0..3 in use, and makes the conditions false and the three timers 0; one that finds the span ended
already changes nothing. The saw's depends on its state: from CLAIMING to IDLE, from a state that asks for the clutch to
STOPPING, or to IDLE where the clutch is already open; in both cases circuit 4 is withdrawn where the circuits are still
active and it is WAITING or ON; in the other states nothing happens (R68, R82, R110, R121, R131, R153, R156, R169, R172;
assumption 24 for the saw's interval record). That the quiet-gap timer is 0 in IDLE is the model's choice (assumption
44). -/
def Obligations.EntriesToDarkAreTaken : Prop :=
  (∀ s : State, s.powered = true → s.handed.dark.telegram = true →
    exec .telegramDarkEntry s =
      .next
        { s with
          tele :=
            { s.tele with
              slot := none, list := [], tx := .idle, gapTimer := 0, statusCount := 0, recallDuration := 0,
              claimSchedules := ⟨none, none, none, none, none⟩, releaseSchedules := ⟨none, none, none, none, none⟩,
              rx := .closed, qualityCount := 0, quality := .good }
          handed := { s.handed with dark := { s.handed.dark with telegram := false } } }) ∧
  (∀ s : State, s.powered = true → s.handed.dark.neighbour = true →
    exec .neighbourDarkEntry s =
      .next
        { s with
          table := { s.table with records := [] }
          handed := { s.handed with dark := { s.handed.dark with neighbour := false } } }) ∧
  (∀ s : State, s.powered = true → s.handed.dark.admission = true →
    ∃ t, exec .admissionDarkEntry s = .next t ∧
      t = { s with
        adm := { s.adm with own := [], heard := [] }
        tele := t.tele
        handed := { s.handed with dark := { s.handed.dark with admission := false } } } ∧
      t.tele = { s.tele with
        claimSchedules := t.tele.claimSchedules
        list := s.tele.list.filter fun c => !(s.adm.own.map fun o => Copy.claim o.circuit).contains c
        tx := t.tele.tx
        gapTimer := t.tele.gapTimer } ∧
      ∀ k, t.tele.claimSchedules.get k =
        if k ∈ s.adm.own.map OwnClaim.circuit then none else s.tele.claimSchedules.get k) ∧
  (∀ s : State, s.powered = true → s.handed.dark.circuit = true → s.circ.active = true →
    ∃ t, exec .circuitDarkEntry s = .next t ∧
      (∀ k, t.circ.table.get k =
        ⟨.off, (s.circ.table.get k).mark ||
          (k != .c4 && (s.circuitState k == .on || s.circuitState k == .waiting || s.circuitState k == .shed))⟩) ∧
      t = { s with
        circ :=
          { s.circ with
            active := false, table := t.circ.table, stage1 := false, stage2 := false, timer1 := 0, timer2 := 0
            restoreTimer := 0 }
        handed := { s.handed with dark := { s.handed.dark with circuit := false } } }) ∧
  (∀ s : State, s.powered = true → s.handed.dark.circuit = true → s.circ.active = false →
    exec .circuitDarkEntry s =
      .next { s with handed := { s.handed with dark := { s.handed.dark with circuit := false } } }) ∧
  (∀ s : State, s.powered = true → s.handed.dark.saw = true → s.sawWorks = true →
    let t := { s with handed := { s.handed with dark := { s.handed.dark with saw := false } } }
    let withdrawn : State :=
      if s.circ.active = true ∧ (s.circuitState .c4 = .waiting ∨ s.circuitState .c4 = .on) then
        { t with
          circ := { s.circ with table := s.circ.table.set .c4 { s.circ.table.get .c4 with state := .off } }
          handed := { t.handed with requests := s.handed.requests ++ [.withdraw .c4] } }
      else t
    exec .sawDarkEntry s =
      .next
        (if s.saw.state = .claiming then { withdrawn with saw := { s.saw with state := .idle, feed := 0 } }
        else if s.saw.state.asksClutch then
          { withdrawn with
            saw :=
              { s.saw with
                state := if s.saw.clutchClosed.level then .stopping s.cfg.trel else .idle
                feed := 0, adaptCount := 0, adaptFull := true, adaptLow := false, target := none } }
        else t)) ∧
  (∀ s : State, s.powered = true → s.handed.dark.saw = true → s.sawWorks = false →
    exec .sawDarkEntry s =
      .next { s with handed := { s.handed with dark := { s.handed.dark with saw := false } } }) ∧
  ∀ s : State, s.powered = true → s.handed.dark.gate = true →
    exec .gateDarkEntry s =
      .next
        { s with
          gate := { s.gate with state := .rest, high := 0, low := 0, active := false }
          handed := { s.handed with dark := { s.handed.dark with gate := false } } }

/-! ### The Saw Drive -/

/-- The saw takes a Line Record, by its state. SPINUP goes on to CUTTING within Msp of Fs, and through RETURNING to
READY as far as the limits stand asserted. CUTTING forms q from the margin, counts the adaptation interval and adapts Fb
where it completes, moves the feed toward Ft, by at most Rr when rising and at once when falling, and counts the stall
run, which at Nst enters BACKOFF with Fb lowered by two steps. BACKOFF counts down and ends in SPINUP or, at Lst, in
RETURNING. A record carrying LOST stops the saw, and withdraws circuit 4 where it holds it. In the other states, and
while the drive is held, the record does nothing (R137, R142 to R151, R153, R156; that the stall run keeps its value
outside CUTTING and that the interval record is emptied at each exit are assumptions 23 and 24). -/
def Obligations.SawTakesALineRecord : Prop :=
  ∀ (r : LineRecord) (rest : List LineRecord) (s : State), s.powered = true → s.handed.sawRecords = r :: rest →
    let t := { s with handed := { s.handed with sawRecords := rest } }
    let becomes := fun w : Saw => exec .sawCycleEnd s = .next { t with saw := w }
    let emptied := fun w : Saw => { w with adaptCount := 0, adaptFull := true, adaptLow := false, target := none }
    let returned := fun w : Saw =>
      if s.saw.returnLimit.level then { emptied w with state := .ready s.cfg.tready, feed := 0 }
      else { emptied w with state := .returning, feed := -(s.cfg.rrt : Int) }
    let resumed := fun w : Saw =>
      if s.cfg.lst ≤ w.stallCount then returned w
      else { w with state := .spinup s.cfg.tsu, feed := 0, target := none }
    (s.sawWorks = false → becomes s.saw) ∧
    (s.sawWorks = true → r.lock ≠ .lost →
      (∀ n, s.saw.state = .spinup n →
        let entered := { emptied s.saw with state := .cutting, feed := 0, stallRun := 0 }
        becomes
          (if s.gov.setPoint ≤ r.filtered + s.cfg.msp then
            (if s.saw.forwardLimit.level then returned entered else entered)
          else s.saw)) ∧
      (s.saw.state = .cutting →
        let m : Int := (r.filtered : Int) - ((s.gov.setPoint : Int) - s.cfg.dst)
        let w : Int := (s.cfg.dst : Int) - s.cfg.dsl
        let q : Nat := if w ≤ m then 1000 else if m ≤ 0 then 0 else (Int.tdiv (1000 * m) w).toNat
        let full := s.saw.adaptFull && q == 1000
        let low := s.saw.adaptLow || decide (q < 500)
        let complete := s.cfg.nad ≤ s.saw.adaptCount + 1
        let fb : Nat :=
          if complete then
            if full then min (s.saw.baseFeed + s.cfg.step) s.cfg.fc
            else if low then max (s.saw.baseFeed - s.cfg.step) s.cfg.ff
            else s.saw.baseFeed
          else s.saw.baseFeed
        let ft : Nat := fb * q / 1000
        let run := if m ≤ 0 then s.saw.stallRun + 1 else 0
        let cut : Saw :=
          { s.saw with
            baseFeed := fb
            adaptCount := if complete then 0 else s.saw.adaptCount + 1
            adaptFull := if complete then true else full
            adaptLow := if complete then false else low
            feed := if s.saw.feed < ft then min (s.saw.feed + s.cfg.rr) ft else ft
            target := some (q, ft)
            stallRun := run }
        let stalled : Saw :=
          { emptied cut with
            state := .backoff s.cfg.nbk
            feed := -(s.cfg.rbk : Int)
            baseFeed := max (fb - 2 * s.cfg.step) s.cfg.ff
            stallCount := s.saw.stallCount + 1
            stalls := min 65535 (s.saw.stalls + 1) }
        becomes
          (if s.cfg.nst ≤ run then (if s.saw.returnLimit.level then resumed stalled else stalled) else cut)) ∧
      (∀ n, s.saw.state = .backoff n →
        becomes (if n ≤ 1 then resumed s.saw else { s.saw with state := .backoff (n - 1) })) ∧
      ((∀ n, s.saw.state ≠ .spinup n ∧ s.saw.state ≠ .backoff n) → s.saw.state ≠ .cutting → becomes s.saw)) ∧
    (s.sawWorks = true → r.lock = .lost →
      let withdrawn : State :=
        if s.circ.active = true ∧ (s.circuitState .c4 = .waiting ∨ s.circuitState .c4 = .on) then
          { t with
            circ := { s.circ with table := s.circ.table.set .c4 { s.circ.table.get .c4 with state := .off } }
            handed := { t.handed with requests := s.handed.requests ++ [.withdraw .c4] } }
        else t
      exec .sawCycleEnd s =
        .next
          (if s.saw.state = .claiming then { withdrawn with saw := { s.saw with state := .idle, feed := 0 } }
          else if s.saw.state.asksClutch then
            { withdrawn with
              saw :=
                { emptied s.saw with
                  state := if s.saw.clutchClosed.level then .stopping s.cfg.trel else .idle
                  feed := 0 } }
          else t))

/-- The saw at a tick. One event at a time: what each input event does in each state, and that an event for which the
state names no result is not acted on, so that the tick does what it does without an event: what the standing clutch
level does in IDLE, and the counting of the state's timer, which a timer set at the same tick takes part in. Where a
timer reaches 0 the tick does what the timeout command does. A withdrawal takes circuit 4 OFF where the circuits are
active and it is WAITING or ON; a START in IDLE is refused, and counted, where the circuits are not active, the mode is
not RUN or circuit 4 has no rating, and a clutch that stands closed then takes the drive to FAULT. While the drive is
held only the debouncers work. Then any events together: they are taken in the order CLUTCH CLOSED, RETURN LIMIT,
FORWARD LIMIT, STOP, START, each under the state then standing, before the standing clutch level is tested and the timer
counted (R121, R136, R137, R139 to R143, R149 to R154, R156, R157; that CLUTCH CLOSED rising in IDLE is taken by its
event is assumption 11, and that the interval record is emptied at each exit is assumption 24). -/
def Obligations.SawTickTakesInputsAndCounts : Prop :=
  (∀ (p : Pins) (s : State), s.powered = true → s.time.tickWaiting = [.saw] → ConfigOk s.cfg →
    let rises := fun (d : Debouncer) (v : Bool) => !d.level && (d.sample v).level
    let events :=
      [rises s.saw.clutchClosed p.clutchClosed,
        s.saw.clutchClosed.level && !(s.saw.clutchClosed.sample p.clutchClosed).level,
        rises s.saw.returnLimit p.returnLimit, rises s.saw.forwardLimit p.forwardLimit, rises s.saw.stop p.stop,
        rises s.saw.start p.start]
    let w : Saw :=
      { s.saw with
        start := s.saw.start.sample p.start
        stop := s.saw.stop.sample p.stop
        clutchClosed := s.saw.clutchClosed.sample p.clutchClosed
        forwardLimit := s.saw.forwardLimit.sample p.forwardLimit
        returnLimit := s.saw.returnLimit.sample p.returnLimit }
    let u : State := { s with time := { s.time with tickWaiting := [] } }
    let withdrawn : State :=
      if s.circ.active = true ∧ (s.circuitState .c4 = .waiting ∨ s.circuitState .c4 = .on) then
        { u with
          circ := { s.circ with table := s.circ.table.set .c4 { s.circ.table.get .c4 with state := .off } }
          handed := { s.handed with requests := s.handed.requests ++ [.withdraw .c4] } }
      else u
    let tick := exec (.stationTick [.saw] p) s
    let becomes := fun v : Saw => tick = .next { u with saw := v }
    let leaves := fun v : Saw => tick = .next { withdrawn with saw := v }
    let emptied := fun v : Saw => { v with adaptCount := 0, adaptFull := true, adaptLow := false, target := none }
    let fault := fun (code : FaultCode) =>
      { w with state := .fault code, feed := 0, sawFaults := min 65535 (s.saw.sawFaults + 1) }
    let idle := { w with state := .idle, feed := 0 }
    let stopped :=
      { emptied w with
        state := if w.clutchClosed.level then .stopping (s.cfg.trel - 1) else .idle
        feed := 0 }
    let newPass :=
      { w with
        state := .spinup (s.cfg.tsu - 1)
        feed := 0
        target := none
        baseFeed := if s.cfg.keepAdaptation then s.saw.baseFeed else s.cfg.ff
        stallCount := 0 }
    let ready := fun v : Saw => { v with state := .ready (s.cfg.tready - 1), feed := 0 }
    let returned :=
      if w.returnLimit.level then ready (emptied w)
      else { emptied w with state := .returning, feed := -(s.cfg.rrt : Int) }
    let refusals := min 65535 (s.saw.sawRefused + 1)
    let open_ := ∃ n, s.saw.state = .spinup n ∨ s.saw.state = .cutting ∨ s.saw.state = .backoff n ∨
      s.saw.state = .returning ∨ s.saw.state = .ready n
    let unmoved :=
      (s.saw.state = .idle → becomes (if w.clutchClosed.level then fault .unexpected else w)) ∧
      (∀ n, s.saw.state = .engaging n →
        if n ≤ 1 then leaves (fault .engage) else becomes { w with state := .engaging (n - 1) }) ∧
      (∀ n, s.saw.state = .spinup n →
        if n ≤ 1 then
          leaves { stopped with state := if w.clutchClosed.level then .stopping s.cfg.trel else .idle }
        else becomes { w with state := .spinup (n - 1) }) ∧
      (∀ n, s.saw.state = .ready n →
        if n ≤ 1 then
          leaves { stopped with state := if w.clutchClosed.level then .stopping s.cfg.trel else .idle }
        else becomes { w with state := .ready (n - 1) }) ∧
      (∀ n, s.saw.state = .stopping n →
        becomes (if n ≤ 1 then fault .release else { w with state := .stopping (n - 1) })) ∧
      ((s.saw.state = .claiming ∨ s.saw.state = .cutting ∨ s.saw.state = .returning ∨
          (∃ n, s.saw.state = .backoff n) ∨ ∃ code, s.saw.state = .fault code) →
        becomes w)
    (s.sawWorks = false → becomes w) ∧
    (s.sawWorks = true →
      (events = [true, false, false, false, false, false] →
        (s.saw.state = .idle → becomes (fault .unexpected)) ∧
        (s.saw.state = .claiming → leaves (fault .unexpected)) ∧
        (∀ n, s.saw.state = .engaging n → becomes newPass) ∧
        (s.saw.state ≠ .idle → s.saw.state ≠ .claiming → (∀ n, s.saw.state ≠ .engaging n) → unmoved)) ∧
      (events = [false, true, false, false, false, false] →
        (open_ → leaves stopped) ∧ (∀ n, s.saw.state = .stopping n → becomes idle) ∧
        (¬open_ → (∀ n, s.saw.state ≠ .stopping n) → unmoved)) ∧
      (events = [false, false, true, false, false, false] →
        (s.saw.state = .returning → becomes (ready w)) ∧
        (∀ n, s.saw.state = .backoff n →
          becomes
            (if s.cfg.lst ≤ s.saw.stallCount then ready (emptied w)
            else { w with state := .spinup (s.cfg.tsu - 1), feed := 0, target := none })) ∧
        (s.saw.state ≠ .returning → (∀ n, s.saw.state ≠ .backoff n) → unmoved)) ∧
      (events = [false, false, false, true, false, false] →
        (s.saw.state = .cutting → becomes returned) ∧ (s.saw.state ≠ .cutting → unmoved)) ∧
      (events = [false, false, false, false, true, false] →
        (s.saw.state = .claiming → leaves (if w.clutchClosed.level then fault .unexpected else idle)) ∧
        (s.saw.state.asksClutch = true → leaves stopped) ∧
        (∀ code, s.saw.state = .fault code → becomes (if w.clutchClosed.level then w else idle)) ∧
        (s.saw.state = .idle ∨ (∃ n, s.saw.state = .stopping n) → unmoved)) ∧
      (events = [false, false, false, false, false, true] →
        (s.saw.state = .idle →
          (s.circ.active = false ∨ s.mc.mode ≠ .run ∨ s.circuitState .c4 = .off ∧ s.cfg.rating.get .c4 = 0 →
            becomes
              (if w.clutchClosed.level then { fault .unexpected with sawRefused := refusals }
              else { w with sawRefused := refusals })) ∧
          (s.circ.active = true → s.mc.mode = .run → s.circuitState .c4 = .off → s.cfg.rating.get .c4 ≠ 0 →
            tick =
              .next
                { u with
                  saw := { w with state := .claiming }
                  circ :=
                    { s.circ with table := s.circ.table.set .c4 { s.circ.table.get .c4 with state := .waiting } }
                  handed :=
                    { s.handed with
                      requests :=
                        s.handed.requests ++ [.create .c4 (s.cfg.rating.get .c4) (s.cfg.cls.get .c4) false] } })) ∧
        (∀ n, s.saw.state = .ready n → becomes newPass) ∧
        (s.saw.state ≠ .idle → (∀ n, s.saw.state ≠ .ready n) → unmoved)) ∧
      (events = [false, false, false, false, false, false] → unmoved))) ∧
  ∀ (p : Pins) (s : State), s.powered = true → s.time.tickWaiting = [.saw] → s.sawWorks = true →
    let becomes := fun (x : Saw) (v : State) => { v with saw := x }
    let emptied := fun x : Saw => { x with adaptCount := 0, adaptFull := true, adaptLow := false, target := none }
    let withdrawn := fun v : State =>
      if v.circ.active = true ∧ (v.circuitState .c4 = .waiting ∨ v.circuitState .c4 = .on) then
        { v with
          circ := { v.circ with table := v.circ.table.set .c4 { v.circ.table.get .c4 with state := .off } }
          handed := { v.handed with requests := v.handed.requests ++ [.withdraw .c4] } }
      else v
    let idle := fun v : State => becomes { v.saw with state := .idle, feed := 0 } v
    let fault := fun (code : FaultCode) (v : State) =>
      becomes { v.saw with state := .fault code, feed := 0, sawFaults := min 65535 (v.saw.sawFaults + 1) } v
    let stopping := fun v : State =>
      becomes
        { emptied v.saw with
          state := if v.saw.clutchClosed.level then .stopping v.cfg.trel else .idle
          feed := 0 }
        (withdrawn v)
    let resumed := fun v : State => becomes { v.saw with state := .spinup v.cfg.tsu, feed := 0, target := none } v
    let newPass := fun v : State =>
      becomes
        { v.saw with
          state := .spinup v.cfg.tsu
          feed := 0
          target := none
          baseFeed := if v.cfg.keepAdaptation then v.saw.baseFeed else v.cfg.ff
          stallCount := 0 }
        v
    let ready := fun v : State => becomes { v.saw with state := .ready v.cfg.tready, feed := 0 } v
    let returning := fun v : State =>
      if v.saw.returnLimit.level then ready (becomes (emptied v.saw) v)
      else becomes { emptied v.saw with state := .returning, feed := -(v.cfg.rrt : Int) } v
    let raised := fun v : State =>
      if v.circ.active = false ∨ v.mc.mode ≠ .run ∨ v.circuitState .c4 = .off ∧ v.cfg.rating.get .c4 = 0 then
        becomes { v.saw with sawRefused := min 65535 (v.saw.sawRefused + 1) } v
      else if v.circuitState .c4 = .off then
        { v with
          saw := { v.saw with state := .claiming }
          circ := { v.circ with table := v.circ.table.set .c4 { v.circ.table.get .c4 with state := .waiting } }
          handed :=
            { v.handed with
              requests := v.handed.requests ++ [.create .c4 (v.cfg.rating.get .c4) (v.cfg.cls.get .c4) false] } }
      else becomes { v.saw with state := .claiming } v
    let clutchCloses := fun v : State =>
      match v.saw.state with
      | .idle => fault .unexpected v
      | .claiming => fault .unexpected (withdrawn v)
      | .engaging _ => newPass v
      | _ => v
    let clutchOpens := fun v : State =>
      match v.saw.state with
      | .idle | .claiming | .engaging _ | .fault _ => v
      | .stopping _ => idle v
      | _ => stopping v
    let returnLimit := fun v : State =>
      match v.saw.state with
      | .backoff _ => if v.cfg.lst ≤ v.saw.stallCount then returning v else resumed v
      | .returning => ready v
      | _ => v
    let forwardLimit := fun v : State => if v.saw.state = .cutting then returning v else v
    let stop := fun v : State =>
      match v.saw.state with
      | .idle | .stopping _ => v
      | .claiming => idle (withdrawn v)
      | .fault _ => if v.saw.clutchClosed.level then v else idle v
      | _ => stopping v
    let start := fun v : State =>
      match v.saw.state with
      | .idle => raised v
      | .ready _ => newPass v
      | _ => v
    let standing := fun v : State =>
      if v.saw.state = .idle ∧ v.saw.clutchClosed.level = true then fault .unexpected v else v
    let counted := fun v : State =>
      match v.saw.state with
      | .engaging n =>
        if n ≤ 1 then fault .engage (withdrawn v) else becomes { v.saw with state := .engaging (n - 1) } v
      | .spinup n => if n ≤ 1 then stopping v else becomes { v.saw with state := .spinup (n - 1) } v
      | .ready n => if n ≤ 1 then stopping v else becomes { v.saw with state := .ready (n - 1) } v
      | .stopping n => if n ≤ 1 then fault .release v else becomes { v.saw with state := .stopping (n - 1) } v
      | _ => v
    let at_ := fun (happens : Bool) (event : State → State) (v : State) => if happens then event v else v
    let w : Saw :=
      { s.saw with
        start := s.saw.start.sample p.start
        stop := s.saw.stop.sample p.stop
        clutchClosed := s.saw.clutchClosed.sample p.clutchClosed
        forwardLimit := s.saw.forwardLimit.sample p.forwardLimit
        returnLimit := s.saw.returnLimit.sample p.returnLimit }
    let sampled : State := { s with time := { s.time with tickWaiting := [] }, saw := w }
    let clutch :=
      at_ (s.saw.clutchClosed.level && !w.clutchClosed.level) clutchOpens
        (at_ (!s.saw.clutchClosed.level && w.clutchClosed.level) clutchCloses sampled)
    let limits :=
      at_ (!s.saw.forwardLimit.level && w.forwardLimit.level) forwardLimit
        (at_ (!s.saw.returnLimit.level && w.returnLimit.level) returnLimit clutch)
    let buttons :=
      at_ (!s.saw.start.level && w.start.level) start (at_ (!s.saw.stop.level && w.stop.level) stop limits)
    exec (.stationTick [.saw] p) s = .next (counted (standing buttons))

/-- The timers of the saw at the event that brings them to their ends: the engage timeout withdraws circuit 4 and enters
FAULT ENGAGE, spin-up and ready time out to STOPPING, the release timeout enters FAULT RELEASE, the stall run enters
BACKOFF, the interval adapts Fb, and the backoff ends in SPINUP or, at Lst, in RETURNING (R141, R143, R147, R148, R150,
R152 to R154; that the timers end by themselves is assumption 5, that the interval completes without another cycle end
is assumption 33, and that the interval record and the target are emptied at the entries to STOPPING and RETURNING from
states other than CUTTING is assumption 24). -/
def Obligations.SawTimersExpire : Prop :=
  (∀ s : State, s.powered = true → s.sawWorks = true → s.circ.active = true → s.circuitState .c4 = .on →
    let withdrawn : State :=
      { s with
        circ := { s.circ with table := s.circ.table.set .c4 { s.circ.table.get .c4 with state := .off } }
        handed := { s.handed with requests := s.handed.requests ++ [.withdraw .c4] } }
    let stopped : Saw :=
      { s.saw with
        state := if s.saw.clutchClosed.level then .stopping s.cfg.trel else .idle
        feed := 0, adaptCount := 0, adaptFull := true, adaptLow := false, target := none }
    (s.saw.state = .engaging 1 →
      exec .engageTimeout s =
        .next
          { withdrawn with
            saw :=
              { s.saw with state := .fault .engage, feed := 0, sawFaults := min 65535 (s.saw.sawFaults + 1) } }) ∧
    (s.saw.state = .spinup 1 → exec .spinupTimeout s = .next { withdrawn with saw := stopped }) ∧
    (s.saw.state = .ready 1 → exec .readyTimeout s = .next { withdrawn with saw := stopped })) ∧
  (∀ s : State, s.powered = true → s.sawWorks = true → s.saw.state = .stopping 1 →
    exec .releaseTimeout s =
      .next
        { s with
          saw :=
            { s.saw with state := .fault .release, feed := 0, sawFaults := min 65535 (s.saw.sawFaults + 1) } }) ∧
  (∀ s : State, s.powered = true → s.sawWorks = true → s.saw.state = .cutting → s.saw.stallRun + 1 = s.cfg.nst →
    s.saw.returnLimit.level = false →
    exec .stall s =
      .next
        { s with
          saw :=
            { s.saw with
              state := .backoff s.cfg.nbk
              feed := -(s.cfg.rbk : Int)
              baseFeed := max (s.saw.baseFeed - 2 * s.cfg.step) s.cfg.ff
              stallRun := s.saw.stallRun + 1
              stallCount := s.saw.stallCount + 1
              stalls := min 65535 (s.saw.stalls + 1)
              adaptCount := 0, adaptFull := true, adaptLow := false, target := none } }) ∧
  (∀ s : State, s.powered = true → s.sawWorks = true → s.saw.state = .cutting →
    s.saw.adaptCount + 1 = s.cfg.nad →
    let fb :=
      if s.saw.adaptFull then min (s.saw.baseFeed + s.cfg.step) s.cfg.fc
      else if s.saw.adaptLow then max (s.saw.baseFeed - s.cfg.step) s.cfg.ff
      else s.saw.baseFeed
    exec .adaptationIntervalComplete s =
      .next
        { s with
          saw :=
            { s.saw with
              baseFeed := fb, feed := min s.saw.feed fb, adaptCount := 0, adaptFull := true, adaptLow := false } }) ∧
  ∀ s : State, s.powered = true → s.sawWorks = true → s.saw.state = .backoff 1 →
    s.saw.returnLimit.level = false →
    exec .sawBackoffEnd s =
      .next
        { s with
          saw :=
            if s.cfg.lst ≤ s.saw.stallCount then
              { s.saw with
                state := .returning, feed := -(s.cfg.rrt : Int), adaptCount := 0, adaptFull := true, adaptLow := false,
                target := none }
            else { s.saw with state := .spinup s.cfg.tsu, feed := 0, target := none } }

/-! ### Gate Trim -/

/-- An evaluation in GOOD reception forms H, keeps the record, updates the counts against the band and starts the pulse
whose count stands at Ng where its conditions hold; where Csum is 0 no H is formed, and both counts are cleared; one in
POOR reception clears the counts; one that finds Gate Trim inactive, or whose STATUS was composed outside RUN, is
ignored; a pulse ends when its remaining time reaches 0 (R163 to R165, R167; assumption 39 for the form of the event,
assumption 5 for the end of the pulse). That Gate Trim still evaluates between the mode leaving RUN and GATE_DARK_ENTRY
is the model's choice (assumption 42). -/
def Obligations.EvaluationMovesTheGate : Prop :=
  (∀ (e : EvaluationEvent) (rest : List EvaluationEvent) (s : State), s.powered = true →
    s.handed.evaluations = e :: rest →
    let t := { s with handed := { s.handed with evaluations := rest } }
    let wsum := e.ballast + ((s.table.records.filter fun n => n.condition == .fresh).map Neighbour.ballast).sum
    let csum := e.capacity + ((s.table.records.filter fun n => n.condition == .fresh).map Neighbour.capacity).sum
    (s.gate.active = false ∨ e.composedIn ≠ .run → exec .gateEvaluation s = .next t) ∧
    (s.gate.active = true → e.composedIn = .run →
      (s.tele.quality = .poor → exec .gateEvaluation s = .next { t with gate := { s.gate with high := 0, low := 0 } }) ∧
      (s.tele.quality = .good → csum = 0 → 0 < s.cfg.ng →
        exec .gateEvaluation s =
          .next
            { t with
              gate :=
                { s.gate with
                  high := 0, low := 0
                  evaluation := some { wsum := wsum, csum := 0, h := none, setPoint := s.gov.setPoint } } }) ∧
      (s.tele.quality = .good → csum ≠ 0 →
        let h := 1000 * wsum / csum
        let high := if s.cfg.ht + s.cfg.band < h then min s.cfg.ng (s.gate.high + 1) else 0
        let low :=
          if s.cfg.ht + s.cfg.band < h then 0
          else if h + s.cfg.band < s.cfg.ht then min s.cfg.ng (s.gate.low + 1) else 0
        let judged : Gate :=
          { s.gate with
            high := high
            low := low
            evaluation := some { wsum := wsum, csum := csum, h := some h, setPoint := s.gov.setPoint } }
        let free := s.gate.state = .rest ∧ s.cfg.tgi ≤ s.gate.sinceLast
        let lower :=
          free ∧ high = s.cfg.ng ∧ s.adm.claimsPending = false ∧ s.anyShedding = false ∧
            s.gate.closedLimit.level = false
        let raise := free ∧ low = s.cfg.ng ∧ s.gate.openLimit.level = false
        exec .gateEvaluation s =
          .next
            { t with
              gate :=
                if lower then
                  { judged with
                    state := .lowering s.cfg.lp, sinceLast := 0, high := 0, low := 0
                    lowerPulses := min 65535 (s.gate.lowerPulses + 1) }
                else if raise then
                  { judged with
                    state := .raising s.cfg.lp, sinceLast := 0, high := 0, low := 0
                    raisePulses := min 65535 (s.gate.raisePulses + 1) }
                else judged }))) ∧
  ∀ s : State, s.powered = true → (s.gate.state = .raising 1 ∨ s.gate.state = .lowering 1) →
    exec .pulseEnd s = .next { s with gate := { s.gate with state := .rest } }

/-- Gate Trim at a tick, in every mode. The limits are sampled, and one that asserts in the pulse's direction ends the
pulse and counts it as cut; the time since the last pulse goes up; the pulse remaining goes down and the pulse ends at
0; then, while active, a SHEDDING flag starts a RAISE pulse from REST where the interval has run out and OPEN LIMIT is
deasserted (R162, R165 to R167). That it may start one between the mode leaving RUN and GATE_DARK_ENTRY is the model's
choice (assumption 42). -/
def Obligations.GateTickCountsAndRaises : Prop :=
  ∀ (p : Pins) (s : State), s.powered = true → s.time.tickWaiting = [.gate] →
    let openLimit := s.gate.openLimit.sample p.openLimit
    let closedLimit := s.gate.closedLimit.sample p.closedLimit
    let opened := !s.gate.openLimit.level && openLimit.level
    let closed := !s.gate.closedLimit.level && closedLimit.level
    let cut :=
      match s.gate.state with
      | .raising _ => opened
      | .lowering _ => closed
      | .rest => false
    let state : TrimState :=
      match s.gate.state with
      | .raising n => if cut then .rest else if n ≤ 1 then .rest else .raising (n - 1)
      | .lowering n => if cut then .rest else if n ≤ 1 then .rest else .lowering (n - 1)
      | .rest => .rest
    let since := min 65535 (s.gate.sinceLast + 1)
    let ticked : Gate :=
      { s.gate with
        state := state
        sinceLast := since
        openLimit := openLimit
        closedLimit := closedLimit
        pulsesCut := if cut then min 65535 (s.gate.pulsesCut + 1) else s.gate.pulsesCut }
    exec (.stationTick [.gate] p) s =
      .next
        { s with
          time := { s.time with tickWaiting := [] }
          gate :=
            if s.gate.active = true ∧ (s.circ.shedding = true ∨ s.table.shedding = true) ∧ state = .rest ∧
                s.cfg.tgi ≤ since ∧ openLimit.level = false then
              { ticked with
                state := .raising s.cfg.lp, sinceLast := 0, high := 0, low := 0
                raisePulses := min 65535 (s.gate.raisePulses + 1) }
            else ticked }

/-! ### The Mode Controller -/

/-- A Line Record by the mode that finds it: LOCKED ends DARK in RECOVER, and at a recall origin goes on to STAGGER;
LOST ends RECOVER, STAGGER and RUN in DARK, counted and handed to the blocks; nothing else acts (R171, R172, R174,
R176). -/
def Obligations.ModeFollowsTheLock : Prop :=
  ∀ (r : LineRecord) (rest : List LineRecord) (s : State), s.powered = true → s.handed.modeRecords = r :: rest →
    ∃ t, exec .modeCycleEnd s = .next t ∧
      (s.mc.mode = .dark → r.lock = .locked → s.cfg.recallOrigin = false →
        t.mc = { s.mc with mode := .recover, recallWait := some s.cfg.trw } ∧
          t.tele = { s.tele with statusCount := 0, rx := if s.tele.tx.isSending then s.tele.rx else .hunt } ∧
          t = { s with mc := t.mc, tele := t.tele, handed := { s.handed with modeRecords := rest } }) ∧
      (s.mc.mode = .dark → r.lock = .locked → s.cfg.recallOrigin = true →
        t.mc =
            { s.mc with
              mode := .stagger, recallWait := none, stagger := some (s.loader.strapLatch * s.cfg.tsg) } ∧
          t.tele.recallDuration = s.cfg.trd ∧
          ∃ b, t.tele.slot = some b ∧ b.carriesRecall = decide (0 < s.cfg.trd) ∧ b.flags.stagger = false) ∧
      ((s.mc.mode = .recover ∨ s.mc.mode = .stagger ∨ s.mc.mode = .run) → r.lock = .lost →
        t =
          { s with
            mc :=
              { s.mc with
                mode := .dark, darkDuration := 0, recallWait := none, stagger := none
                darkEntries := min 65535 (s.mc.darkEntries + 1) }
            handed :=
              { s.handed with modeRecords := rest, dark := ⟨true, true, true, true, true, true⟩ } }) ∧
      ((s.mc.mode = .dark ∧ r.lock ≠ .locked ∨ s.mc.mode.online = true ∧ r.lock ≠ .lost ∨ s.mc.mode = .halted) →
        t = { s with handed := { s.handed with modeRecords := rest } })

/-- The recall, the waits and what a tick counts in the Mode Controller. A recall heard in RECOVER and the end of the
recall wait enter STAGGER, each with its counter; the end of the stagger enters RUN, handed to the Circuit Controller
and Gate Trim; the dark memory running out clears every mark. At a tick the dark duration goes up in DARK, the recall
wait down in RECOVER, the stagger remaining down in STAGGER, and the count that reaches its end does what the expiry
command does (R132, R173, R175 to R177; that the expiries can be commanded by themselves is assumption 5, that a tick
which finds STAGGER counts it down also right after a recall of the same instant is the model's choice, assumption 40,
and that evaluations of before are handed no more is assumption 39). -/
def Obligations.RecallStaggerAndDarkMemory : Prop :=
  (∀ s : State, s.powered = true → 0 < s.handed.recalls →
    exec .recallHeard s =
      .next
        { s with
          mc :=
            if s.mc.mode = .recover then
              { s.mc with
                mode := .stagger, recallWait := none, stagger := some (s.loader.strapLatch * s.cfg.tsg)
                recallsHeard := min 65535 (s.mc.recallsHeard + 1) }
            else s.mc
          handed := { s.handed with recalls := s.handed.recalls - 1 } }) ∧
  ∀ s : State, s.powered = true →
    let staggered : ModeCtl :=
      { s.mc with
        mode := .stagger, recallWait := none, stagger := some (s.loader.strapLatch * s.cfg.tsg)
        recallTimeouts := min 65535 (s.mc.recallTimeouts + 1) }
    let run := fun u : State =>
      { u with
        mc := { s.mc with mode := .run, stagger := none }
        handed := { s.handed with circuitRun := true, gateRun := true, evaluations := [] } }
    let dark := min 65535 (s.mc.darkDuration + 1)
    let unmarked : Five Circuit :=
      ⟨{ s.circ.table.c0 with mark := false }, { s.circ.table.c1 with mark := false },
        { s.circ.table.c2 with mark := false }, { s.circ.table.c3 with mark := false },
        { s.circ.table.c4 with mark := false }⟩
    (s.mc.mode = .recover → s.mc.recallWait = some 1 → exec .recallWaitExpiry s = .next { s with mc := staggered }) ∧
    (s.mc.mode = .stagger → s.mc.stagger = some 1 → exec .staggerExpiry s = .next (run s)) ∧
    (s.mc.mode = .dark → s.mc.darkDuration = s.cfg.tdm → s.cfg.tdm ≤ 60000 →
      exec .darkMemoryExpiry s =
        .next
          { s with
            mc := { s.mc with darkDuration := s.cfg.tdm + 1 }
            circ := { s.circ with table := unmarked } }) ∧
    ∀ p : Pins, s.time.tickWaiting = [.mode] →
      let u : State := { s with time := { s.time with tickWaiting := [] } }
      let tick := exec (.stationTick [.mode] p) s
      (s.mc.mode = .dark →
        tick =
          .next
            { u with
              mc := { s.mc with darkDuration := dark }
              circ :=
                if s.mc.darkDuration ≤ s.cfg.tdm ∧ s.cfg.tdm < dark then { s.circ with table := unmarked }
                else s.circ }) ∧
      (∀ n, s.mc.mode = .recover → s.mc.recallWait = some n →
        tick = .next { u with mc := if n ≤ 1 then staggered else { s.mc with recallWait := some (n - 1) } }) ∧
      (∀ n, s.mc.mode = .stagger → s.mc.stagger = some n →
        tick = .next (if n ≤ 1 then run u else { u with mc := { s.mc with stagger := some (n - 1) } })) ∧
      (s.mc.mode = .start ∨ s.mc.mode = .halted ∨ s.mc.mode = .run → tick = .next u)

/-! ### The Start Loader -/

/-- The straps and the attempts: a strap number begins the autoload with a start condition, 0 ends START in HALTED; at
an address byte that the memory does not acknowledge, the bytes sent so far stand on the bus with a repeated start
before the third, the loader ends the transaction and empties the staging buffer, and waits 5,000 µs for the next
attempt, or after the fourth ends START with NO ANSWER; the wait's end begins the next attempt (R17, R40, R158, R180,
R181, R184). That the end of START is taken by all blocks at one event is assumption 31, that untaken Line Records are
dropped and e is absent then are assumptions 14 and 22, and that the bus is held as the list of what has passed on it,
with a stop condition at a failed attempt, is assumption 19. -/
def Obligations.StrapsAndAttempts : Prop :=
  let failed := fun (status : AutoloadStatus) (s u : State) =>
    { u with
      meter :=
        { u.meter with
          elapsed := 65535, silence := 0, sumSq := 0, samples := 0, filtered := 50000, lock := .lost, goodRun := 0,
          badRun := 0, cycleCount := 0, record := LineRecord.startValues 50000 }
      gov := { s.gov with target := 50000, setPoint := 50000, lastError := none }
      saw := { s.saw with baseFeed := 300 }
      mc := { s.mc with mode := .halted }
      loader := { u.loader with status := status, phase := .none }
      cfg := defaultConfig
      handed :=
        { s.handed with governorRecords := [], circuitRecords := [], sawRecords := [], modeRecords := [] } }
  let failedBus : AddressByte → List BusEvent := fun which =>
    match which with
    | .deviceForWrite => [.start, .sent 0xA0 false, .stop]
    | .wordAddress => [.start, .sent 0xA0 true, .sent 0x00 false, .stop]
    | .deviceForRead =>
      [.start, .sent 0xA0 true, .sent 0x00 true, .repeatedStart, .sent 0xA1 false, .stop]
  ∀ s : State, s.powered = true → s.mc.mode = .start →
    (∀ straps : BitVec 5, s.loader.strapDone = false → straps.toNat ≠ 0 →
      let t := elapseTo ((s.loader.enteredAt / 200 + 1) * 200) s
      exec (.strapLatch straps) s =
        .next
          { t with
            loader :=
              { s.loader with
                strapLatch := straps.toNat, strapDone := true, attempts := s.loader.attempts + 1, status := .reading
                phase := .attempt, bus := [.start] } }) ∧
    (s.loader.strapDone = false → s.panel.pendingRequest = none →
      let u := elapseTo ((s.loader.enteredAt / 200 + 1) * 200) s
      ∃ t, exec (.strapLatch 0) s = .next t ∧ t.attention = true ∧
        t = failed .notRun s { u with loader := { s.loader with strapLatch := 0, strapDone := true } }) ∧
    (∀ (dt : Nat) (which : AddressByte), s.loader.phase = .attempt →
      let cut := { elapse dt s with loader := { s.loader with staging := [], bus := failedBus which } }
      (s.loader.attempts < 4 →
        exec (.addressNotAcknowledged dt which) s =
          .next { cut with loader := { cut.loader with phase := .waiting (s.time.now + dt + 5000) } }) ∧
      (4 ≤ s.loader.attempts → s.panel.pendingRequest = none →
        exec (.addressNotAcknowledged dt which) s = .next (failed .noAnswer s cut))) ∧
    ∀ instant : Nat, s.loader.phase = .waiting instant →
      exec .autoloadRetryWaitExpiry s =
        .next
          { elapseTo instant s with
            loader :=
              { s.loader with
                attempts := s.loader.attempts + 1, status := .reading, phase := .attempt, bus := [.start] } }

/-- A completed attempt leaves its transaction on the bus, the 64 bytes acknowledged but the last, and a stop condition;
a wrong tag or a bad CRC ends START in HALTED on the defaults with its status; a good record is clamped and put in
force, the rotation lists are built where none stands, and START succeeds into DARK, uncounted; a request held in START
is then taken as a byte received in the mode entered. The record is decoded by the offsets and the storage units of
section 11.5 (R17, R40, R126, R158, R178, R181 to R184, R186, R192). That the end of
START is taken by all blocks and the panel at one event is assumption 31, that untaken Line Records are dropped and e is
absent then are assumptions 14 and 22, and the form of the bus is assumption 19. -/
def Obligations.RecordIsCheckedAndPutInForce : Prop :=
  (∀ b : List Byte,
    let byte := fun o : Nat => (b.getD o 0).toNat
    let word := fun o : Nat => byte o * 256 + byte (o + 1)
    let low := fun o : Nat => byte o % 16
    let high := fun o : Nat => byte o / 16
    let flag := fun o i : Nat => (b.getD o 0).getLsbD i
    let demand := fun i : Nat => if flag 3 i then DemandType.edge else .level
    decodeRecord b =
      { hamlet := byte 1, anchor := flag 2 0, adopt := flag 2 1, recallOrigin := flag 2 2, gateFitted := flag 2 3
        sawFitted := flag 2 4, keepAdaptation := flag 2 5
        demandType := ⟨demand 0, demand 1, demand 2, demand 3⟩
        cls := ⟨byte 4 % 4, byte 4 / 4 % 4, byte 4 / 16 % 4, byte 4 / 64, byte 3 / 16 % 4⟩
        fcfg := word 5, vmin := byte 7, k := byte 8 % 8, nl := high 8, na := byte 9, kp := byte 10, ki := byte 11
        fover := 20 * byte 12, pb := 25 * byte 13, vn := byte 14, ia := byte 15, nrep := byte 16 % 8, eq := high 16
        trd := 20 * byte 17, lc := 200 * byte 18, reserve := 50 * byte 19, th := byte 20, ts := 5 * byte 21
        tb := byte 22, nf := low 23, lr := high 23
        rating := ⟨100 * byte 24, 100 * byte 25, 100 * byte 26, 100 * byte 27, 100 * byte 28⟩
        u1 := 20 * byte 29, u2 := word 30, t1 := 2 * byte 32, t2 := byte 33, tq := 25 * byte 34, tr := 25 * byte 35
        tce := 2 * byte 36, trel := 2 * byte 37, msp := 10 * byte 38, tsu := 10 * byte 39, dsl := 10 * byte 40
        dst := 20 * byte 41, ff := 10 * byte 42, fc := 10 * byte 43, rr := byte 44, nst := byte 45, nad := byte 46
        step := byte 47, rbk := 10 * byte 48, nbk := byte 49, lst := low 50, ng := high 50, rrt := 10 * byte 51
        tready := word 52, ht := 5 * byte 54, band := 5 * byte 55, tgi := word 56, lp := byte 58
        tdm := 250 * byte 59, trw := 20 * byte 60, tsg := byte 61 }) ∧
  (∀ (dt : Nat) (bytes : List Byte) (s : State), s.powered = true → bytes.length = 64 → s.mc.mode = .start →
    s.loader.phase = .attempt → s.panel.pendingRequest = none →
    let bus : List BusEvent :=
      [.start, .sent 0xA0 true, .sent 0x00 true, .repeatedStart, .sent 0xA1 true] ++
        (bytes.take 63).map (BusEvent.read · true) ++ (bytes.drop 63).map (BusEvent.read · false) ++ [.stop]
    let u := { elapse dt s with loader := { s.loader with staging := bytes, bus := bus } }
    let failed := fun (status : AutoloadStatus) =>
      { u with
        meter :=
          { u.meter with
            elapsed := 65535, silence := 0, sumSq := 0, samples := 0, filtered := 50000, lock := .lost, goodRun := 0,
            badRun := 0, cycleCount := 0, record := LineRecord.startValues 50000 }
        gov := { s.gov with target := 50000, setPoint := 50000, lastError := none }
        saw := { s.saw with baseFeed := 300 }
        mc := { s.mc with mode := .halted }
        loader := { u.loader with status := status, phase := .none }
        cfg := defaultConfig
        handed :=
          { s.handed with governorRecords := [], circuitRecords := [], sawRecords := [], modeRecords := [] } }
    let final := clampConfig (decodeRecord bytes)
    exec (.attemptComplete dt bytes) s =
      .next
        (if byteAt bytes 0 ≠ 0x4B then failed .wrongTag
        else if (crc16 (bytes.take 62)).toNat ≠ wordAt bytes 62 then failed .badCrc
        else
          { u with
            meter :=
              { u.meter with
                elapsed := 65535, silence := 0, sumSq := 0, samples := 0, filtered := final.fcfg, lock := .lost,
                goodRun := 0, badRun := 0, cycleCount := 0, record := LineRecord.startValues final.fcfg }
            gov := { s.gov with target := final.fcfg, setPoint := final.fcfg, lastError := none }
            circ :=
              { s.circ with
                rotation :=
                  if s.circ.rotation = ⟨[], [], [], []⟩ then
                    ⟨Circ.all.filter (final.cls.get · == 0), Circ.all.filter (final.cls.get · == 1),
                      Circ.all.filter (final.cls.get · == 2), Circ.all.filter (final.cls.get · == 3)⟩
                  else s.circ.rotation }
            saw := { s.saw with baseFeed := final.ff }
            mc := { s.mc with mode := .dark, darkDuration := 0, recallWait := none, stagger := none }
            loader :=
              { u.loader with
                status := .loaded, phase := .none, clampCount := clampsMade (decodeRecord bytes) final }
            cfg := final
            handed :=
              { s.handed with
                governorRecords := [], circuitRecords := [], sawRecords := [], modeRecords := []
                dark := ⟨true, true, true, true, true, true⟩ } })) ∧
  ∀ (c : Instr) (b : Byte) (s u : State), s.powered = true → s.mc.mode = .start → s.panel.pendingRequest = some b →
    (c = .strapLatch 0 ∨ (∃ dt which, c = .addressNotAcknowledged dt which) ∨
      ∃ dt bytes, c = .attemptComplete dt bytes) →
    exec c { s with panel := { s.panel with pendingRequest := none } } = .next u → u.mc.mode ≠ .start →
    exec c s = exec (.unknownRequest 0 b) u

/-- The clamps. Each numeric field takes the nearest value of its range, the linked fields each from the values settled
before it, and the flags and the demand types stand; the result is in range; a record that is in range is changed in
nothing; the clamp count is the number of numeric fields that changed, each counted once; the record of section 10.3.1
makes five (R183). -/
def Obligations.ClampsBringEveryRecordInRange : Prop :=
  (∀ c : Config,
    let into := fun (x lo hi : Nat) => if x < lo then lo else if hi < x then hi else x
    let u1 := into c.u1 200 3000
    let u2 := if into c.u2 300 5000 < u1 + 100 then u1 + 100 else into c.u2 300 5000
    let dsl := if u1 - 50 < into c.dsl 50 1000 then u1 - 50 else into c.dsl 50 1000
    let ff := into c.ff 50 1000
    let numbers := fun d : Config =>
      [d.fcfg, d.vmin, d.k, d.na, d.nl, d.kp, d.ki, d.fover, d.pb, d.vn, d.hamlet, d.ia, d.nrep, d.eq, d.trd, d.lc,
        d.reserve, d.th, d.ts, d.tb, d.nf, d.lr, d.rating.c0, d.rating.c1, d.rating.c2, d.rating.c3, d.rating.c4,
        d.cls.c0, d.cls.c1, d.cls.c2, d.cls.c3, d.cls.c4, d.u1, d.u2, d.t1, d.t2, d.tq, d.tr, d.tce, d.trel, d.msp,
        d.tsu, d.dsl, d.dst, d.ff, d.fc, d.rr, d.nst, d.nad, d.step, d.rbk, d.nbk, d.lst, d.rrt, d.tready, d.ht,
        d.band, d.ng, d.tgi, d.lp, d.tdm, d.trw, d.tsg]
    ConfigOk (clampConfig c) ∧
    clampConfig c =
      { c with
        fcfg := into c.fcfg 48000 52000, vmin := into c.vmin 100 220, k := into c.k 0 4, na := into c.na 5 250
        nl := into c.nl 1 15, kp := into c.kp 0 255, ki := into c.ki 0 255, fover := into c.fover 500 5000
        pb := into c.pb 0 6000, vn := into c.vn 200 250, hamlet := into c.hamlet 1 254, ia := into c.ia 25 250
        nrep := into c.nrep 1 4, eq := into c.eq 1 15, trd := into c.trd 100 3000, lc := into c.lc 0 30000
        reserve := into c.reserve 0 10000, th := into c.th 10 250, ts := into c.ts 25 500, tb := into c.tb 10 250
        nf := into c.nf 1 15, lr := into c.lr 0 15
        rating :=
          ⟨into c.rating.c0 0 15000, into c.rating.c1 0 15000, into c.rating.c2 0 15000, into c.rating.c3 0 15000,
            into c.rating.c4 0 15000⟩
        cls :=
          ⟨into c.cls.c0 0 3, into c.cls.c1 0 3, into c.cls.c2 0 3, into c.cls.c3 0 3, into c.cls.c4 0 3⟩
        u1 := u1, u2 := u2, t1 := into c.t1 10 500, t2 := into c.t2 2 100, tq := into c.tq 50 3000
        tr := into c.tr 50 3000, tce := into c.tce 10 500, trel := into c.trel 10 500, msp := into c.msp 50 1000
        tsu := into c.tsu 50 1500, dsl := dsl, dst := into c.dst (dsl + 50) u1, ff := ff, fc := into c.fc ff 1000
        rr := into c.rr 1 200, nst := into c.nst 1 50, nad := into c.nad 5 250, step := into c.step 1 100
        rbk := into c.rbk 50 1000, nbk := into c.nbk 5 250, lst := into c.lst 1 10, rrt := into c.rrt 100 1000
        tready := into c.tready 250 15000, ht := into c.ht 0 1000, band := into c.band 0 500, ng := into c.ng 1 15
        tgi := into c.tgi 250 15000, lp := into c.lp 5 250, tdm := into c.tdm 500 60000, trw := into c.trw 100 3000
        tsg := into c.tsg 10 250 } ∧
    clampsMade c (clampConfig c) =
      (List.zipWith (fun x y => if x = y then 0 else 1) (numbers c) (numbers (clampConfig c))).sum ∧
    (ConfigOk c → clampConfig c = c ∧ clampsMade c (clampConfig c) = 0)) ∧
  let mill := { defaultConfig with u1 := 900, u2 := 950, dsl := 880, dst := 1200, ff := 1100, fc := 250 }
  clampConfig mill = { defaultConfig with u1 := 900, u2 := 1000, dsl := 850, dst := 900, ff := 1000, fc := 1000 } ∧
    clampsMade mill (clampConfig mill) = 5

/-! ### The Panel Port -/

/-- Outside START and with no reply in progress, each reading request begins a reply with the record of its block as the
state stands, and any other byte is answered 0x15; in START a SUMMARY is answered so, any other byte is held, and one
that comes while a request is held is discarded and counted; a byte during a reply is discarded and counted; the reply
ends when its last byte has left the line, which is rounded up to whole µs (assumption 9); ATTENTION holds while one of
its five causes does (R85, R113, R135, R160, R186, R187, R190). -/
def Obligations.PanelAnswersRequests : Prop :=
  (∀ (dt : Nat) (s : State), s.powered = true → s.panel.reply = none →
    let t := elapse dt s
    let reply := fun (bytes : List Byte) =>
      (Host.Outcome.next
        { t with panel := { s.panel with reply := some { bytes := bytes, startedAt := s.time.now + dt } } } : Result)
    (s.mc.mode ≠ .start →
      exec (.summary dt) s = reply (replyFrame 0x01 (summaryRecord t)) ∧
      exec (.line dt) s = reply (replyFrame 0x02 (lineRecord t)) ∧
      exec (.neighbours dt) s = reply (replyFrame 0x03 (neighboursRecord t)) ∧
      exec (.claims dt) s = reply (replyFrame 0x04 (claimsRecord t)) ∧
      exec (.circuits dt) s = reply (replyFrame 0x05 (circuitsRecord t)) ∧
      exec (.saw dt) s = reply (replyFrame 0x06 (sawPanelRecord t)) ∧
      exec (.counters dt) s = reply (replyFrame 0x07 (countersRecord t)) ∧
      ∀ b : Byte, b.toNat = 0 ∨ 9 < b.toNat → exec (.unknownRequest dt b) s = reply [0x15]) ∧
    (s.mc.mode = .start → s.panel.pendingRequest = none →
      exec (.summary dt) s = reply (replyFrame 0x01 (summaryRecord t)) ∧
      ∀ b : Byte, b ≠ 1 →
        exec (.unknownRequest dt b) s = .next { t with panel := { s.panel with pendingRequest := some b } })) ∧
  (∀ (dt : Nat) (b : Byte) (s : State), s.powered = true →
    (s.panel.reply.isSome = true ∨ s.mc.mode = .start ∧ s.panel.pendingRequest.isSome = true) →
    exec (.panelOverrun dt b) s =
      .next
        { elapse dt s with panel := { s.panel with overruns := min 65535 (s.panel.overruns + 1) } }) ∧
  (∀ (r : Reply) (s : State), s.powered = true → s.panel.reply = some r →
    exec .replyComplete s =
      .next
        { elapseTo (r.startedAt + (r.bytes.length * 3125 + 2) / 3) s with panel := { s.panel with reply := none } }) ∧
  ∀ s : State, s.attention = true ↔
    (s.mc.mode = .halted ∨ 0 < s.tele.duplicateTimer ∨ s.tele.quality = .poor ∨ (∃ code, s.saw.state = .fault code) ∨
      0 < s.loader.clampCount)

/-- Every reply frames its record with 0xA5, its code and its length and sums to 0 modulo 256, and every panel record is
laid out as section 11.6 gives: its length, and at each offset its field, high byte first, an absent field all ones (an
absent e 0x8000) (R187, R192). That the fault codes, the timers, the wait reasons, the cycle classes and the autoload
statuses are numbered from 0 in their listed order is the model's choice (assumption 38), and so are that a flag which
fills a whole byte is 1 where set and 0 where clear (assumption 43), that the wait
reason is shown by the rest of the state where the mode has left RUN (assumption 41) and that a value too large for its
field is written modulo the field (assumption 28); the absent fields of an empty evaluation record are assumption 27.
-/
def Obligations.PanelRecordsAreLaidOut : Prop :=
  (∀ (code : Byte) (record : List Byte),
    ((replyFrame code record).map BitVec.toNat).sum % 256 = 0 ∧
      (replyFrame code record).dropLast = [0xA5, code, byteOf record.length] ++ record) ∧
  ∀ s : State,
    let three := fun (r : List Byte) (o : Nat) => byteAt r o * 65536 + wordAt r (o + 1)
    let four := fun (r : List Byte) (o : Nat) => wordAt r o * 65536 + wordAt r (o + 2)
    let opt1 := fun x : Option Nat => (x.map (· % 256)).getD 255
    let opt2 := fun x : Option Nat => (x.map (· % 65536)).getD 65535
    let signed := fun x : Option Int => (x.map fun i => (i % 65536).toNat).getD 0x8000
    let flags := fun (bs : List Bool) => ((List.range bs.length).zipWith (fun i b => if b then 2 ^ i else 0) bs).sum
    (let r := summaryRecord s
      let e := s.gate.evaluation
      r.length = 35 ∧
      byteAt r 0 =
        (match s.mc.mode with | .start => 0 | .halted => 1 | .dark => 2 | .recover => 3 | .stagger => 4 | .run => 5) ∧
      byteAt r 1 =
        flags [s.mc.mode == .halted, 0 < s.tele.duplicateTimer, s.tele.quality == .poor,
          s.saw.state.isFault, 0 < s.loader.clampCount] ∧
      wordAt r 2 = s.mc.darkDuration % 65536 ∧
      wordAt r 4 =
        opt2 (match s.mc.mode with | .recover => s.mc.recallWait | .stagger => s.mc.stagger | _ => none) ∧
      byteAt r 6 = s.loader.strapLatch % 256 ∧ byteAt r 7 = bit s.loader.strapDone ∧
      byteAt r 8 =
        (match s.loader.status with
          | .notRun => 0 | .reading => 1 | .loaded => 2 | .noAnswer => 3 | .wrongTag => 4 | .badCrc => 5) ∧
      byteAt r 9 = s.loader.attempts % 256 ∧ byteAt r 10 = s.loader.clampCount % 256 ∧
      byteAt r 11 = s.cfg.hamlet % 256 ∧ byteAt r 12 = bit (s.tele.quality == .poor) ∧
      byteAt r 13 = s.tele.qualityCount % 256 ∧ wordAt r 14 = s.tele.duplicateTimer % 65536 ∧
      byteAt r 16 = (match s.gate.state with | .rest => 0 | .raising _ => 1 | .lowering _ => 2) ∧
      byteAt r 17 =
        opt1 (match s.gate.state with | .rest => none | .raising n => some n | .lowering n => some n) ∧
      wordAt r 18 = s.gate.sinceLast % 65536 ∧ byteAt r 20 = s.gate.high % 256 ∧ byteAt r 21 = s.gate.low % 256 ∧
      byteAt r 22 = flags [s.gate.openLimit.level, s.gate.closedLimit.level, s.gate.active, e.isSome] ∧
      four r 23 = ((e.map fun x => x.wsum % 4294967296).getD 4294967295) ∧
      four r 27 = ((e.map fun x => x.csum % 4294967296).getD 4294967295) ∧
      wordAt r 31 = ((e.bind Evaluation.h).map (min 65534 ·)).getD 65535 ∧
      wordAt r 33 = opt2 (e.map Evaluation.setPoint)) ∧
    (let r := lineRecord s
      let l := s.meter.record
      let g := s.gov
      r.length = 47 ∧
      wordAt r 0 = l.cycleCount % 65536 ∧
      byteAt r 2 = (match l.cls with | .good => 0 | .badRange => 1 | .badVoltage => 2 | .missing => 3) ∧
      wordAt r 3 = opt2 l.period ∧ wordAt r 5 = opt2 l.freq ∧ wordAt r 7 = l.filtered % 65536 ∧
      three r 9 = ((l.ms.map (· % 16777216)).getD 16777215) ∧ wordAt r 12 = opt2 l.vrms ∧
      byteAt r 14 = (match l.lock with | .lost => 0 | .acquiring => 1 | .locked => 2 | .doubtful => 3) ∧
      byteAt r 15 = s.meter.goodRun % 256 ∧ byteAt r 16 = s.meter.badRun % 256 ∧
      wordAt r 17 = g.target % 65536 ∧ wordAt r 19 = g.setPoint % 65536 ∧ wordAt r 21 = signed g.lastError ∧
      three r 23 = g.integral % 16777216 ∧ wordAt r 26 = g.demand % 65536 ∧ wordAt r 28 = g.burst % 65536 ∧
      byteAt r 30 = bit g.switch ∧ wordAt r 31 = g.absorbed % 65536 ∧ wordAt r 33 = g.capacity % 65536 ∧
      four r 35 = g.sumAbsorbed % 4294967296 ∧ four r 39 = g.sumCapacity % 4294967296 ∧
      wordAt r 43 = g.sumCount % 65536 ∧ wordAt r 45 = g.overspeedCycles % 65536) ∧
    (let r := neighboursRecord s
      let set := fun x : Option Nat => match x with | some sp => (sp - 40000) % 65536 | none => 0
      r.length = 13 + 11 * s.table.records.length ∧
      byteAt r 0 = s.table.records.length % 256 ∧ four r 1 = s.table.ballast % 4294967296 ∧
      four r 5 = s.table.capacity % 4294967296 ∧ byteAt r 9 = bit s.table.shedding ∧
      byteAt r 10 = (match s.table.anchorRecord with | some n => n.station % 256 | none => 0) ∧
      wordAt r 11 = set s.table.anchorSetPoint ∧
      ∀ i n, s.table.records[i]? = some n →
        let o := 13 + 11 * i
        byteAt r o = n.station % 256 ∧
          byteAt r (o + 1) =
            flags [n.flags.anchor, n.flags.setPointPresent, n.flags.shedding, n.flags.sawFitted, n.flags.gateFitted,
              n.flags.recallOrigin, n.flags.stagger] ∧
          wordAt r (o + 2) = n.ballast % 65536 ∧ wordAt r (o + 4) = n.capacity % 65536 ∧
          wordAt r (o + 6) = set n.setPoint ∧ wordAt r (o + 8) = n.age % 65536 ∧
          byteAt r (o + 10) = bit (n.condition == .stale)) ∧
    (let r := claimsRecord s
      let own := s.adm.own
      r.length = 7 + 15 * own.length + 8 * s.adm.heard.length ∧
      byteAt r 0 = own.length % 256 ∧ wordAt r 1 = s.adm.commitment % 65536 ∧ wordAt r 3 = s.cfg.lc % 65536 ∧
      byteAt r 5 = bit s.adm.claimsPending ∧ byteAt r (6 + 15 * own.length) = s.adm.heard.length % 256 ∧
      (∀ i c, own[i]? = some c →
        let o := 6 + 15 * i
        byteAt r o = c.circuit.idx ∧ wordAt r (o + 1) = c.amount % 65536 ∧ byteAt r (o + 3) = c.cls % 256 ∧
          byteAt r (o + 4) = c.effective % 256 ∧
          byteAt r (o + 5) =
            (match c.state with | .queued => 0 | .holdoff _ => 1 | .deferred _ => 2 | .settling _ => 3) ∧
          byteAt r (o + 6) = (i + 1) % 256 ∧
          byteAt r (o + 7) = opt1 (match c.state with | .holdoff n => some n | _ => none) ∧
          byteAt r (o + 8) = c.retries % 256 ∧
          wordAt r (o + 9) = opt2 (match c.state with | .deferred n => some n | _ => none) ∧
          wordAt r (o + 11) = opt2 (match c.state with | .settling n => some n | _ => none) ∧
          byteAt r (o + 13) = bit c.restore ∧
          byteAt r (o + 14) =
            if c.state = .queued then
              if (own.find? fun d => d.state == .queued).map OwnClaim.circuit ≠ some c.circuit then 0
              else if s.anyShedding then 1
              else if s.cfg.lc < s.adm.commitment + c.amount then 2
              else 3
            else 255) ∧
      ∀ i h, s.adm.heard[i]? = some h →
        let o := 7 + 15 * own.length + 8 * i
        byteAt r o = h.owner % 256 ∧ byteAt r (o + 1) = h.tag % 256 ∧ wordAt r (o + 2) = h.amount % 65536 ∧
          byteAt r (o + 4) = h.effective % 256 ∧ wordAt r (o + 5) = h.hold % 65536 ∧
          byteAt r (o + 7) = (i + 1) % 256) ∧
    (let r := circuitsRecord s
      let c := s.circ
      (∀ k,
        let o := 8 * k.idx
        wordAt r o = s.cfg.rating.get k % 65536 ∧ byteAt r (o + 2) = s.cfg.cls.get k % 256 ∧
          byteAt r (o + 3) = (if k = .c4 then 255 else bit (s.cfg.demandType.get k.idx == .edge)) ∧
          byteAt r (o + 4) =
            (match s.circuitState k with | .off => 0 | .waiting => 1 | .on => 2 | .shed => 3 | .paused _ => 4) ∧
          byteAt r (o + 5) = bit (c.table.get k).mark ∧
          wordAt r (o + 6) = opt2 (match s.circuitState k with | .paused n => some n | _ => none)) ∧
      byteAt r 40 = flags [c.demand.k0.level, c.demand.k1.level, c.demand.k2.level, c.demand.k3.level] ∧
      byteAt r 41 = flags [c.active, c.stage1, c.stage2, c.stage1 || c.stage2] ∧
      wordAt r 42 = c.timer1 % 65536 ∧ wordAt r 44 = s.threshold1 % 65536 ∧
      wordAt r 46 = c.timer2 % 65536 ∧ wordAt r 48 = s.threshold2 % 65536 ∧
      wordAt r 50 = c.restoreTimer % 65536 ∧ wordAt r 52 = s.restoreThreshold % 65536 ∧
      ((∀ cls, cls ≤ 3 → (c.rotation.get cls).length ≤ 5) →
        r.length = 74 ∧
        ∀ cls i, cls ≤ 3 → i ≤ 4 →
          byteAt r (54 + 5 * cls + i) =
            match (c.rotation.get cls)[i]? with
            | some k => k.idx
            | none => 255)) ∧
    (let r := sawPanelRecord s
      let w := s.saw
      let timer : Option (Nat × Nat) :=
        match w.state with
        | .engaging n => some (0, n)
        | .spinup n => some (1, n)
        | .backoff n => some (2, n)
        | .ready n => some (3, n)
        | .stopping n => some (4, n)
        | _ => none
      r.length = 20 ∧
      byteAt r 0 =
        (match w.state with
          | .idle => 0 | .claiming => 1 | .engaging _ => 2 | .spinup _ => 3 | .cutting => 4 | .backoff _ => 5
          | .returning => 6 | .ready _ => 7 | .stopping _ => 8 | .fault _ => 9) ∧
      byteAt r 1 =
        (match w.state with | .fault .engage => 0 | .fault .release => 1 | .fault .unexpected => 2 | _ => 255) ∧
      wordAt r 2 = w.baseFeed % 65536 ∧ wordAt r 4 = signed (some w.feed) ∧
      wordAt r 6 = opt2 (w.target.map Prod.fst) ∧ wordAt r 8 = opt2 (w.target.map Prod.snd) ∧
      byteAt r 10 = w.stallRun % 256 ∧ byteAt r 11 = w.stallCount % 256 ∧ byteAt r 12 = w.adaptCount % 256 ∧
      byteAt r 13 = flags [w.adaptFull, w.adaptLow] ∧ byteAt r 14 = opt1 (timer.map Prod.fst) ∧
      wordAt r 15 = opt2 (timer.map Prod.snd) ∧
      byteAt r 17 =
        flags [w.start.level, w.stop.level, w.clutchClosed.level, w.forwardLimit.level, w.returnLimit.level] ∧
      byteAt r 18 = flags [w.state.asksClutch, w.state.asksClutch && s.circuitState .c4 == .on] ∧
      byteAt r 19 =
        (match s.circuitState .c4 with | .off => 0 | .waiting => 1 | .on => 2 | .shed => 3 | .paused _ => 4)) ∧
    ((countersRecord s).length = 62 ∧
      ∀ i n,
        [s.meter.chatter, s.meter.badCycles, s.meter.lockLosses, s.gov.overspeedCycles, s.tele.sent, s.tele.received,
          s.tele.crcFailures, s.tele.foreignHamlet, s.tele.malformed, s.tele.duplicateStation,
          s.tele.statusSuperseded, s.table.overflow, s.adm.refusals, s.adm.admissions, s.adm.deferrals,
          s.adm.promotions, s.adm.claimOverflow, s.circ.sheds1, s.circ.sheds2, s.circ.restores, s.saw.sawRefused,
          s.saw.sawFaults, s.saw.stalls, s.saw.sawShedStops, s.gate.raisePulses, s.gate.lowerPulses,
          s.gate.pulsesCut, s.mc.darkEntries, s.mc.recallsHeard, s.mc.recallTimeouts, s.panel.overruns][i]? =
          some n →
        wordAt (countersRecord s) (2 * i) = n % 65536)

/-- CLEAR sets the 31 event counters and the clamp count to 0, keeps every other state, and is answered
0xA5, 0x08, 0x00, 0x53 (R187, R188). -/
def Obligations.ClearEmptiesTheCounters : Prop :=
  ∀ (dt : Nat) (s : State), s.powered = true → s.mc.mode ≠ .start → s.panel.reply = none →
    ∃ t, exec (.clear dt) s = .next t ∧ (∀ n ∈ counterList t, n = 0) ∧
      t = { elapse dt s with
        meter := { (elapse dt s).meter with chatter := 0, badCycles := 0, lockLosses := 0 }
        gov := { s.gov with overspeedCycles := 0 }
        tele :=
          { (elapse dt s).tele with
            sent := 0, received := 0, crcFailures := 0, foreignHamlet := 0, malformed := 0, duplicateStation := 0,
            statusSuperseded := 0 }
        table := { s.table with overflow := 0 }
        adm := { s.adm with refusals := 0, admissions := 0, deferrals := 0, promotions := 0, claimOverflow := 0 }
        circ := { s.circ with sheds1 := 0, sheds2 := 0, restores := 0 }
        saw := { s.saw with sawRefused := 0, sawFaults := 0, stalls := 0, sawShedStops := 0 }
        gate := { s.gate with raisePulses := 0, lowerPulses := 0, pulsesCut := 0 }
        mc := { s.mc with darkEntries := 0, recallsHeard := 0, recallTimeouts := 0 }
        loader := { s.loader with clampCount := 0 }
        panel :=
          { s.panel with
            overruns := 0
            reply := some { bytes := [0xA5, 0x08, 0x00, 0x53], startedAt := s.time.now + dt } } }

/-- RESTART: in DARK, RECOVER, STAGGER and RUN every block takes its RESTART rule and the station enters DARK,
uncounted; in HALTED it enters START; the reply begins at the same event, and the counters keep their values (R17, R41,
R69, R83, R111, R133, R158, R169, R178, R180, R189). The model's choices in it: untaken Line Records are dropped, in
HALTED too (assumption 14); e is absent (assumption 22); all blocks take the RESTART at one event, the Circuit
Controller before the Saw Drive, so that no withdrawal is handed (assumption 26); the kept values of R124 are kept
(assumption 34). That the quiet-gap timer is 0 in IDLE is the model's choice (assumption 44). -/
def Obligations.RestartResetsTheBlocks : Prop :=
  ∀ (dt : Nat) (s : State), s.powered = true → s.mc.mode ≠ .start → s.panel.reply = none →
    let restarted : State :=
      { elapse dt s with
        tele := { (elapse dt s).tele with duplicateTimer := 0 }
        table := { s.table with records := [] }
        adm := { s.adm with own := [], heard := [] }
        circ :=
          { s.circ with
            table := ⟨⟨.off, false⟩, ⟨.off, false⟩, ⟨.off, false⟩, ⟨.off, false⟩, ⟨.off, false⟩⟩
            active := false, stage1 := false, stage2 := false, timer1 := 0, timer2 := 0, restoreTimer := 0 }
        saw :=
          { s.saw with
            state := .idle, feed := 0, baseFeed := s.cfg.ff, stallRun := 0, stallCount := 0, adaptCount := 0,
            adaptFull := true, adaptLow := false, target := none }
        gate :=
          { s.gate with state := .rest, high := 0, low := 0, active := false, sinceLast := 65535, evaluation := none }
        handed :=
          { s.handed with governorRecords := [], circuitRecords := [], sawRecords := [], modeRecords := [] }
        panel := { s.panel with reply := some { bytes := replyFrame 0x09 [], startedAt := s.time.now + dt } } }
    ∃ t, exec (.restart dt) s = .next t ∧ counterList t = counterList s ∧
      (s.mc.mode = .halted →
        t = { restarted with
          mc := { s.mc with mode := .start }
          loader :=
            { s.loader with
              strapDone := false, status := .notRun, attempts := 0, phase := .none, clampCount := 0
              enteredAt := s.time.now + dt } }) ∧
      (s.mc.mode ≠ .halted →
        t = { restarted with
          meter :=
            { s.meter with
              elapsed := 65535, silence := 0, sumSq := 0, samples := 0, filtered := s.cfg.fcfg, lock := .lost,
              goodRun := 0, badRun := 0, cycleCount := 0, record := LineRecord.startValues s.cfg.fcfg }
          gov :=
            { s.gov with
              target := s.cfg.fcfg, setPoint := s.cfg.fcfg, demand := 0, integral := 0, burst := 0, switch := false,
              absorbed := 0, capacity := 0, sumAbsorbed := 0, sumCapacity := 0, sumCount := 0, lastError := none }
          tele :=
            { s.tele with
              slot := none, list := [], tx := .idle, gapTimer := 0, statusCount := 0, recallDuration := 0,
              claimSchedules := ⟨none, none, none, none, none⟩, releaseSchedules := ⟨none, none, none, none, none⟩,
              rx := .closed, qualityCount := 0, quality := .good, duplicateTimer := 0 }
          mc := { s.mc with mode := .dark, darkDuration := 0, recallWait := none, stagger := none }
          handed :=
            { s.handed with
              governorRecords := [], circuitRecords := [], sawRecords := [], modeRecords := []
              dark := ⟨true, true, true, true, true, true⟩ } })

/-! ### What every step keeps -/

/-- The event counters never pass 65,535; the configuration in force stays in range; the ticks and the samples stay on
their grids through every RESTART and every change of mode; the receive quality counter stays within 0..Eq and agrees
with the quality; the recall wait stands in RECOVER only and the stagger remaining in STAGGER only (R1, R6, R63, R174,
R176, R183). -/
def Obligations.EveryStepKeepsTheCountersTheRangesAndTheGrids : Prop :=
  EveryStepKeeps countersOk ∧ EveryStepKeeps configOk ∧ EveryStepKeeps gridOk ∧ EveryStepKeeps QualityOk ∧
    EveryStepKeeps modeOk

/-- The Line Meter's figures stay in their ranges, and its lock agrees with its runs; the governor's figures stay in
their ranges, and it never absorbs more than its capacity (R4, R5, R8, R11 to R13, R22, R23, R27, R29, R31, R33, R35).
-/
def Obligations.EveryStepKeepsTheMeterAndTheGovernor : Prop := EveryStepKeeps meterOk ∧ EveryStepKeeps governorOk

/-- The Neighbour Table stays ascending, of at most 16 records, each FRESH below the age of 3 × Ia and gone at 8 × Ia
(R70, R75). -/
def Obligations.EveryStepKeepsTheNeighbourTable : Prop := EveryStepKeeps TableOk

/-- The claim list keeps its keys distinct and its commitment within Lc (R86 to R88, R92, R101, R110). -/
def Obligations.EveryStepKeepsTheClaims : Prop := EveryStepKeeps ClaimsOk

/-- The transmit queue, the repeat schedules and the transmitter keep agreeing (R48, R49, R51, R57 to R59). -/
def Obligations.EveryStepKeepsTheTransmitter : Prop := EveryStepKeeps TransmitterOk

/-- No circuit is in use outside the active span, and circuit 4 is ON only while the saw asks for the clutch; the
rotation lists are empty until START has succeeded, and from then on hold each index exactly once, in the list of its
configured class (R115, R117, R126, R133, R138). -/
def Obligations.EveryStepKeepsTheCircuits : Prop := EveryStepKeeps CircuitsOk ∧ EveryStepKeeps RotationOk

/-- The feed command stays what the saw's state allows (R137, R146). -/
def Obligations.EveryStepKeepsTheFeed : Prop := EveryStepKeeps SawOk

/-- The gate's counts stay within Ng, and no pulse continues against its limit (R161, R162, R164, R167). -/
def Obligations.EveryStepKeepsTheGate : Prop := EveryStepKeeps GateOk

/-- In START and HALTED the station stays quiet: every output but ATTENTION is off, no telegram passes, and no cause of
ATTENTION stands but HALTED itself, so that ATTENTION is off in START and on in HALTED (R180, R185, R190). -/
def Obligations.EveryStepKeepsTheHeldStationQuiet : Prop :=
  EveryStepKeeps heldQuiet ∧
    ∀ s : State, Quiet s →
      s.outputs =
        { contactor := ⟨false, false, false, false⟩, ballast := false, clutch := false, feedDuty := 0,
          feedDirection := false, raise := false, lower := false, attention := s.mc.mode == .halted, modem := [] }
end

