-- ==== Sys2Proof/Laws/State.lean ====
section
/-! SUPPORT. One lemma per field per update of the state, each true by unfolding once. -/

namespace Sys2Proof.Machine

@[simp] theorem State.setTime_pending (s : State) (x : Time) : (s.setTime x).pending = s.pending := rfl
@[simp] theorem State.setTime_powered (s : State) (x : Time) : (s.setTime x).powered = s.powered := rfl
@[simp] theorem State.setTime_time (s : State) (x : Time) : (s.setTime x).time = x := rfl
@[simp] theorem State.setTime_meter (s : State) (x : Time) : (s.setTime x).meter = s.meter := rfl
@[simp] theorem State.setTime_gov (s : State) (x : Time) : (s.setTime x).gov = s.gov := rfl
@[simp] theorem State.setTime_tele (s : State) (x : Time) : (s.setTime x).tele = s.tele := rfl
@[simp] theorem State.setTime_table (s : State) (x : Time) : (s.setTime x).table = s.table := rfl
@[simp] theorem State.setTime_adm (s : State) (x : Time) : (s.setTime x).adm = s.adm := rfl
@[simp] theorem State.setTime_circ (s : State) (x : Time) : (s.setTime x).circ = s.circ := rfl
@[simp] theorem State.setTime_saw (s : State) (x : Time) : (s.setTime x).saw = s.saw := rfl
@[simp] theorem State.setTime_gate (s : State) (x : Time) : (s.setTime x).gate = s.gate := rfl
@[simp] theorem State.setTime_mc (s : State) (x : Time) : (s.setTime x).mc = s.mc := rfl
@[simp] theorem State.setTime_loader (s : State) (x : Time) : (s.setTime x).loader = s.loader := rfl
@[simp] theorem State.setTime_cfg (s : State) (x : Time) : (s.setTime x).cfg = s.cfg := rfl
@[simp] theorem State.setTime_panel (s : State) (x : Time) : (s.setTime x).panel = s.panel := rfl
@[simp] theorem State.setTime_handed (s : State) (x : Time) : (s.setTime x).handed = s.handed := rfl
@[simp] theorem State.setTime_setTime (s : State) (x y : Time) : (s.setTime x).setTime y = s.setTime y := rfl

@[simp] theorem State.setMeter_pending (s : State) (x : Meter) : (s.setMeter x).pending = s.pending := rfl
@[simp] theorem State.setMeter_powered (s : State) (x : Meter) : (s.setMeter x).powered = s.powered := rfl
@[simp] theorem State.setMeter_time (s : State) (x : Meter) : (s.setMeter x).time = s.time := rfl
@[simp] theorem State.setMeter_meter (s : State) (x : Meter) : (s.setMeter x).meter = x := rfl
@[simp] theorem State.setMeter_gov (s : State) (x : Meter) : (s.setMeter x).gov = s.gov := rfl
@[simp] theorem State.setMeter_tele (s : State) (x : Meter) : (s.setMeter x).tele = s.tele := rfl
@[simp] theorem State.setMeter_table (s : State) (x : Meter) : (s.setMeter x).table = s.table := rfl
@[simp] theorem State.setMeter_adm (s : State) (x : Meter) : (s.setMeter x).adm = s.adm := rfl
@[simp] theorem State.setMeter_circ (s : State) (x : Meter) : (s.setMeter x).circ = s.circ := rfl
@[simp] theorem State.setMeter_saw (s : State) (x : Meter) : (s.setMeter x).saw = s.saw := rfl
@[simp] theorem State.setMeter_gate (s : State) (x : Meter) : (s.setMeter x).gate = s.gate := rfl
@[simp] theorem State.setMeter_mc (s : State) (x : Meter) : (s.setMeter x).mc = s.mc := rfl
@[simp] theorem State.setMeter_loader (s : State) (x : Meter) : (s.setMeter x).loader = s.loader := rfl
@[simp] theorem State.setMeter_cfg (s : State) (x : Meter) : (s.setMeter x).cfg = s.cfg := rfl
@[simp] theorem State.setMeter_panel (s : State) (x : Meter) : (s.setMeter x).panel = s.panel := rfl
@[simp] theorem State.setMeter_handed (s : State) (x : Meter) : (s.setMeter x).handed = s.handed := rfl
@[simp] theorem State.setMeter_setMeter (s : State) (x y : Meter) : (s.setMeter x).setMeter y = s.setMeter y := rfl

@[simp] theorem State.setGov_pending (s : State) (x : Governor) : (s.setGov x).pending = s.pending := rfl
@[simp] theorem State.setGov_powered (s : State) (x : Governor) : (s.setGov x).powered = s.powered := rfl
@[simp] theorem State.setGov_time (s : State) (x : Governor) : (s.setGov x).time = s.time := rfl
@[simp] theorem State.setGov_meter (s : State) (x : Governor) : (s.setGov x).meter = s.meter := rfl
@[simp] theorem State.setGov_gov (s : State) (x : Governor) : (s.setGov x).gov = x := rfl
@[simp] theorem State.setGov_tele (s : State) (x : Governor) : (s.setGov x).tele = s.tele := rfl
@[simp] theorem State.setGov_table (s : State) (x : Governor) : (s.setGov x).table = s.table := rfl
@[simp] theorem State.setGov_adm (s : State) (x : Governor) : (s.setGov x).adm = s.adm := rfl
@[simp] theorem State.setGov_circ (s : State) (x : Governor) : (s.setGov x).circ = s.circ := rfl
@[simp] theorem State.setGov_saw (s : State) (x : Governor) : (s.setGov x).saw = s.saw := rfl
@[simp] theorem State.setGov_gate (s : State) (x : Governor) : (s.setGov x).gate = s.gate := rfl
@[simp] theorem State.setGov_mc (s : State) (x : Governor) : (s.setGov x).mc = s.mc := rfl
@[simp] theorem State.setGov_loader (s : State) (x : Governor) : (s.setGov x).loader = s.loader := rfl
@[simp] theorem State.setGov_cfg (s : State) (x : Governor) : (s.setGov x).cfg = s.cfg := rfl
@[simp] theorem State.setGov_panel (s : State) (x : Governor) : (s.setGov x).panel = s.panel := rfl
@[simp] theorem State.setGov_handed (s : State) (x : Governor) : (s.setGov x).handed = s.handed := rfl
@[simp] theorem State.setGov_setGov (s : State) (x y : Governor) : (s.setGov x).setGov y = s.setGov y := rfl

@[simp] theorem State.setTele_pending (s : State) (x : Telegram) : (s.setTele x).pending = s.pending := rfl
@[simp] theorem State.setTele_powered (s : State) (x : Telegram) : (s.setTele x).powered = s.powered := rfl
@[simp] theorem State.setTele_time (s : State) (x : Telegram) : (s.setTele x).time = s.time := rfl
@[simp] theorem State.setTele_meter (s : State) (x : Telegram) : (s.setTele x).meter = s.meter := rfl
@[simp] theorem State.setTele_gov (s : State) (x : Telegram) : (s.setTele x).gov = s.gov := rfl
@[simp] theorem State.setTele_tele (s : State) (x : Telegram) : (s.setTele x).tele = x := rfl
@[simp] theorem State.setTele_table (s : State) (x : Telegram) : (s.setTele x).table = s.table := rfl
@[simp] theorem State.setTele_adm (s : State) (x : Telegram) : (s.setTele x).adm = s.adm := rfl
@[simp] theorem State.setTele_circ (s : State) (x : Telegram) : (s.setTele x).circ = s.circ := rfl
@[simp] theorem State.setTele_saw (s : State) (x : Telegram) : (s.setTele x).saw = s.saw := rfl
@[simp] theorem State.setTele_gate (s : State) (x : Telegram) : (s.setTele x).gate = s.gate := rfl
@[simp] theorem State.setTele_mc (s : State) (x : Telegram) : (s.setTele x).mc = s.mc := rfl
@[simp] theorem State.setTele_loader (s : State) (x : Telegram) : (s.setTele x).loader = s.loader := rfl
@[simp] theorem State.setTele_cfg (s : State) (x : Telegram) : (s.setTele x).cfg = s.cfg := rfl
@[simp] theorem State.setTele_panel (s : State) (x : Telegram) : (s.setTele x).panel = s.panel := rfl
@[simp] theorem State.setTele_handed (s : State) (x : Telegram) : (s.setTele x).handed = s.handed := rfl
@[simp] theorem State.setTele_setTele (s : State) (x y : Telegram) : (s.setTele x).setTele y = s.setTele y := rfl

@[simp] theorem State.setTable_pending (s : State) (x : Table) : (s.setTable x).pending = s.pending := rfl
@[simp] theorem State.setTable_powered (s : State) (x : Table) : (s.setTable x).powered = s.powered := rfl
@[simp] theorem State.setTable_time (s : State) (x : Table) : (s.setTable x).time = s.time := rfl
@[simp] theorem State.setTable_meter (s : State) (x : Table) : (s.setTable x).meter = s.meter := rfl
@[simp] theorem State.setTable_gov (s : State) (x : Table) : (s.setTable x).gov = s.gov := rfl
@[simp] theorem State.setTable_tele (s : State) (x : Table) : (s.setTable x).tele = s.tele := rfl
@[simp] theorem State.setTable_table (s : State) (x : Table) : (s.setTable x).table = x := rfl
@[simp] theorem State.setTable_adm (s : State) (x : Table) : (s.setTable x).adm = s.adm := rfl
@[simp] theorem State.setTable_circ (s : State) (x : Table) : (s.setTable x).circ = s.circ := rfl
@[simp] theorem State.setTable_saw (s : State) (x : Table) : (s.setTable x).saw = s.saw := rfl
@[simp] theorem State.setTable_gate (s : State) (x : Table) : (s.setTable x).gate = s.gate := rfl
@[simp] theorem State.setTable_mc (s : State) (x : Table) : (s.setTable x).mc = s.mc := rfl
@[simp] theorem State.setTable_loader (s : State) (x : Table) : (s.setTable x).loader = s.loader := rfl
@[simp] theorem State.setTable_cfg (s : State) (x : Table) : (s.setTable x).cfg = s.cfg := rfl
@[simp] theorem State.setTable_panel (s : State) (x : Table) : (s.setTable x).panel = s.panel := rfl
@[simp] theorem State.setTable_handed (s : State) (x : Table) : (s.setTable x).handed = s.handed := rfl
@[simp] theorem State.setTable_setTable (s : State) (x y : Table) : (s.setTable x).setTable y = s.setTable y := rfl

@[simp] theorem State.setAdm_pending (s : State) (x : Admission) : (s.setAdm x).pending = s.pending := rfl
@[simp] theorem State.setAdm_powered (s : State) (x : Admission) : (s.setAdm x).powered = s.powered := rfl
@[simp] theorem State.setAdm_time (s : State) (x : Admission) : (s.setAdm x).time = s.time := rfl
@[simp] theorem State.setAdm_meter (s : State) (x : Admission) : (s.setAdm x).meter = s.meter := rfl
@[simp] theorem State.setAdm_gov (s : State) (x : Admission) : (s.setAdm x).gov = s.gov := rfl
@[simp] theorem State.setAdm_tele (s : State) (x : Admission) : (s.setAdm x).tele = s.tele := rfl
@[simp] theorem State.setAdm_table (s : State) (x : Admission) : (s.setAdm x).table = s.table := rfl
@[simp] theorem State.setAdm_adm (s : State) (x : Admission) : (s.setAdm x).adm = x := rfl
@[simp] theorem State.setAdm_circ (s : State) (x : Admission) : (s.setAdm x).circ = s.circ := rfl
@[simp] theorem State.setAdm_saw (s : State) (x : Admission) : (s.setAdm x).saw = s.saw := rfl
@[simp] theorem State.setAdm_gate (s : State) (x : Admission) : (s.setAdm x).gate = s.gate := rfl
@[simp] theorem State.setAdm_mc (s : State) (x : Admission) : (s.setAdm x).mc = s.mc := rfl
@[simp] theorem State.setAdm_loader (s : State) (x : Admission) : (s.setAdm x).loader = s.loader := rfl
@[simp] theorem State.setAdm_cfg (s : State) (x : Admission) : (s.setAdm x).cfg = s.cfg := rfl
@[simp] theorem State.setAdm_panel (s : State) (x : Admission) : (s.setAdm x).panel = s.panel := rfl
@[simp] theorem State.setAdm_handed (s : State) (x : Admission) : (s.setAdm x).handed = s.handed := rfl
@[simp] theorem State.setAdm_setAdm (s : State) (x y : Admission) : (s.setAdm x).setAdm y = s.setAdm y := rfl

@[simp] theorem State.setCirc_pending (s : State) (x : Circuits) : (s.setCirc x).pending = s.pending := rfl
@[simp] theorem State.setCirc_powered (s : State) (x : Circuits) : (s.setCirc x).powered = s.powered := rfl
@[simp] theorem State.setCirc_time (s : State) (x : Circuits) : (s.setCirc x).time = s.time := rfl
@[simp] theorem State.setCirc_meter (s : State) (x : Circuits) : (s.setCirc x).meter = s.meter := rfl
@[simp] theorem State.setCirc_gov (s : State) (x : Circuits) : (s.setCirc x).gov = s.gov := rfl
@[simp] theorem State.setCirc_tele (s : State) (x : Circuits) : (s.setCirc x).tele = s.tele := rfl
@[simp] theorem State.setCirc_table (s : State) (x : Circuits) : (s.setCirc x).table = s.table := rfl
@[simp] theorem State.setCirc_adm (s : State) (x : Circuits) : (s.setCirc x).adm = s.adm := rfl
@[simp] theorem State.setCirc_circ (s : State) (x : Circuits) : (s.setCirc x).circ = x := rfl
@[simp] theorem State.setCirc_saw (s : State) (x : Circuits) : (s.setCirc x).saw = s.saw := rfl
@[simp] theorem State.setCirc_gate (s : State) (x : Circuits) : (s.setCirc x).gate = s.gate := rfl
@[simp] theorem State.setCirc_mc (s : State) (x : Circuits) : (s.setCirc x).mc = s.mc := rfl
@[simp] theorem State.setCirc_loader (s : State) (x : Circuits) : (s.setCirc x).loader = s.loader := rfl
@[simp] theorem State.setCirc_cfg (s : State) (x : Circuits) : (s.setCirc x).cfg = s.cfg := rfl
@[simp] theorem State.setCirc_panel (s : State) (x : Circuits) : (s.setCirc x).panel = s.panel := rfl
@[simp] theorem State.setCirc_handed (s : State) (x : Circuits) : (s.setCirc x).handed = s.handed := rfl
@[simp] theorem State.setCirc_setCirc (s : State) (x y : Circuits) : (s.setCirc x).setCirc y = s.setCirc y := rfl

@[simp] theorem State.setSaw_pending (s : State) (x : Saw) : (s.setSaw x).pending = s.pending := rfl
@[simp] theorem State.setSaw_powered (s : State) (x : Saw) : (s.setSaw x).powered = s.powered := rfl
@[simp] theorem State.setSaw_time (s : State) (x : Saw) : (s.setSaw x).time = s.time := rfl
@[simp] theorem State.setSaw_meter (s : State) (x : Saw) : (s.setSaw x).meter = s.meter := rfl
@[simp] theorem State.setSaw_gov (s : State) (x : Saw) : (s.setSaw x).gov = s.gov := rfl
@[simp] theorem State.setSaw_tele (s : State) (x : Saw) : (s.setSaw x).tele = s.tele := rfl
@[simp] theorem State.setSaw_table (s : State) (x : Saw) : (s.setSaw x).table = s.table := rfl
@[simp] theorem State.setSaw_adm (s : State) (x : Saw) : (s.setSaw x).adm = s.adm := rfl
@[simp] theorem State.setSaw_circ (s : State) (x : Saw) : (s.setSaw x).circ = s.circ := rfl
@[simp] theorem State.setSaw_saw (s : State) (x : Saw) : (s.setSaw x).saw = x := rfl
@[simp] theorem State.setSaw_gate (s : State) (x : Saw) : (s.setSaw x).gate = s.gate := rfl
@[simp] theorem State.setSaw_mc (s : State) (x : Saw) : (s.setSaw x).mc = s.mc := rfl
@[simp] theorem State.setSaw_loader (s : State) (x : Saw) : (s.setSaw x).loader = s.loader := rfl
@[simp] theorem State.setSaw_cfg (s : State) (x : Saw) : (s.setSaw x).cfg = s.cfg := rfl
@[simp] theorem State.setSaw_panel (s : State) (x : Saw) : (s.setSaw x).panel = s.panel := rfl
@[simp] theorem State.setSaw_handed (s : State) (x : Saw) : (s.setSaw x).handed = s.handed := rfl
@[simp] theorem State.setSaw_setSaw (s : State) (x y : Saw) : (s.setSaw x).setSaw y = s.setSaw y := rfl

@[simp] theorem State.setGate_pending (s : State) (x : Gate) : (s.setGate x).pending = s.pending := rfl
@[simp] theorem State.setGate_powered (s : State) (x : Gate) : (s.setGate x).powered = s.powered := rfl
@[simp] theorem State.setGate_time (s : State) (x : Gate) : (s.setGate x).time = s.time := rfl
@[simp] theorem State.setGate_meter (s : State) (x : Gate) : (s.setGate x).meter = s.meter := rfl
@[simp] theorem State.setGate_gov (s : State) (x : Gate) : (s.setGate x).gov = s.gov := rfl
@[simp] theorem State.setGate_tele (s : State) (x : Gate) : (s.setGate x).tele = s.tele := rfl
@[simp] theorem State.setGate_table (s : State) (x : Gate) : (s.setGate x).table = s.table := rfl
@[simp] theorem State.setGate_adm (s : State) (x : Gate) : (s.setGate x).adm = s.adm := rfl
@[simp] theorem State.setGate_circ (s : State) (x : Gate) : (s.setGate x).circ = s.circ := rfl
@[simp] theorem State.setGate_saw (s : State) (x : Gate) : (s.setGate x).saw = s.saw := rfl
@[simp] theorem State.setGate_gate (s : State) (x : Gate) : (s.setGate x).gate = x := rfl
@[simp] theorem State.setGate_mc (s : State) (x : Gate) : (s.setGate x).mc = s.mc := rfl
@[simp] theorem State.setGate_loader (s : State) (x : Gate) : (s.setGate x).loader = s.loader := rfl
@[simp] theorem State.setGate_cfg (s : State) (x : Gate) : (s.setGate x).cfg = s.cfg := rfl
@[simp] theorem State.setGate_panel (s : State) (x : Gate) : (s.setGate x).panel = s.panel := rfl
@[simp] theorem State.setGate_handed (s : State) (x : Gate) : (s.setGate x).handed = s.handed := rfl
@[simp] theorem State.setGate_setGate (s : State) (x y : Gate) : (s.setGate x).setGate y = s.setGate y := rfl

@[simp] theorem State.setMc_pending (s : State) (x : ModeCtl) : (s.setMc x).pending = s.pending := rfl
@[simp] theorem State.setMc_powered (s : State) (x : ModeCtl) : (s.setMc x).powered = s.powered := rfl
@[simp] theorem State.setMc_time (s : State) (x : ModeCtl) : (s.setMc x).time = s.time := rfl
@[simp] theorem State.setMc_meter (s : State) (x : ModeCtl) : (s.setMc x).meter = s.meter := rfl
@[simp] theorem State.setMc_gov (s : State) (x : ModeCtl) : (s.setMc x).gov = s.gov := rfl
@[simp] theorem State.setMc_tele (s : State) (x : ModeCtl) : (s.setMc x).tele = s.tele := rfl
@[simp] theorem State.setMc_table (s : State) (x : ModeCtl) : (s.setMc x).table = s.table := rfl
@[simp] theorem State.setMc_adm (s : State) (x : ModeCtl) : (s.setMc x).adm = s.adm := rfl
@[simp] theorem State.setMc_circ (s : State) (x : ModeCtl) : (s.setMc x).circ = s.circ := rfl
@[simp] theorem State.setMc_saw (s : State) (x : ModeCtl) : (s.setMc x).saw = s.saw := rfl
@[simp] theorem State.setMc_gate (s : State) (x : ModeCtl) : (s.setMc x).gate = s.gate := rfl
@[simp] theorem State.setMc_mc (s : State) (x : ModeCtl) : (s.setMc x).mc = x := rfl
@[simp] theorem State.setMc_loader (s : State) (x : ModeCtl) : (s.setMc x).loader = s.loader := rfl
@[simp] theorem State.setMc_cfg (s : State) (x : ModeCtl) : (s.setMc x).cfg = s.cfg := rfl
@[simp] theorem State.setMc_panel (s : State) (x : ModeCtl) : (s.setMc x).panel = s.panel := rfl
@[simp] theorem State.setMc_handed (s : State) (x : ModeCtl) : (s.setMc x).handed = s.handed := rfl
@[simp] theorem State.setMc_setMc (s : State) (x y : ModeCtl) : (s.setMc x).setMc y = s.setMc y := rfl

@[simp] theorem State.setLoader_pending (s : State) (x : Loader) : (s.setLoader x).pending = s.pending := rfl
@[simp] theorem State.setLoader_powered (s : State) (x : Loader) : (s.setLoader x).powered = s.powered := rfl
@[simp] theorem State.setLoader_time (s : State) (x : Loader) : (s.setLoader x).time = s.time := rfl
@[simp] theorem State.setLoader_meter (s : State) (x : Loader) : (s.setLoader x).meter = s.meter := rfl
@[simp] theorem State.setLoader_gov (s : State) (x : Loader) : (s.setLoader x).gov = s.gov := rfl
@[simp] theorem State.setLoader_tele (s : State) (x : Loader) : (s.setLoader x).tele = s.tele := rfl
@[simp] theorem State.setLoader_table (s : State) (x : Loader) : (s.setLoader x).table = s.table := rfl
@[simp] theorem State.setLoader_adm (s : State) (x : Loader) : (s.setLoader x).adm = s.adm := rfl
@[simp] theorem State.setLoader_circ (s : State) (x : Loader) : (s.setLoader x).circ = s.circ := rfl
@[simp] theorem State.setLoader_saw (s : State) (x : Loader) : (s.setLoader x).saw = s.saw := rfl
@[simp] theorem State.setLoader_gate (s : State) (x : Loader) : (s.setLoader x).gate = s.gate := rfl
@[simp] theorem State.setLoader_mc (s : State) (x : Loader) : (s.setLoader x).mc = s.mc := rfl
@[simp] theorem State.setLoader_loader (s : State) (x : Loader) : (s.setLoader x).loader = x := rfl
@[simp] theorem State.setLoader_cfg (s : State) (x : Loader) : (s.setLoader x).cfg = s.cfg := rfl
@[simp] theorem State.setLoader_panel (s : State) (x : Loader) : (s.setLoader x).panel = s.panel := rfl
@[simp] theorem State.setLoader_handed (s : State) (x : Loader) : (s.setLoader x).handed = s.handed := rfl
@[simp] theorem State.setLoader_setLoader (s : State) (x y : Loader) : (s.setLoader x).setLoader y = s.setLoader y := rfl

@[simp] theorem State.setCfg_pending (s : State) (x : Config) : (s.setCfg x).pending = s.pending := rfl
@[simp] theorem State.setCfg_powered (s : State) (x : Config) : (s.setCfg x).powered = s.powered := rfl
@[simp] theorem State.setCfg_time (s : State) (x : Config) : (s.setCfg x).time = s.time := rfl
@[simp] theorem State.setCfg_meter (s : State) (x : Config) : (s.setCfg x).meter = s.meter := rfl
@[simp] theorem State.setCfg_gov (s : State) (x : Config) : (s.setCfg x).gov = s.gov := rfl
@[simp] theorem State.setCfg_tele (s : State) (x : Config) : (s.setCfg x).tele = s.tele := rfl
@[simp] theorem State.setCfg_table (s : State) (x : Config) : (s.setCfg x).table = s.table := rfl
@[simp] theorem State.setCfg_adm (s : State) (x : Config) : (s.setCfg x).adm = s.adm := rfl
@[simp] theorem State.setCfg_circ (s : State) (x : Config) : (s.setCfg x).circ = s.circ := rfl
@[simp] theorem State.setCfg_saw (s : State) (x : Config) : (s.setCfg x).saw = s.saw := rfl
@[simp] theorem State.setCfg_gate (s : State) (x : Config) : (s.setCfg x).gate = s.gate := rfl
@[simp] theorem State.setCfg_mc (s : State) (x : Config) : (s.setCfg x).mc = s.mc := rfl
@[simp] theorem State.setCfg_loader (s : State) (x : Config) : (s.setCfg x).loader = s.loader := rfl
@[simp] theorem State.setCfg_cfg (s : State) (x : Config) : (s.setCfg x).cfg = x := rfl
@[simp] theorem State.setCfg_panel (s : State) (x : Config) : (s.setCfg x).panel = s.panel := rfl
@[simp] theorem State.setCfg_handed (s : State) (x : Config) : (s.setCfg x).handed = s.handed := rfl
@[simp] theorem State.setCfg_setCfg (s : State) (x y : Config) : (s.setCfg x).setCfg y = s.setCfg y := rfl

@[simp] theorem State.setPanel_pending (s : State) (x : Panel) : (s.setPanel x).pending = s.pending := rfl
@[simp] theorem State.setPanel_powered (s : State) (x : Panel) : (s.setPanel x).powered = s.powered := rfl
@[simp] theorem State.setPanel_time (s : State) (x : Panel) : (s.setPanel x).time = s.time := rfl
@[simp] theorem State.setPanel_meter (s : State) (x : Panel) : (s.setPanel x).meter = s.meter := rfl
@[simp] theorem State.setPanel_gov (s : State) (x : Panel) : (s.setPanel x).gov = s.gov := rfl
@[simp] theorem State.setPanel_tele (s : State) (x : Panel) : (s.setPanel x).tele = s.tele := rfl
@[simp] theorem State.setPanel_table (s : State) (x : Panel) : (s.setPanel x).table = s.table := rfl
@[simp] theorem State.setPanel_adm (s : State) (x : Panel) : (s.setPanel x).adm = s.adm := rfl
@[simp] theorem State.setPanel_circ (s : State) (x : Panel) : (s.setPanel x).circ = s.circ := rfl
@[simp] theorem State.setPanel_saw (s : State) (x : Panel) : (s.setPanel x).saw = s.saw := rfl
@[simp] theorem State.setPanel_gate (s : State) (x : Panel) : (s.setPanel x).gate = s.gate := rfl
@[simp] theorem State.setPanel_mc (s : State) (x : Panel) : (s.setPanel x).mc = s.mc := rfl
@[simp] theorem State.setPanel_loader (s : State) (x : Panel) : (s.setPanel x).loader = s.loader := rfl
@[simp] theorem State.setPanel_cfg (s : State) (x : Panel) : (s.setPanel x).cfg = s.cfg := rfl
@[simp] theorem State.setPanel_panel (s : State) (x : Panel) : (s.setPanel x).panel = x := rfl
@[simp] theorem State.setPanel_handed (s : State) (x : Panel) : (s.setPanel x).handed = s.handed := rfl
@[simp] theorem State.setPanel_setPanel (s : State) (x y : Panel) : (s.setPanel x).setPanel y = s.setPanel y := rfl

@[simp] theorem State.setHanded_pending (s : State) (x : Handed) : (s.setHanded x).pending = s.pending := rfl
@[simp] theorem State.setHanded_powered (s : State) (x : Handed) : (s.setHanded x).powered = s.powered := rfl
@[simp] theorem State.setHanded_time (s : State) (x : Handed) : (s.setHanded x).time = s.time := rfl
@[simp] theorem State.setHanded_meter (s : State) (x : Handed) : (s.setHanded x).meter = s.meter := rfl
@[simp] theorem State.setHanded_gov (s : State) (x : Handed) : (s.setHanded x).gov = s.gov := rfl
@[simp] theorem State.setHanded_tele (s : State) (x : Handed) : (s.setHanded x).tele = s.tele := rfl
@[simp] theorem State.setHanded_table (s : State) (x : Handed) : (s.setHanded x).table = s.table := rfl
@[simp] theorem State.setHanded_adm (s : State) (x : Handed) : (s.setHanded x).adm = s.adm := rfl
@[simp] theorem State.setHanded_circ (s : State) (x : Handed) : (s.setHanded x).circ = s.circ := rfl
@[simp] theorem State.setHanded_saw (s : State) (x : Handed) : (s.setHanded x).saw = s.saw := rfl
@[simp] theorem State.setHanded_gate (s : State) (x : Handed) : (s.setHanded x).gate = s.gate := rfl
@[simp] theorem State.setHanded_mc (s : State) (x : Handed) : (s.setHanded x).mc = s.mc := rfl
@[simp] theorem State.setHanded_loader (s : State) (x : Handed) : (s.setHanded x).loader = s.loader := rfl
@[simp] theorem State.setHanded_cfg (s : State) (x : Handed) : (s.setHanded x).cfg = s.cfg := rfl
@[simp] theorem State.setHanded_panel (s : State) (x : Handed) : (s.setHanded x).panel = s.panel := rfl
@[simp] theorem State.setHanded_handed (s : State) (x : Handed) : (s.setHanded x).handed = x := rfl
@[simp] theorem State.setHanded_setHanded (s : State) (x y : Handed) : (s.setHanded x).setHanded y = s.setHanded y := rfl

/-- Two states are equal where all their parts are. -/
@[ext] theorem State.ext_fields {s t : State}
    (pending : s.pending = t.pending) (powered : s.powered = t.powered) (time : s.time = t.time)
    (meter : s.meter = t.meter) (gov : s.gov = t.gov) (tele : s.tele = t.tele)
    (table : s.table = t.table) (adm : s.adm = t.adm) (circ : s.circ = t.circ)
    (saw : s.saw = t.saw) (gate : s.gate = t.gate) (mc : s.mc = t.mc)
    (loader : s.loader = t.loader) (cfg : s.cfg = t.cfg) (panel : s.panel = t.panel)
    (handed : s.handed = t.handed) :
    s = t := by
  cases s; cases t; simp_all

end Sys2Proof.Machine
end

