-- ==== Sys2Proof/Laws/Frames.lean ====
section
/-! SUPPORT. What each operation on the state leaves alone: one lemma per operation, which lists the parts of the state
that it never touches. -/

namespace Sys2Proof.Machine


/-! ### Time and handing -/

@[simp] theorem elapse_frame (dt : Nat) (s : State) :
    (elapse dt s).pending = s.pending ∧ (elapse dt s).powered = s.powered ∧ (elapse dt s).gov = s.gov ∧
    (elapse dt s).table = s.table ∧ (elapse dt s).adm = s.adm ∧ (elapse dt s).circ = s.circ ∧
    (elapse dt s).saw = s.saw ∧ (elapse dt s).gate = s.gate ∧ (elapse dt s).mc = s.mc ∧
    (elapse dt s).loader = s.loader ∧ (elapse dt s).cfg = s.cfg ∧ (elapse dt s).panel = s.panel ∧
    (elapse dt s).handed = s.handed := by
  simp only [elapse]
  (repeat' split) <;> simp

@[simp] theorem elapseTo_frame (instant : Nat) (s : State) :
    (elapseTo instant s).pending = s.pending ∧ (elapseTo instant s).powered = s.powered ∧
    (elapseTo instant s).gov = s.gov ∧ (elapseTo instant s).table = s.table ∧ (elapseTo instant s).adm = s.adm ∧
    (elapseTo instant s).circ = s.circ ∧ (elapseTo instant s).saw = s.saw ∧ (elapseTo instant s).gate = s.gate ∧
    (elapseTo instant s).mc = s.mc ∧ (elapseTo instant s).loader = s.loader ∧ (elapseTo instant s).cfg = s.cfg ∧
    (elapseTo instant s).panel = s.panel ∧ (elapseTo instant s).handed = s.handed := by
  unfold elapseTo
  simp

@[simp] theorem handRequest_frame (r : Request) (s : State) :
    (handRequest r s).pending = s.pending ∧ (handRequest r s).powered = s.powered ∧ (handRequest r s).time = s.time ∧
    (handRequest r s).meter = s.meter ∧ (handRequest r s).gov = s.gov ∧ (handRequest r s).tele = s.tele ∧
    (handRequest r s).table = s.table ∧ (handRequest r s).adm = s.adm ∧ (handRequest r s).circ = s.circ ∧
    (handRequest r s).saw = s.saw ∧ (handRequest r s).gate = s.gate ∧ (handRequest r s).mc = s.mc ∧
    (handRequest r s).loader = s.loader ∧ (handRequest r s).cfg = s.cfg ∧ (handRequest r s).panel = s.panel := by
  unfold handRequest
  simp

@[simp] theorem handAnswer_frame (a : Answer) (s : State) :
    (handAnswer a s).pending = s.pending ∧ (handAnswer a s).powered = s.powered ∧ (handAnswer a s).time = s.time ∧
    (handAnswer a s).meter = s.meter ∧ (handAnswer a s).gov = s.gov ∧ (handAnswer a s).tele = s.tele ∧
    (handAnswer a s).table = s.table ∧ (handAnswer a s).adm = s.adm ∧ (handAnswer a s).circ = s.circ ∧
    (handAnswer a s).saw = s.saw ∧ (handAnswer a s).gate = s.gate ∧ (handAnswer a s).mc = s.mc ∧
    (handAnswer a s).loader = s.loader ∧ (handAnswer a s).cfg = s.cfg ∧ (handAnswer a s).panel = s.panel := by
  unfold handAnswer
  simp


/-! ### The Line Meter and the Ballast Governor -/

@[simp] theorem publish_frame (r : LineRecord) (s : State) :
    (publish r s).pending = s.pending ∧ (publish r s).powered = s.powered ∧ (publish r s).time = s.time ∧
    (publish r s).meter = s.meter ∧ (publish r s).gov = s.gov ∧ (publish r s).tele = s.tele ∧
    (publish r s).table = s.table ∧ (publish r s).adm = s.adm ∧ (publish r s).circ = s.circ ∧
    (publish r s).saw = s.saw ∧ (publish r s).gate = s.gate ∧ (publish r s).mc = s.mc ∧
    (publish r s).loader = s.loader ∧ (publish r s).cfg = s.cfg ∧ (publish r s).panel = s.panel := by
  unfold publish
  simp

@[simp] theorem cycleEnd_frame (period : Option Nat) (s : State) :
    (cycleEnd period s).pending = s.pending ∧ (cycleEnd period s).powered = s.powered ∧
    (cycleEnd period s).time = s.time ∧ (cycleEnd period s).gov = s.gov ∧ (cycleEnd period s).tele = s.tele ∧
    (cycleEnd period s).table = s.table ∧ (cycleEnd period s).adm = s.adm ∧ (cycleEnd period s).circ = s.circ ∧
    (cycleEnd period s).saw = s.saw ∧ (cycleEnd period s).gate = s.gate ∧ (cycleEnd period s).mc = s.mc ∧
    (cycleEnd period s).loader = s.loader ∧ (cycleEnd period s).cfg = s.cfg ∧ (cycleEnd period s).panel = s.panel := by
  unfold cycleEnd
  simp

@[simp] theorem dropRecords_frame (s : State) :
    (dropRecords s).pending = s.pending ∧ (dropRecords s).powered = s.powered ∧ (dropRecords s).time = s.time ∧
    (dropRecords s).meter = s.meter ∧ (dropRecords s).gov = s.gov ∧ (dropRecords s).tele = s.tele ∧
    (dropRecords s).table = s.table ∧ (dropRecords s).adm = s.adm ∧ (dropRecords s).circ = s.circ ∧
    (dropRecords s).saw = s.saw ∧ (dropRecords s).gate = s.gate ∧ (dropRecords s).mc = s.mc ∧
    (dropRecords s).loader = s.loader ∧ (dropRecords s).cfg = s.cfg ∧ (dropRecords s).panel = s.panel := by
  unfold dropRecords
  simp

@[simp] theorem startMeter_frame (f : Nat) (s : State) :
    (startMeter f s).pending = s.pending ∧ (startMeter f s).powered = s.powered ∧ (startMeter f s).time = s.time ∧
    (startMeter f s).gov = s.gov ∧ (startMeter f s).tele = s.tele ∧ (startMeter f s).table = s.table ∧
    (startMeter f s).adm = s.adm ∧ (startMeter f s).circ = s.circ ∧ (startMeter f s).saw = s.saw ∧
    (startMeter f s).gate = s.gate ∧ (startMeter f s).mc = s.mc ∧ (startMeter f s).loader = s.loader ∧
    (startMeter f s).cfg = s.cfg ∧ (startMeter f s).panel = s.panel := by
  unfold startMeter
  simp

@[simp] theorem reportCrossing_frame (s : State) :
    (reportCrossing s).pending = s.pending ∧ (reportCrossing s).powered = s.powered ∧
    (reportCrossing s).time = s.time ∧ (reportCrossing s).gov = s.gov ∧ (reportCrossing s).tele = s.tele ∧
    (reportCrossing s).table = s.table ∧ (reportCrossing s).adm = s.adm ∧ (reportCrossing s).circ = s.circ ∧
    (reportCrossing s).saw = s.saw ∧ (reportCrossing s).gate = s.gate ∧ (reportCrossing s).mc = s.mc ∧
    (reportCrossing s).loader = s.loader ∧ (reportCrossing s).cfg = s.cfg ∧ (reportCrossing s).panel = s.panel := by
  unfold reportCrossing
  (repeat' split) <;> simp

@[simp] theorem addSample_frame (v : Int) (s : State) :
    (addSample v s).pending = s.pending ∧ (addSample v s).powered = s.powered ∧ (addSample v s).time = s.time ∧
    (addSample v s).gov = s.gov ∧ (addSample v s).tele = s.tele ∧ (addSample v s).table = s.table ∧
    (addSample v s).adm = s.adm ∧ (addSample v s).circ = s.circ ∧ (addSample v s).saw = s.saw ∧
    (addSample v s).gate = s.gate ∧ (addSample v s).mc = s.mc ∧ (addSample v s).loader = s.loader ∧
    (addSample v s).cfg = s.cfg ∧ (addSample v s).panel = s.panel ∧ (addSample v s).handed = s.handed := by
  unfold addSample
  (repeat' split) <;> simp

@[simp] theorem toSampleInstant_frame (s : State) :
    (toSampleInstant s).pending = s.pending ∧ (toSampleInstant s).powered = s.powered ∧
    (toSampleInstant s).gov = s.gov ∧ (toSampleInstant s).table = s.table ∧ (toSampleInstant s).adm = s.adm ∧
    (toSampleInstant s).circ = s.circ ∧ (toSampleInstant s).saw = s.saw ∧ (toSampleInstant s).gate = s.gate ∧
    (toSampleInstant s).mc = s.mc ∧ (toSampleInstant s).loader = s.loader ∧ (toSampleInstant s).cfg = s.cfg ∧
    (toSampleInstant s).panel = s.panel ∧ (toSampleInstant s).handed = s.handed := by
  unfold toSampleInstant
  simp

@[simp] theorem missingCrossing_frame (s : State) :
    (missingCrossing s).pending = s.pending ∧ (missingCrossing s).powered = s.powered ∧
    (missingCrossing s).gov = s.gov ∧ (missingCrossing s).table = s.table ∧ (missingCrossing s).adm = s.adm ∧
    (missingCrossing s).circ = s.circ ∧ (missingCrossing s).saw = s.saw ∧ (missingCrossing s).gate = s.gate ∧
    (missingCrossing s).mc = s.mc ∧ (missingCrossing s).loader = s.loader ∧ (missingCrossing s).cfg = s.cfg ∧
    (missingCrossing s).panel = s.panel := by
  unfold missingCrossing
  (repeat' split) <;> simp

@[simp] theorem setLock_frame (runs : LockRuns) (s : State) :
    (setLock runs s).pending = s.pending ∧ (setLock runs s).powered = s.powered ∧ (setLock runs s).time = s.time ∧
    (setLock runs s).gov = s.gov ∧ (setLock runs s).tele = s.tele ∧ (setLock runs s).table = s.table ∧
    (setLock runs s).adm = s.adm ∧ (setLock runs s).circ = s.circ ∧ (setLock runs s).saw = s.saw ∧
    (setLock runs s).gate = s.gate ∧ (setLock runs s).mc = s.mc ∧ (setLock runs s).loader = s.loader ∧
    (setLock runs s).cfg = s.cfg ∧ (setLock runs s).panel = s.panel ∧ (setLock runs s).handed = s.handed := by
  unfold setLock
  simp

@[simp] theorem takeGovernorRecord_frame (s : State) :
    (takeGovernorRecord s).pending = s.pending ∧ (takeGovernorRecord s).powered = s.powered ∧
    (takeGovernorRecord s).time = s.time ∧ (takeGovernorRecord s).meter = s.meter ∧
    (takeGovernorRecord s).tele = s.tele ∧ (takeGovernorRecord s).table = s.table ∧
    (takeGovernorRecord s).adm = s.adm ∧ (takeGovernorRecord s).circ = s.circ ∧ (takeGovernorRecord s).saw = s.saw ∧
    (takeGovernorRecord s).gate = s.gate ∧ (takeGovernorRecord s).mc = s.mc ∧
    (takeGovernorRecord s).loader = s.loader ∧ (takeGovernorRecord s).cfg = s.cfg ∧
    (takeGovernorRecord s).panel = s.panel := by
  unfold takeGovernorRecord
  (repeat' split) <;> simp


/-! ### The Telegram Controller -/

@[simp] theorem joinCopy_frame (c : Copy) (s : State) :
    (joinCopy c s).pending = s.pending ∧ (joinCopy c s).powered = s.powered ∧ (joinCopy c s).time = s.time ∧
    (joinCopy c s).meter = s.meter ∧ (joinCopy c s).gov = s.gov ∧ (joinCopy c s).table = s.table ∧
    (joinCopy c s).adm = s.adm ∧ (joinCopy c s).circ = s.circ ∧ (joinCopy c s).saw = s.saw ∧
    (joinCopy c s).gate = s.gate ∧ (joinCopy c s).mc = s.mc ∧ (joinCopy c s).loader = s.loader ∧
    (joinCopy c s).cfg = s.cfg ∧ (joinCopy c s).panel = s.panel ∧ (joinCopy c s).handed = s.handed := by
  unfold joinCopy
  simp

@[simp] theorem dropCopy_frame (c : Copy) (s : State) :
    (dropCopy c s).pending = s.pending ∧ (dropCopy c s).powered = s.powered ∧ (dropCopy c s).time = s.time ∧
    (dropCopy c s).meter = s.meter ∧ (dropCopy c s).gov = s.gov ∧ (dropCopy c s).table = s.table ∧
    (dropCopy c s).adm = s.adm ∧ (dropCopy c s).circ = s.circ ∧ (dropCopy c s).saw = s.saw ∧
    (dropCopy c s).gate = s.gate ∧ (dropCopy c s).mc = s.mc ∧ (dropCopy c s).loader = s.loader ∧
    (dropCopy c s).cfg = s.cfg ∧ (dropCopy c s).panel = s.panel ∧ (dropCopy c s).handed = s.handed := by
  unfold dropCopy
  simp

@[simp] theorem settleTx_frame (s : State) :
    (settleTx s).pending = s.pending ∧ (settleTx s).powered = s.powered ∧ (settleTx s).time = s.time ∧
    (settleTx s).meter = s.meter ∧ (settleTx s).gov = s.gov ∧ (settleTx s).table = s.table ∧
    (settleTx s).adm = s.adm ∧ (settleTx s).circ = s.circ ∧ (settleTx s).saw = s.saw ∧ (settleTx s).gate = s.gate ∧
    (settleTx s).mc = s.mc ∧ (settleTx s).loader = s.loader ∧ (settleTx s).cfg = s.cfg ∧
    (settleTx s).panel = s.panel ∧ (settleTx s).handed = s.handed := by
  unfold settleTx
  simp

@[simp] theorem endClaimSchedule_frame (tag : Circ) (s : State) :
    (endClaimSchedule tag s).pending = s.pending ∧ (endClaimSchedule tag s).powered = s.powered ∧
    (endClaimSchedule tag s).time = s.time ∧ (endClaimSchedule tag s).meter = s.meter ∧
    (endClaimSchedule tag s).gov = s.gov ∧ (endClaimSchedule tag s).table = s.table ∧
    (endClaimSchedule tag s).adm = s.adm ∧ (endClaimSchedule tag s).circ = s.circ ∧
    (endClaimSchedule tag s).saw = s.saw ∧ (endClaimSchedule tag s).gate = s.gate ∧
    (endClaimSchedule tag s).mc = s.mc ∧ (endClaimSchedule tag s).loader = s.loader ∧
    (endClaimSchedule tag s).cfg = s.cfg ∧ (endClaimSchedule tag s).panel = s.panel ∧
    (endClaimSchedule tag s).handed = s.handed := by
  unfold endClaimSchedule
  simp

@[simp] theorem endReleaseSchedule_frame (tag : Circ) (s : State) :
    (endReleaseSchedule tag s).pending = s.pending ∧ (endReleaseSchedule tag s).powered = s.powered ∧
    (endReleaseSchedule tag s).time = s.time ∧ (endReleaseSchedule tag s).meter = s.meter ∧
    (endReleaseSchedule tag s).gov = s.gov ∧ (endReleaseSchedule tag s).table = s.table ∧
    (endReleaseSchedule tag s).adm = s.adm ∧ (endReleaseSchedule tag s).circ = s.circ ∧
    (endReleaseSchedule tag s).saw = s.saw ∧ (endReleaseSchedule tag s).gate = s.gate ∧
    (endReleaseSchedule tag s).mc = s.mc ∧ (endReleaseSchedule tag s).loader = s.loader ∧
    (endReleaseSchedule tag s).cfg = s.cfg ∧ (endReleaseSchedule tag s).panel = s.panel ∧
    (endReleaseSchedule tag s).handed = s.handed := by
  unfold endReleaseSchedule
  simp

@[simp] theorem startClaimSchedule_frame (tag : Circ) (s : State) :
    (startClaimSchedule tag s).pending = s.pending ∧ (startClaimSchedule tag s).powered = s.powered ∧
    (startClaimSchedule tag s).time = s.time ∧ (startClaimSchedule tag s).meter = s.meter ∧
    (startClaimSchedule tag s).gov = s.gov ∧ (startClaimSchedule tag s).table = s.table ∧
    (startClaimSchedule tag s).adm = s.adm ∧ (startClaimSchedule tag s).circ = s.circ ∧
    (startClaimSchedule tag s).saw = s.saw ∧ (startClaimSchedule tag s).gate = s.gate ∧
    (startClaimSchedule tag s).mc = s.mc ∧ (startClaimSchedule tag s).loader = s.loader ∧
    (startClaimSchedule tag s).cfg = s.cfg ∧ (startClaimSchedule tag s).panel = s.panel ∧
    (startClaimSchedule tag s).handed = s.handed := by
  unfold startClaimSchedule
  simp

@[simp] theorem startReleaseSchedule_frame (tag : Circ) (s : State) :
    (startReleaseSchedule tag s).pending = s.pending ∧ (startReleaseSchedule tag s).powered = s.powered ∧
    (startReleaseSchedule tag s).time = s.time ∧ (startReleaseSchedule tag s).meter = s.meter ∧
    (startReleaseSchedule tag s).gov = s.gov ∧ (startReleaseSchedule tag s).table = s.table ∧
    (startReleaseSchedule tag s).adm = s.adm ∧ (startReleaseSchedule tag s).circ = s.circ ∧
    (startReleaseSchedule tag s).saw = s.saw ∧ (startReleaseSchedule tag s).gate = s.gate ∧
    (startReleaseSchedule tag s).mc = s.mc ∧ (startReleaseSchedule tag s).loader = s.loader ∧
    (startReleaseSchedule tag s).cfg = s.cfg ∧ (startReleaseSchedule tag s).panel = s.panel ∧
    (startReleaseSchedule tag s).handed = s.handed := by
  unfold startReleaseSchedule
  (repeat' split) <;> simp

@[simp] theorem composeStatus_frame (s : State) :
    (composeStatus s).pending = s.pending ∧ (composeStatus s).powered = s.powered ∧ (composeStatus s).time = s.time ∧
    (composeStatus s).meter = s.meter ∧ (composeStatus s).table = s.table ∧ (composeStatus s).adm = s.adm ∧
    (composeStatus s).circ = s.circ ∧ (composeStatus s).saw = s.saw ∧ (composeStatus s).gate = s.gate ∧
    (composeStatus s).mc = s.mc ∧ (composeStatus s).loader = s.loader ∧ (composeStatus s).cfg = s.cfg ∧
    (composeStatus s).panel = s.panel := by
  unfold composeStatus
  (repeat' split) <;> simp

@[simp] theorem telegramRecoverEntry_frame (s : State) :
    (telegramRecoverEntry s).pending = s.pending ∧ (telegramRecoverEntry s).powered = s.powered ∧
    (telegramRecoverEntry s).time = s.time ∧ (telegramRecoverEntry s).meter = s.meter ∧
    (telegramRecoverEntry s).table = s.table ∧ (telegramRecoverEntry s).adm = s.adm ∧
    (telegramRecoverEntry s).circ = s.circ ∧ (telegramRecoverEntry s).saw = s.saw ∧
    (telegramRecoverEntry s).gate = s.gate ∧ (telegramRecoverEntry s).mc = s.mc ∧
    (telegramRecoverEntry s).loader = s.loader ∧ (telegramRecoverEntry s).cfg = s.cfg ∧
    (telegramRecoverEntry s).panel = s.panel := by
  unfold telegramRecoverEntry
  (repeat' split) <;> simp

@[simp] theorem send_frame (item : TxItem) (kind : Nat) (body : List Byte) (s : State) :
    (send item kind body s).pending = s.pending ∧ (send item kind body s).powered = s.powered ∧
    (send item kind body s).time = s.time ∧ (send item kind body s).meter = s.meter ∧
    (send item kind body s).gov = s.gov ∧ (send item kind body s).table = s.table ∧
    (send item kind body s).adm = s.adm ∧ (send item kind body s).circ = s.circ ∧
    (send item kind body s).saw = s.saw ∧ (send item kind body s).gate = s.gate ∧ (send item kind body s).mc = s.mc ∧
    (send item kind body s).loader = s.loader ∧ (send item kind body s).cfg = s.cfg ∧
    (send item kind body s).panel = s.panel ∧ (send item kind body s).handed = s.handed := by
  unfold send
  simp

@[simp] theorem startTransmission_frame (s : State) :
    (startTransmission s).pending = s.pending ∧ (startTransmission s).powered = s.powered ∧
    (startTransmission s).time = s.time ∧ (startTransmission s).meter = s.meter ∧ (startTransmission s).gov = s.gov ∧
    (startTransmission s).table = s.table ∧ (startTransmission s).adm = s.adm ∧ (startTransmission s).circ = s.circ ∧
    (startTransmission s).saw = s.saw ∧ (startTransmission s).gate = s.gate ∧ (startTransmission s).mc = s.mc ∧
    (startTransmission s).loader = s.loader ∧ (startTransmission s).cfg = s.cfg ∧
    (startTransmission s).panel = s.panel ∧ (startTransmission s).handed = s.handed := by
  unfold startTransmission
  (repeat' split) <;> simp

@[simp] theorem gapExpiry_frame (s : State) :
    (gapExpiry s).pending = s.pending ∧ (gapExpiry s).powered = s.powered ∧ (gapExpiry s).gov = s.gov ∧
    (gapExpiry s).table = s.table ∧ (gapExpiry s).adm = s.adm ∧ (gapExpiry s).circ = s.circ ∧
    (gapExpiry s).saw = s.saw ∧ (gapExpiry s).gate = s.gate ∧ (gapExpiry s).mc = s.mc ∧
    (gapExpiry s).loader = s.loader ∧ (gapExpiry s).cfg = s.cfg ∧ (gapExpiry s).panel = s.panel ∧
    (gapExpiry s).handed = s.handed := by
  unfold gapExpiry
  (repeat' split) <;> simp

@[simp] theorem transmissionComplete_frame (s : State) :
    (transmissionComplete s).pending = s.pending ∧ (transmissionComplete s).powered = s.powered ∧
    (transmissionComplete s).gov = s.gov ∧ (transmissionComplete s).table = s.table ∧
    (transmissionComplete s).adm = s.adm ∧ (transmissionComplete s).circ = s.circ ∧
    (transmissionComplete s).saw = s.saw ∧ (transmissionComplete s).gate = s.gate ∧
    (transmissionComplete s).mc = s.mc ∧ (transmissionComplete s).loader = s.loader ∧
    (transmissionComplete s).cfg = s.cfg ∧ (transmissionComplete s).panel = s.panel ∧
    (transmissionComplete s).handed = s.handed := by
  unfold transmissionComplete
  (repeat' split) <;> simp

@[simp] theorem receiveTelegram_frame (header body check : List Byte) (s : State) :
    (receiveTelegram header body check s).pending = s.pending ∧
    (receiveTelegram header body check s).powered = s.powered ∧ (receiveTelegram header body check s).time = s.time ∧
    (receiveTelegram header body check s).meter = s.meter ∧ (receiveTelegram header body check s).gov = s.gov ∧
    (receiveTelegram header body check s).table = s.table ∧ (receiveTelegram header body check s).adm = s.adm ∧
    (receiveTelegram header body check s).circ = s.circ ∧ (receiveTelegram header body check s).saw = s.saw ∧
    (receiveTelegram header body check s).gate = s.gate ∧ (receiveTelegram header body check s).mc = s.mc ∧
    (receiveTelegram header body check s).loader = s.loader ∧ (receiveTelegram header body check s).cfg = s.cfg ∧
    (receiveTelegram header body check s).panel = s.panel := by
  simp only [receiveTelegram]
  (repeat' split) <;> simp

@[simp] theorem setRx_frame (rx : RxState) (s : State) :
    (setRx rx s).pending = s.pending ∧ (setRx rx s).powered = s.powered ∧ (setRx rx s).time = s.time ∧
    (setRx rx s).meter = s.meter ∧ (setRx rx s).gov = s.gov ∧ (setRx rx s).table = s.table ∧
    (setRx rx s).adm = s.adm ∧ (setRx rx s).circ = s.circ ∧ (setRx rx s).saw = s.saw ∧ (setRx rx s).gate = s.gate ∧
    (setRx rx s).mc = s.mc ∧ (setRx rx s).loader = s.loader ∧ (setRx rx s).cfg = s.cfg ∧
    (setRx rx s).panel = s.panel ∧ (setRx rx s).handed = s.handed := by
  unfold setRx
  simp

@[simp] theorem receiveByte_frame (b : Byte) (s : State) :
    (receiveByte b s).pending = s.pending ∧ (receiveByte b s).powered = s.powered ∧ (receiveByte b s).time = s.time ∧
    (receiveByte b s).meter = s.meter ∧ (receiveByte b s).gov = s.gov ∧ (receiveByte b s).table = s.table ∧
    (receiveByte b s).adm = s.adm ∧ (receiveByte b s).circ = s.circ ∧ (receiveByte b s).saw = s.saw ∧
    (receiveByte b s).gate = s.gate ∧ (receiveByte b s).mc = s.mc ∧ (receiveByte b s).loader = s.loader ∧
    (receiveByte b s).cfg = s.cfg ∧ (receiveByte b s).panel = s.panel := by
  unfold receiveByte
  (repeat' split) <;> simp

@[simp] theorem receiveBytes_frame (bytes : List Byte) (s : State) :
    (receiveBytes bytes s).pending = s.pending ∧ (receiveBytes bytes s).powered = s.powered ∧
    (receiveBytes bytes s).time = s.time ∧ (receiveBytes bytes s).meter = s.meter ∧
    (receiveBytes bytes s).gov = s.gov ∧ (receiveBytes bytes s).table = s.table ∧
    (receiveBytes bytes s).adm = s.adm ∧ (receiveBytes bytes s).circ = s.circ ∧ (receiveBytes bytes s).saw = s.saw ∧
    (receiveBytes bytes s).gate = s.gate ∧ (receiveBytes bytes s).mc = s.mc ∧
    (receiveBytes bytes s).loader = s.loader ∧ (receiveBytes bytes s).cfg = s.cfg ∧
    (receiveBytes bytes s).panel = s.panel := by
  unfold receiveBytes
  split
  · rename_i h; clear h
    induction bytes generalizing s with
    | nil => simp
    | cons b bs ih => simp [ih (receiveByte b s)]
  · simp

@[simp] theorem cutShort_frame (s : State) :
    (cutShort s).pending = s.pending ∧ (cutShort s).powered = s.powered ∧ (cutShort s).time = s.time ∧
    (cutShort s).meter = s.meter ∧ (cutShort s).gov = s.gov ∧ (cutShort s).table = s.table ∧
    (cutShort s).adm = s.adm ∧ (cutShort s).circ = s.circ ∧ (cutShort s).saw = s.saw ∧ (cutShort s).gate = s.gate ∧
    (cutShort s).mc = s.mc ∧ (cutShort s).loader = s.loader ∧ (cutShort s).cfg = s.cfg ∧
    (cutShort s).panel = s.panel ∧ (cutShort s).handed = s.handed := by
  unfold cutShort
  (repeat' split) <;> simp

@[simp] theorem huntBits_frame (bits : List Bool) (s : State) :
    (huntBits bits s).pending = s.pending ∧ (huntBits bits s).powered = s.powered ∧ (huntBits bits s).time = s.time ∧
    (huntBits bits s).meter = s.meter ∧ (huntBits bits s).gov = s.gov ∧ (huntBits bits s).table = s.table ∧
    (huntBits bits s).adm = s.adm ∧ (huntBits bits s).circ = s.circ ∧ (huntBits bits s).saw = s.saw ∧
    (huntBits bits s).gate = s.gate ∧ (huntBits bits s).mc = s.mc ∧ (huntBits bits s).loader = s.loader ∧
    (huntBits bits s).cfg = s.cfg ∧ (huntBits bits s).panel = s.panel ∧ (huntBits bits s).handed = s.handed := by
  unfold huntBits
  (repeat' split) <;> simp

@[simp] theorem countDuplicate_frame (s : State) :
    (countDuplicate s).pending = s.pending ∧ (countDuplicate s).powered = s.powered ∧
    (countDuplicate s).time = s.time ∧ (countDuplicate s).meter = s.meter ∧ (countDuplicate s).gov = s.gov ∧
    (countDuplicate s).table = s.table ∧ (countDuplicate s).adm = s.adm ∧ (countDuplicate s).circ = s.circ ∧
    (countDuplicate s).saw = s.saw ∧ (countDuplicate s).gate = s.gate ∧ (countDuplicate s).mc = s.mc ∧
    (countDuplicate s).loader = s.loader ∧ (countDuplicate s).cfg = s.cfg ∧ (countDuplicate s).panel = s.panel ∧
    (countDuplicate s).handed = s.handed := by
  unfold countDuplicate
  simp

@[simp] theorem countRecall_frame (s : State) :
    (countRecall s).pending = s.pending ∧ (countRecall s).powered = s.powered ∧ (countRecall s).time = s.time ∧
    (countRecall s).meter = s.meter ∧ (countRecall s).gov = s.gov ∧ (countRecall s).table = s.table ∧
    (countRecall s).adm = s.adm ∧ (countRecall s).circ = s.circ ∧ (countRecall s).saw = s.saw ∧
    (countRecall s).gate = s.gate ∧ (countRecall s).mc = s.mc ∧ (countRecall s).loader = s.loader ∧
    (countRecall s).cfg = s.cfg ∧ (countRecall s).panel = s.panel ∧ (countRecall s).handed = s.handed := by
  unfold countRecall
  simp

@[simp] theorem countStatus_frame (s : State) :
    (countStatus s).pending = s.pending ∧ (countStatus s).powered = s.powered ∧ (countStatus s).time = s.time ∧
    (countStatus s).meter = s.meter ∧ (countStatus s).table = s.table ∧ (countStatus s).adm = s.adm ∧
    (countStatus s).circ = s.circ ∧ (countStatus s).saw = s.saw ∧ (countStatus s).gate = s.gate ∧
    (countStatus s).mc = s.mc ∧ (countStatus s).loader = s.loader ∧ (countStatus s).cfg = s.cfg ∧
    (countStatus s).panel = s.panel := by
  unfold countStatus
  (repeat' split) <;> simp

@[simp] theorem countClaimCopy_frame (tag : Circ) (s : State) :
    (countClaimCopy tag s).pending = s.pending ∧ (countClaimCopy tag s).powered = s.powered ∧
    (countClaimCopy tag s).time = s.time ∧ (countClaimCopy tag s).meter = s.meter ∧
    (countClaimCopy tag s).gov = s.gov ∧ (countClaimCopy tag s).table = s.table ∧
    (countClaimCopy tag s).adm = s.adm ∧ (countClaimCopy tag s).circ = s.circ ∧ (countClaimCopy tag s).saw = s.saw ∧
    (countClaimCopy tag s).gate = s.gate ∧ (countClaimCopy tag s).mc = s.mc ∧
    (countClaimCopy tag s).loader = s.loader ∧ (countClaimCopy tag s).cfg = s.cfg ∧
    (countClaimCopy tag s).panel = s.panel ∧ (countClaimCopy tag s).handed = s.handed := by
  unfold countClaimCopy
  (repeat' split) <;> simp

@[simp] theorem countReleaseCopy_frame (tag : Circ) (s : State) :
    (countReleaseCopy tag s).pending = s.pending ∧ (countReleaseCopy tag s).powered = s.powered ∧
    (countReleaseCopy tag s).time = s.time ∧ (countReleaseCopy tag s).meter = s.meter ∧
    (countReleaseCopy tag s).gov = s.gov ∧ (countReleaseCopy tag s).table = s.table ∧
    (countReleaseCopy tag s).adm = s.adm ∧ (countReleaseCopy tag s).circ = s.circ ∧
    (countReleaseCopy tag s).saw = s.saw ∧ (countReleaseCopy tag s).gate = s.gate ∧
    (countReleaseCopy tag s).mc = s.mc ∧ (countReleaseCopy tag s).loader = s.loader ∧
    (countReleaseCopy tag s).cfg = s.cfg ∧ (countReleaseCopy tag s).panel = s.panel ∧
    (countReleaseCopy tag s).handed = s.handed := by
  unfold countReleaseCopy
  (repeat' split) <;> simp

@[simp] theorem telegramTick_frame (s : State) :
    (telegramTick s).pending = s.pending ∧ (telegramTick s).powered = s.powered ∧ (telegramTick s).time = s.time ∧
    (telegramTick s).meter = s.meter ∧ (telegramTick s).table = s.table ∧ (telegramTick s).adm = s.adm ∧
    (telegramTick s).circ = s.circ ∧ (telegramTick s).saw = s.saw ∧ (telegramTick s).gate = s.gate ∧
    (telegramTick s).mc = s.mc ∧ (telegramTick s).loader = s.loader ∧ (telegramTick s).cfg = s.cfg ∧
    (telegramTick s).panel = s.panel := by
  simp only [telegramTick, Circ.all, List.foldl]
  split <;> simp


/-! ### The Neighbour Table -/

@[simp] theorem hearStatus_frame (h : HeardStatus) (s : State) :
    (hearStatus h s).pending = s.pending ∧ (hearStatus h s).powered = s.powered ∧ (hearStatus h s).time = s.time ∧
    (hearStatus h s).meter = s.meter ∧ (hearStatus h s).gov = s.gov ∧ (hearStatus h s).tele = s.tele ∧
    (hearStatus h s).adm = s.adm ∧ (hearStatus h s).circ = s.circ ∧ (hearStatus h s).saw = s.saw ∧
    (hearStatus h s).gate = s.gate ∧ (hearStatus h s).mc = s.mc ∧ (hearStatus h s).loader = s.loader ∧
    (hearStatus h s).cfg = s.cfg ∧ (hearStatus h s).panel = s.panel := by
  unfold hearStatus
  (repeat' split) <;> simp

@[simp] theorem neighbourTick_frame (s : State) :
    (neighbourTick s).pending = s.pending ∧ (neighbourTick s).powered = s.powered ∧ (neighbourTick s).time = s.time ∧
    (neighbourTick s).meter = s.meter ∧ (neighbourTick s).gov = s.gov ∧ (neighbourTick s).tele = s.tele ∧
    (neighbourTick s).adm = s.adm ∧ (neighbourTick s).circ = s.circ ∧ (neighbourTick s).saw = s.saw ∧
    (neighbourTick s).gate = s.gate ∧ (neighbourTick s).mc = s.mc ∧ (neighbourTick s).loader = s.loader ∧
    (neighbourTick s).cfg = s.cfg ∧ (neighbourTick s).panel = s.panel := by
  unfold neighbourTick
  simp


/-! ### The Admission Controller -/

@[simp] theorem setOwn_frame (own : List OwnClaim) (s : State) :
    (setOwn own s).pending = s.pending ∧ (setOwn own s).powered = s.powered ∧ (setOwn own s).time = s.time ∧
    (setOwn own s).meter = s.meter ∧ (setOwn own s).gov = s.gov ∧ (setOwn own s).tele = s.tele ∧
    (setOwn own s).table = s.table ∧ (setOwn own s).circ = s.circ ∧ (setOwn own s).saw = s.saw ∧
    (setOwn own s).gate = s.gate ∧ (setOwn own s).mc = s.mc ∧ (setOwn own s).loader = s.loader ∧
    (setOwn own s).cfg = s.cfg ∧ (setOwn own s).panel = s.panel ∧ (setOwn own s).handed = s.handed := by
  unfold setOwn
  simp

@[simp] theorem setHeard_frame (heard : List HeardEntry) (s : State) :
    (setHeard heard s).pending = s.pending ∧ (setHeard heard s).powered = s.powered ∧
    (setHeard heard s).time = s.time ∧ (setHeard heard s).meter = s.meter ∧ (setHeard heard s).gov = s.gov ∧
    (setHeard heard s).tele = s.tele ∧ (setHeard heard s).table = s.table ∧ (setHeard heard s).circ = s.circ ∧
    (setHeard heard s).saw = s.saw ∧ (setHeard heard s).gate = s.gate ∧ (setHeard heard s).mc = s.mc ∧
    (setHeard heard s).loader = s.loader ∧ (setHeard heard s).cfg = s.cfg ∧ (setHeard heard s).panel = s.panel ∧
    (setHeard heard s).handed = s.handed := by
  unfold setHeard
  simp

@[simp] theorem changeOwn_frame (k : Circ) (f : OwnClaim → OwnClaim) (s : State) :
    (changeOwn k f s).pending = s.pending ∧ (changeOwn k f s).powered = s.powered ∧ (changeOwn k f s).time = s.time ∧
    (changeOwn k f s).meter = s.meter ∧ (changeOwn k f s).gov = s.gov ∧ (changeOwn k f s).tele = s.tele ∧
    (changeOwn k f s).table = s.table ∧ (changeOwn k f s).circ = s.circ ∧ (changeOwn k f s).saw = s.saw ∧
    (changeOwn k f s).gate = s.gate ∧ (changeOwn k f s).mc = s.mc ∧ (changeOwn k f s).loader = s.loader ∧
    (changeOwn k f s).cfg = s.cfg ∧ (changeOwn k f s).panel = s.panel ∧ (changeOwn k f s).handed = s.handed := by
  unfold changeOwn
  simp

@[simp] theorem removeOwn_frame (k : Circ) (s : State) :
    (removeOwn k s).pending = s.pending ∧ (removeOwn k s).powered = s.powered ∧ (removeOwn k s).time = s.time ∧
    (removeOwn k s).meter = s.meter ∧ (removeOwn k s).gov = s.gov ∧ (removeOwn k s).tele = s.tele ∧
    (removeOwn k s).table = s.table ∧ (removeOwn k s).circ = s.circ ∧ (removeOwn k s).saw = s.saw ∧
    (removeOwn k s).gate = s.gate ∧ (removeOwn k s).mc = s.mc ∧ (removeOwn k s).loader = s.loader ∧
    (removeOwn k s).cfg = s.cfg ∧ (removeOwn k s).panel = s.panel ∧ (removeOwn k s).handed = s.handed := by
  unfold removeOwn
  simp

@[simp] theorem deferClaim_frame (c : OwnClaim) (s : State) :
    (deferClaim c s).pending = s.pending ∧ (deferClaim c s).powered = s.powered ∧ (deferClaim c s).time = s.time ∧
    (deferClaim c s).meter = s.meter ∧ (deferClaim c s).gov = s.gov ∧ (deferClaim c s).table = s.table ∧
    (deferClaim c s).circ = s.circ ∧ (deferClaim c s).saw = s.saw ∧ (deferClaim c s).gate = s.gate ∧
    (deferClaim c s).mc = s.mc ∧ (deferClaim c s).loader = s.loader ∧ (deferClaim c s).cfg = s.cfg ∧
    (deferClaim c s).panel = s.panel := by
  simp only [deferClaim]
  (repeat' split) <;> simp

@[simp] theorem admitClaim_frame (c : OwnClaim) (s : State) :
    (admitClaim c s).pending = s.pending ∧ (admitClaim c s).powered = s.powered ∧ (admitClaim c s).time = s.time ∧
    (admitClaim c s).meter = s.meter ∧ (admitClaim c s).gov = s.gov ∧ (admitClaim c s).tele = s.tele ∧
    (admitClaim c s).table = s.table ∧ (admitClaim c s).circ = s.circ ∧ (admitClaim c s).saw = s.saw ∧
    (admitClaim c s).gate = s.gate ∧ (admitClaim c s).mc = s.mc ∧ (admitClaim c s).loader = s.loader ∧
    (admitClaim c s).cfg = s.cfg ∧ (admitClaim c s).panel = s.panel := by
  unfold admitClaim
  simp

@[simp] theorem settleOut_frame (k : Circ) (s : State) :
    (settleOut k s).pending = s.pending ∧ (settleOut k s).powered = s.powered ∧ (settleOut k s).time = s.time ∧
    (settleOut k s).meter = s.meter ∧ (settleOut k s).gov = s.gov ∧ (settleOut k s).table = s.table ∧
    (settleOut k s).circ = s.circ ∧ (settleOut k s).saw = s.saw ∧ (settleOut k s).gate = s.gate ∧
    (settleOut k s).mc = s.mc ∧ (settleOut k s).loader = s.loader ∧ (settleOut k s).cfg = s.cfg ∧
    (settleOut k s).panel = s.panel ∧ (settleOut k s).handed = s.handed := by
  unfold settleOut
  simp

@[simp] theorem settleOutAll_frame (l : List OwnClaim) (s : State) :
    (settleOutAll l s).pending = s.pending ∧ (settleOutAll l s).powered = s.powered ∧
    (settleOutAll l s).time = s.time ∧ (settleOutAll l s).meter = s.meter ∧ (settleOutAll l s).gov = s.gov ∧
    (settleOutAll l s).table = s.table ∧ (settleOutAll l s).circ = s.circ ∧ (settleOutAll l s).saw = s.saw ∧
    (settleOutAll l s).gate = s.gate ∧ (settleOutAll l s).mc = s.mc ∧ (settleOutAll l s).loader = s.loader ∧
    (settleOutAll l s).cfg = s.cfg ∧ (settleOutAll l s).panel = s.panel ∧ (settleOutAll l s).handed = s.handed := by
  induction l generalizing s with
  | nil => simp [settleOutAll]
  | cons c rest ih => simp [settleOutAll, ih]

@[simp] theorem applyVerdicts_frame (l : List (OwnClaim × Bool)) (s : State) :
    (applyVerdicts l s).pending = s.pending ∧ (applyVerdicts l s).powered = s.powered ∧
    (applyVerdicts l s).time = s.time ∧ (applyVerdicts l s).meter = s.meter ∧ (applyVerdicts l s).gov = s.gov ∧
    (applyVerdicts l s).table = s.table ∧ (applyVerdicts l s).circ = s.circ ∧ (applyVerdicts l s).saw = s.saw ∧
    (applyVerdicts l s).gate = s.gate ∧ (applyVerdicts l s).mc = s.mc ∧ (applyVerdicts l s).loader = s.loader ∧
    (applyVerdicts l s).cfg = s.cfg ∧ (applyVerdicts l s).panel = s.panel := by
  induction l generalizing s with
  | nil => simp [applyVerdicts]
  | cons x rest ih => obtain ⟨c, _ | _⟩ := x <;> simp [applyVerdicts, ih]

@[simp] theorem decideGroup_frame (s : State) :
    (decideGroup s).pending = s.pending ∧ (decideGroup s).powered = s.powered ∧ (decideGroup s).time = s.time ∧
    (decideGroup s).meter = s.meter ∧ (decideGroup s).gov = s.gov ∧ (decideGroup s).table = s.table ∧
    (decideGroup s).circ = s.circ ∧ (decideGroup s).saw = s.saw ∧ (decideGroup s).gate = s.gate ∧
    (decideGroup s).mc = s.mc ∧ (decideGroup s).loader = s.loader ∧ (decideGroup s).cfg = s.cfg ∧
    (decideGroup s).panel = s.panel := by
  unfold decideGroup
  split <;> simp

@[simp] theorem deferAll_frame (l : List OwnClaim) (s : State) :
    (deferAll l s).pending = s.pending ∧ (deferAll l s).powered = s.powered ∧ (deferAll l s).time = s.time ∧
    (deferAll l s).meter = s.meter ∧ (deferAll l s).gov = s.gov ∧ (deferAll l s).table = s.table ∧
    (deferAll l s).circ = s.circ ∧ (deferAll l s).saw = s.saw ∧ (deferAll l s).gate = s.gate ∧
    (deferAll l s).mc = s.mc ∧ (deferAll l s).loader = s.loader ∧ (deferAll l s).cfg = s.cfg ∧
    (deferAll l s).panel = s.panel := by
  induction l generalizing s with
  | nil => simp [deferAll]
  | cons c rest ih => simp [deferAll, ih]

@[simp] theorem sheddingRaised_frame (s : State) :
    (sheddingRaised s).pending = s.pending ∧ (sheddingRaised s).powered = s.powered ∧
    (sheddingRaised s).time = s.time ∧ (sheddingRaised s).meter = s.meter ∧ (sheddingRaised s).gov = s.gov ∧
    (sheddingRaised s).table = s.table ∧ (sheddingRaised s).circ = s.circ ∧ (sheddingRaised s).saw = s.saw ∧
    (sheddingRaised s).gate = s.gate ∧ (sheddingRaised s).mc = s.mc ∧ (sheddingRaised s).loader = s.loader ∧
    (sheddingRaised s).cfg = s.cfg ∧ (sheddingRaised s).panel = s.panel := by
  unfold sheddingRaised
  simp

@[simp] theorem enterHoldoff_frame (c : OwnClaim) (s : State) :
    (enterHoldoff c s).pending = s.pending ∧ (enterHoldoff c s).powered = s.powered ∧
    (enterHoldoff c s).time = s.time ∧ (enterHoldoff c s).meter = s.meter ∧ (enterHoldoff c s).gov = s.gov ∧
    (enterHoldoff c s).table = s.table ∧ (enterHoldoff c s).circ = s.circ ∧ (enterHoldoff c s).saw = s.saw ∧
    (enterHoldoff c s).gate = s.gate ∧ (enterHoldoff c s).mc = s.mc ∧ (enterHoldoff c s).loader = s.loader ∧
    (enterHoldoff c s).cfg = s.cfg ∧ (enterHoldoff c s).panel = s.panel ∧ (enterHoldoff c s).handed = s.handed := by
  unfold enterHoldoff
  simp

@[simp] theorem advanceQueue_frame (fuel : Nat) (s : State) :
    (advanceQueue fuel s).pending = s.pending ∧ (advanceQueue fuel s).powered = s.powered ∧
    (advanceQueue fuel s).time = s.time ∧ (advanceQueue fuel s).meter = s.meter ∧ (advanceQueue fuel s).gov = s.gov ∧
    (advanceQueue fuel s).table = s.table ∧ (advanceQueue fuel s).circ = s.circ ∧ (advanceQueue fuel s).saw = s.saw ∧
    (advanceQueue fuel s).gate = s.gate ∧ (advanceQueue fuel s).mc = s.mc ∧ (advanceQueue fuel s).loader = s.loader ∧
    (advanceQueue fuel s).cfg = s.cfg ∧ (advanceQueue fuel s).panel = s.panel ∧
    (advanceQueue fuel s).handed = s.handed := by
  induction fuel generalizing s with
  | zero => simp [advanceQueue]
  | succ n ih =>
    unfold advanceQueue
    (repeat' split) <;> simp [ih]

@[simp] theorem createClaim_frame (k : Circ) (amount cls : Nat) (restore : Bool) (s : State) :
    (createClaim k amount cls restore s).pending = s.pending ∧
    (createClaim k amount cls restore s).powered = s.powered ∧ (createClaim k amount cls restore s).time = s.time ∧
    (createClaim k amount cls restore s).meter = s.meter ∧ (createClaim k amount cls restore s).gov = s.gov ∧
    (createClaim k amount cls restore s).tele = s.tele ∧ (createClaim k amount cls restore s).table = s.table ∧
    (createClaim k amount cls restore s).circ = s.circ ∧ (createClaim k amount cls restore s).saw = s.saw ∧
    (createClaim k amount cls restore s).gate = s.gate ∧ (createClaim k amount cls restore s).mc = s.mc ∧
    (createClaim k amount cls restore s).loader = s.loader ∧ (createClaim k amount cls restore s).cfg = s.cfg ∧
    (createClaim k amount cls restore s).panel = s.panel := by
  unfold createClaim
  (repeat' split) <;> simp

@[simp] theorem withdrawClaim_frame (k : Circ) (s : State) :
    (withdrawClaim k s).pending = s.pending ∧ (withdrawClaim k s).powered = s.powered ∧
    (withdrawClaim k s).time = s.time ∧ (withdrawClaim k s).meter = s.meter ∧ (withdrawClaim k s).gov = s.gov ∧
    (withdrawClaim k s).table = s.table ∧ (withdrawClaim k s).circ = s.circ ∧ (withdrawClaim k s).saw = s.saw ∧
    (withdrawClaim k s).gate = s.gate ∧ (withdrawClaim k s).mc = s.mc ∧ (withdrawClaim k s).loader = s.loader ∧
    (withdrawClaim k s).cfg = s.cfg ∧ (withdrawClaim k s).panel = s.panel ∧ (withdrawClaim k s).handed = s.handed := by
  unfold withdrawClaim
  (repeat' split) <;> simp

@[simp] theorem removeHeard_frame (owner tag : Nat) (s : State) :
    (removeHeard owner tag s).pending = s.pending ∧ (removeHeard owner tag s).powered = s.powered ∧
    (removeHeard owner tag s).time = s.time ∧ (removeHeard owner tag s).meter = s.meter ∧
    (removeHeard owner tag s).gov = s.gov ∧ (removeHeard owner tag s).tele = s.tele ∧
    (removeHeard owner tag s).table = s.table ∧ (removeHeard owner tag s).circ = s.circ ∧
    (removeHeard owner tag s).saw = s.saw ∧ (removeHeard owner tag s).gate = s.gate ∧
    (removeHeard owner tag s).mc = s.mc ∧ (removeHeard owner tag s).loader = s.loader ∧
    (removeHeard owner tag s).cfg = s.cfg ∧ (removeHeard owner tag s).panel = s.panel ∧
    (removeHeard owner tag s).handed = s.handed := by
  unfold removeHeard
  simp

@[simp] theorem testAgainst_frame (h : HeardEntry) (s : State) :
    (testAgainst h s).pending = s.pending ∧ (testAgainst h s).powered = s.powered ∧ (testAgainst h s).time = s.time ∧
    (testAgainst h s).meter = s.meter ∧ (testAgainst h s).gov = s.gov ∧ (testAgainst h s).table = s.table ∧
    (testAgainst h s).circ = s.circ ∧ (testAgainst h s).saw = s.saw ∧ (testAgainst h s).gate = s.gate ∧
    (testAgainst h s).mc = s.mc ∧ (testAgainst h s).loader = s.loader ∧ (testAgainst h s).cfg = s.cfg ∧
    (testAgainst h s).panel = s.panel := by
  unfold testAgainst
  simp

@[simp] theorem hearClaim_frame (owner tag effective amount hold : Nat) (s : State) :
    (hearClaim owner tag effective amount hold s).pending = s.pending ∧
    (hearClaim owner tag effective amount hold s).powered = s.powered ∧
    (hearClaim owner tag effective amount hold s).time = s.time ∧
    (hearClaim owner tag effective amount hold s).meter = s.meter ∧
    (hearClaim owner tag effective amount hold s).gov = s.gov ∧
    (hearClaim owner tag effective amount hold s).table = s.table ∧
    (hearClaim owner tag effective amount hold s).circ = s.circ ∧
    (hearClaim owner tag effective amount hold s).saw = s.saw ∧
    (hearClaim owner tag effective amount hold s).gate = s.gate ∧
    (hearClaim owner tag effective amount hold s).mc = s.mc ∧
    (hearClaim owner tag effective amount hold s).loader = s.loader ∧
    (hearClaim owner tag effective amount hold s).cfg = s.cfg ∧
    (hearClaim owner tag effective amount hold s).panel = s.panel := by
  unfold hearClaim
  (repeat' split) <;> simp

@[simp] theorem hearRelease_frame (owner tag : Nat) (s : State) :
    (hearRelease owner tag s).pending = s.pending ∧ (hearRelease owner tag s).powered = s.powered ∧
    (hearRelease owner tag s).time = s.time ∧ (hearRelease owner tag s).meter = s.meter ∧
    (hearRelease owner tag s).gov = s.gov ∧ (hearRelease owner tag s).tele = s.tele ∧
    (hearRelease owner tag s).table = s.table ∧ (hearRelease owner tag s).circ = s.circ ∧
    (hearRelease owner tag s).saw = s.saw ∧ (hearRelease owner tag s).gate = s.gate ∧
    (hearRelease owner tag s).mc = s.mc ∧ (hearRelease owner tag s).loader = s.loader ∧
    (hearRelease owner tag s).cfg = s.cfg ∧ (hearRelease owner tag s).panel = s.panel ∧
    (hearRelease owner tag s).handed = s.handed := by
  unfold hearRelease
  (repeat' split) <;> simp

@[simp] theorem forgetStation_frame (station : Nat) (s : State) :
    (forgetStation station s).pending = s.pending ∧ (forgetStation station s).powered = s.powered ∧
    (forgetStation station s).time = s.time ∧ (forgetStation station s).meter = s.meter ∧
    (forgetStation station s).gov = s.gov ∧ (forgetStation station s).tele = s.tele ∧
    (forgetStation station s).table = s.table ∧ (forgetStation station s).circ = s.circ ∧
    (forgetStation station s).saw = s.saw ∧ (forgetStation station s).gate = s.gate ∧
    (forgetStation station s).mc = s.mc ∧ (forgetStation station s).loader = s.loader ∧
    (forgetStation station s).cfg = s.cfg ∧ (forgetStation station s).panel = s.panel ∧
    (forgetStation station s).handed = s.handed := by
  unfold forgetStation
  simp

@[simp] theorem countHolds_frame (s : State) :
    (countHolds s).pending = s.pending ∧ (countHolds s).powered = s.powered ∧ (countHolds s).time = s.time ∧
    (countHolds s).meter = s.meter ∧ (countHolds s).gov = s.gov ∧ (countHolds s).tele = s.tele ∧
    (countHolds s).table = s.table ∧ (countHolds s).circ = s.circ ∧ (countHolds s).saw = s.saw ∧
    (countHolds s).gate = s.gate ∧ (countHolds s).mc = s.mc ∧ (countHolds s).loader = s.loader ∧
    (countHolds s).cfg = s.cfg ∧ (countHolds s).panel = s.panel ∧ (countHolds s).handed = s.handed := by
  unfold countHolds
  simp

@[simp] theorem countSettles_frame (s : State) :
    (countSettles s).pending = s.pending ∧ (countSettles s).powered = s.powered ∧ (countSettles s).time = s.time ∧
    (countSettles s).meter = s.meter ∧ (countSettles s).gov = s.gov ∧ (countSettles s).table = s.table ∧
    (countSettles s).circ = s.circ ∧ (countSettles s).saw = s.saw ∧ (countSettles s).gate = s.gate ∧
    (countSettles s).mc = s.mc ∧ (countSettles s).loader = s.loader ∧ (countSettles s).cfg = s.cfg ∧
    (countSettles s).panel = s.panel ∧ (countSettles s).handed = s.handed := by
  unfold countSettles
  simp

@[simp] theorem countBackoffs_frame (s : State) :
    (countBackoffs s).pending = s.pending ∧ (countBackoffs s).powered = s.powered ∧ (countBackoffs s).time = s.time ∧
    (countBackoffs s).meter = s.meter ∧ (countBackoffs s).gov = s.gov ∧ (countBackoffs s).tele = s.tele ∧
    (countBackoffs s).table = s.table ∧ (countBackoffs s).circ = s.circ ∧ (countBackoffs s).saw = s.saw ∧
    (countBackoffs s).gate = s.gate ∧ (countBackoffs s).mc = s.mc ∧ (countBackoffs s).loader = s.loader ∧
    (countBackoffs s).cfg = s.cfg ∧ (countBackoffs s).panel = s.panel ∧ (countBackoffs s).handed = s.handed := by
  unfold countBackoffs
  simp

@[simp] theorem countHoldoffs_frame (s : State) :
    (countHoldoffs s).pending = s.pending ∧ (countHoldoffs s).powered = s.powered ∧ (countHoldoffs s).time = s.time ∧
    (countHoldoffs s).meter = s.meter ∧ (countHoldoffs s).gov = s.gov ∧ (countHoldoffs s).table = s.table ∧
    (countHoldoffs s).circ = s.circ ∧ (countHoldoffs s).saw = s.saw ∧ (countHoldoffs s).gate = s.gate ∧
    (countHoldoffs s).mc = s.mc ∧ (countHoldoffs s).loader = s.loader ∧ (countHoldoffs s).cfg = s.cfg ∧
    (countHoldoffs s).panel = s.panel := by
  unfold countHoldoffs
  simp

@[simp] theorem admissionTick_frame (s : State) :
    (admissionTick s).pending = s.pending ∧ (admissionTick s).powered = s.powered ∧ (admissionTick s).time = s.time ∧
    (admissionTick s).meter = s.meter ∧ (admissionTick s).gov = s.gov ∧ (admissionTick s).table = s.table ∧
    (admissionTick s).circ = s.circ ∧ (admissionTick s).saw = s.saw ∧ (admissionTick s).gate = s.gate ∧
    (admissionTick s).mc = s.mc ∧ (admissionTick s).loader = s.loader ∧ (admissionTick s).cfg = s.cfg ∧
    (admissionTick s).panel = s.panel := by
  unfold admissionTick
  simp

@[simp] theorem admissionGoDark_frame (s : State) :
    (admissionGoDark s).pending = s.pending ∧ (admissionGoDark s).powered = s.powered ∧
    (admissionGoDark s).time = s.time ∧ (admissionGoDark s).meter = s.meter ∧ (admissionGoDark s).gov = s.gov ∧
    (admissionGoDark s).table = s.table ∧ (admissionGoDark s).circ = s.circ ∧ (admissionGoDark s).saw = s.saw ∧
    (admissionGoDark s).gate = s.gate ∧ (admissionGoDark s).mc = s.mc ∧ (admissionGoDark s).loader = s.loader ∧
    (admissionGoDark s).cfg = s.cfg ∧ (admissionGoDark s).panel = s.panel ∧ (admissionGoDark s).handed = s.handed := by
  unfold admissionGoDark
  simp


/-! ### The circuit table and the Saw Drive -/

@[simp] theorem setCircuitState_frame (k : Circ) (st : CircuitState) (s : State) :
    (setCircuitState k st s).pending = s.pending ∧ (setCircuitState k st s).powered = s.powered ∧
    (setCircuitState k st s).time = s.time ∧ (setCircuitState k st s).meter = s.meter ∧
    (setCircuitState k st s).gov = s.gov ∧ (setCircuitState k st s).tele = s.tele ∧
    (setCircuitState k st s).table = s.table ∧ (setCircuitState k st s).adm = s.adm ∧
    (setCircuitState k st s).saw = s.saw ∧ (setCircuitState k st s).gate = s.gate ∧
    (setCircuitState k st s).mc = s.mc ∧ (setCircuitState k st s).loader = s.loader ∧
    (setCircuitState k st s).cfg = s.cfg ∧ (setCircuitState k st s).panel = s.panel ∧
    (setCircuitState k st s).handed = s.handed := by
  unfold setCircuitState
  simp

@[simp] theorem setMark_frame (k : Circ) (m : Bool) (s : State) :
    (setMark k m s).pending = s.pending ∧ (setMark k m s).powered = s.powered ∧ (setMark k m s).time = s.time ∧
    (setMark k m s).meter = s.meter ∧ (setMark k m s).gov = s.gov ∧ (setMark k m s).tele = s.tele ∧
    (setMark k m s).table = s.table ∧ (setMark k m s).adm = s.adm ∧ (setMark k m s).saw = s.saw ∧
    (setMark k m s).gate = s.gate ∧ (setMark k m s).mc = s.mc ∧ (setMark k m s).loader = s.loader ∧
    (setMark k m s).cfg = s.cfg ∧ (setMark k m s).panel = s.panel ∧ (setMark k m s).handed = s.handed := by
  unfold setMark
  simp

@[simp] theorem toWaiting_frame (k : Circ) (restore : Bool) (s : State) :
    (toWaiting k restore s).pending = s.pending ∧ (toWaiting k restore s).powered = s.powered ∧
    (toWaiting k restore s).time = s.time ∧ (toWaiting k restore s).meter = s.meter ∧
    (toWaiting k restore s).gov = s.gov ∧ (toWaiting k restore s).tele = s.tele ∧
    (toWaiting k restore s).table = s.table ∧ (toWaiting k restore s).adm = s.adm ∧
    (toWaiting k restore s).saw = s.saw ∧ (toWaiting k restore s).gate = s.gate ∧ (toWaiting k restore s).mc = s.mc ∧
    (toWaiting k restore s).loader = s.loader ∧ (toWaiting k restore s).cfg = s.cfg ∧
    (toWaiting k restore s).panel = s.panel := by
  unfold toWaiting
  simp

@[simp] theorem toOffWithdrawing_frame (k : Circ) (s : State) :
    (toOffWithdrawing k s).pending = s.pending ∧ (toOffWithdrawing k s).powered = s.powered ∧
    (toOffWithdrawing k s).time = s.time ∧ (toOffWithdrawing k s).meter = s.meter ∧
    (toOffWithdrawing k s).gov = s.gov ∧ (toOffWithdrawing k s).tele = s.tele ∧
    (toOffWithdrawing k s).table = s.table ∧ (toOffWithdrawing k s).adm = s.adm ∧
    (toOffWithdrawing k s).saw = s.saw ∧ (toOffWithdrawing k s).gate = s.gate ∧ (toOffWithdrawing k s).mc = s.mc ∧
    (toOffWithdrawing k s).loader = s.loader ∧ (toOffWithdrawing k s).cfg = s.cfg ∧
    (toOffWithdrawing k s).panel = s.panel := by
  unfold toOffWithdrawing
  simp

@[simp] theorem raiseCircuit4_frame (s : State) :
    (raiseCircuit4 s).pending = s.pending ∧ (raiseCircuit4 s).powered = s.powered ∧ (raiseCircuit4 s).time = s.time ∧
    (raiseCircuit4 s).meter = s.meter ∧ (raiseCircuit4 s).gov = s.gov ∧ (raiseCircuit4 s).tele = s.tele ∧
    (raiseCircuit4 s).table = s.table ∧ (raiseCircuit4 s).adm = s.adm ∧ (raiseCircuit4 s).saw = s.saw ∧
    (raiseCircuit4 s).gate = s.gate ∧ (raiseCircuit4 s).mc = s.mc ∧ (raiseCircuit4 s).loader = s.loader ∧
    (raiseCircuit4 s).cfg = s.cfg ∧ (raiseCircuit4 s).panel = s.panel := by
  unfold raiseCircuit4
  (repeat' split) <;> simp

@[simp] theorem withdrawCircuit4_frame (s : State) :
    (withdrawCircuit4 s).pending = s.pending ∧ (withdrawCircuit4 s).powered = s.powered ∧
    (withdrawCircuit4 s).time = s.time ∧ (withdrawCircuit4 s).meter = s.meter ∧ (withdrawCircuit4 s).gov = s.gov ∧
    (withdrawCircuit4 s).tele = s.tele ∧ (withdrawCircuit4 s).table = s.table ∧ (withdrawCircuit4 s).adm = s.adm ∧
    (withdrawCircuit4 s).saw = s.saw ∧ (withdrawCircuit4 s).gate = s.gate ∧ (withdrawCircuit4 s).mc = s.mc ∧
    (withdrawCircuit4 s).loader = s.loader ∧ (withdrawCircuit4 s).cfg = s.cfg ∧ (withdrawCircuit4 s).panel = s.panel := by
  unfold withdrawCircuit4
  (repeat' split) <;> simp

@[simp] theorem enterIdle_frame (s : State) :
    (enterIdle s).pending = s.pending ∧ (enterIdle s).powered = s.powered ∧ (enterIdle s).time = s.time ∧
    (enterIdle s).meter = s.meter ∧ (enterIdle s).gov = s.gov ∧ (enterIdle s).tele = s.tele ∧
    (enterIdle s).table = s.table ∧ (enterIdle s).adm = s.adm ∧ (enterIdle s).circ = s.circ ∧
    (enterIdle s).gate = s.gate ∧ (enterIdle s).mc = s.mc ∧ (enterIdle s).loader = s.loader ∧
    (enterIdle s).cfg = s.cfg ∧ (enterIdle s).panel = s.panel ∧ (enterIdle s).handed = s.handed := by
  unfold enterIdle
  simp

@[simp] theorem enterFault_frame (code : FaultCode) (s : State) :
    (enterFault code s).pending = s.pending ∧ (enterFault code s).powered = s.powered ∧
    (enterFault code s).time = s.time ∧ (enterFault code s).meter = s.meter ∧ (enterFault code s).gov = s.gov ∧
    (enterFault code s).tele = s.tele ∧ (enterFault code s).table = s.table ∧ (enterFault code s).adm = s.adm ∧
    (enterFault code s).circ = s.circ ∧ (enterFault code s).gate = s.gate ∧ (enterFault code s).mc = s.mc ∧
    (enterFault code s).loader = s.loader ∧ (enterFault code s).cfg = s.cfg ∧ (enterFault code s).panel = s.panel ∧
    (enterFault code s).handed = s.handed := by
  unfold enterFault
  simp

@[simp] theorem enterStopping_frame (s : State) :
    (enterStopping s).pending = s.pending ∧ (enterStopping s).powered = s.powered ∧ (enterStopping s).time = s.time ∧
    (enterStopping s).meter = s.meter ∧ (enterStopping s).gov = s.gov ∧ (enterStopping s).tele = s.tele ∧
    (enterStopping s).table = s.table ∧ (enterStopping s).adm = s.adm ∧ (enterStopping s).gate = s.gate ∧
    (enterStopping s).mc = s.mc ∧ (enterStopping s).loader = s.loader ∧ (enterStopping s).cfg = s.cfg ∧
    (enterStopping s).panel = s.panel := by
  simp only [enterStopping]
  (repeat' split) <;> simp

@[simp] theorem enterSpinup_frame (newPass : Bool) (s : State) :
    (enterSpinup newPass s).pending = s.pending ∧ (enterSpinup newPass s).powered = s.powered ∧
    (enterSpinup newPass s).time = s.time ∧ (enterSpinup newPass s).meter = s.meter ∧
    (enterSpinup newPass s).gov = s.gov ∧ (enterSpinup newPass s).tele = s.tele ∧
    (enterSpinup newPass s).table = s.table ∧ (enterSpinup newPass s).adm = s.adm ∧
    (enterSpinup newPass s).circ = s.circ ∧ (enterSpinup newPass s).gate = s.gate ∧
    (enterSpinup newPass s).mc = s.mc ∧ (enterSpinup newPass s).loader = s.loader ∧
    (enterSpinup newPass s).cfg = s.cfg ∧ (enterSpinup newPass s).panel = s.panel ∧
    (enterSpinup newPass s).handed = s.handed := by
  unfold enterSpinup
  (repeat' split) <;> simp

@[simp] theorem enterReady_frame (s : State) :
    (enterReady s).pending = s.pending ∧ (enterReady s).powered = s.powered ∧ (enterReady s).time = s.time ∧
    (enterReady s).meter = s.meter ∧ (enterReady s).gov = s.gov ∧ (enterReady s).tele = s.tele ∧
    (enterReady s).table = s.table ∧ (enterReady s).adm = s.adm ∧ (enterReady s).circ = s.circ ∧
    (enterReady s).gate = s.gate ∧ (enterReady s).mc = s.mc ∧ (enterReady s).loader = s.loader ∧
    (enterReady s).cfg = s.cfg ∧ (enterReady s).panel = s.panel ∧ (enterReady s).handed = s.handed := by
  unfold enterReady
  simp

@[simp] theorem enterReturning_frame (s : State) :
    (enterReturning s).pending = s.pending ∧ (enterReturning s).powered = s.powered ∧
    (enterReturning s).time = s.time ∧ (enterReturning s).meter = s.meter ∧ (enterReturning s).gov = s.gov ∧
    (enterReturning s).tele = s.tele ∧ (enterReturning s).table = s.table ∧ (enterReturning s).adm = s.adm ∧
    (enterReturning s).circ = s.circ ∧ (enterReturning s).gate = s.gate ∧ (enterReturning s).mc = s.mc ∧
    (enterReturning s).loader = s.loader ∧ (enterReturning s).cfg = s.cfg ∧ (enterReturning s).panel = s.panel ∧
    (enterReturning s).handed = s.handed := by
  simp only [enterReturning]
  (repeat' split) <;> simp

@[simp] theorem enterCutting_frame (s : State) :
    (enterCutting s).pending = s.pending ∧ (enterCutting s).powered = s.powered ∧ (enterCutting s).time = s.time ∧
    (enterCutting s).meter = s.meter ∧ (enterCutting s).gov = s.gov ∧ (enterCutting s).tele = s.tele ∧
    (enterCutting s).table = s.table ∧ (enterCutting s).adm = s.adm ∧ (enterCutting s).circ = s.circ ∧
    (enterCutting s).gate = s.gate ∧ (enterCutting s).mc = s.mc ∧ (enterCutting s).loader = s.loader ∧
    (enterCutting s).cfg = s.cfg ∧ (enterCutting s).panel = s.panel ∧ (enterCutting s).handed = s.handed := by
  simp only [enterCutting]
  (repeat' split) <;> simp

@[simp] theorem endBackoff_frame (s : State) :
    (endBackoff s).pending = s.pending ∧ (endBackoff s).powered = s.powered ∧ (endBackoff s).time = s.time ∧
    (endBackoff s).meter = s.meter ∧ (endBackoff s).gov = s.gov ∧ (endBackoff s).tele = s.tele ∧
    (endBackoff s).table = s.table ∧ (endBackoff s).adm = s.adm ∧ (endBackoff s).circ = s.circ ∧
    (endBackoff s).gate = s.gate ∧ (endBackoff s).mc = s.mc ∧ (endBackoff s).loader = s.loader ∧
    (endBackoff s).cfg = s.cfg ∧ (endBackoff s).panel = s.panel ∧ (endBackoff s).handed = s.handed := by
  unfold endBackoff
  (repeat' split) <;> simp

@[simp] theorem enterBackoff_frame (s : State) :
    (enterBackoff s).pending = s.pending ∧ (enterBackoff s).powered = s.powered ∧ (enterBackoff s).time = s.time ∧
    (enterBackoff s).meter = s.meter ∧ (enterBackoff s).gov = s.gov ∧ (enterBackoff s).tele = s.tele ∧
    (enterBackoff s).table = s.table ∧ (enterBackoff s).adm = s.adm ∧ (enterBackoff s).circ = s.circ ∧
    (enterBackoff s).gate = s.gate ∧ (enterBackoff s).mc = s.mc ∧ (enterBackoff s).loader = s.loader ∧
    (enterBackoff s).cfg = s.cfg ∧ (enterBackoff s).panel = s.panel ∧ (enterBackoff s).handed = s.handed := by
  simp only [enterBackoff]
  (repeat' split) <;> simp

@[simp] theorem clutchAsserted_frame (s : State) :
    (clutchAsserted s).pending = s.pending ∧ (clutchAsserted s).powered = s.powered ∧
    (clutchAsserted s).time = s.time ∧ (clutchAsserted s).meter = s.meter ∧ (clutchAsserted s).gov = s.gov ∧
    (clutchAsserted s).tele = s.tele ∧ (clutchAsserted s).table = s.table ∧ (clutchAsserted s).adm = s.adm ∧
    (clutchAsserted s).gate = s.gate ∧ (clutchAsserted s).mc = s.mc ∧ (clutchAsserted s).loader = s.loader ∧
    (clutchAsserted s).cfg = s.cfg ∧ (clutchAsserted s).panel = s.panel := by
  unfold clutchAsserted
  (repeat' split) <;> simp

@[simp] theorem clutchDropped_frame (s : State) :
    (clutchDropped s).pending = s.pending ∧ (clutchDropped s).powered = s.powered ∧ (clutchDropped s).time = s.time ∧
    (clutchDropped s).meter = s.meter ∧ (clutchDropped s).gov = s.gov ∧ (clutchDropped s).tele = s.tele ∧
    (clutchDropped s).table = s.table ∧ (clutchDropped s).adm = s.adm ∧ (clutchDropped s).gate = s.gate ∧
    (clutchDropped s).mc = s.mc ∧ (clutchDropped s).loader = s.loader ∧ (clutchDropped s).cfg = s.cfg ∧
    (clutchDropped s).panel = s.panel := by
  unfold clutchDropped
  (repeat' split) <;> simp

@[simp] theorem returnAsserted_frame (s : State) :
    (returnAsserted s).pending = s.pending ∧ (returnAsserted s).powered = s.powered ∧
    (returnAsserted s).time = s.time ∧ (returnAsserted s).meter = s.meter ∧ (returnAsserted s).gov = s.gov ∧
    (returnAsserted s).tele = s.tele ∧ (returnAsserted s).table = s.table ∧ (returnAsserted s).adm = s.adm ∧
    (returnAsserted s).circ = s.circ ∧ (returnAsserted s).gate = s.gate ∧ (returnAsserted s).mc = s.mc ∧
    (returnAsserted s).loader = s.loader ∧ (returnAsserted s).cfg = s.cfg ∧ (returnAsserted s).panel = s.panel ∧
    (returnAsserted s).handed = s.handed := by
  unfold returnAsserted
  (repeat' split) <;> simp

@[simp] theorem forwardAsserted_frame (s : State) :
    (forwardAsserted s).pending = s.pending ∧ (forwardAsserted s).powered = s.powered ∧
    (forwardAsserted s).time = s.time ∧ (forwardAsserted s).meter = s.meter ∧ (forwardAsserted s).gov = s.gov ∧
    (forwardAsserted s).tele = s.tele ∧ (forwardAsserted s).table = s.table ∧ (forwardAsserted s).adm = s.adm ∧
    (forwardAsserted s).circ = s.circ ∧ (forwardAsserted s).gate = s.gate ∧ (forwardAsserted s).mc = s.mc ∧
    (forwardAsserted s).loader = s.loader ∧ (forwardAsserted s).cfg = s.cfg ∧ (forwardAsserted s).panel = s.panel ∧
    (forwardAsserted s).handed = s.handed := by
  unfold forwardAsserted
  (repeat' split) <;> simp

@[simp] theorem stopPressed_frame (s : State) :
    (stopPressed s).pending = s.pending ∧ (stopPressed s).powered = s.powered ∧ (stopPressed s).time = s.time ∧
    (stopPressed s).meter = s.meter ∧ (stopPressed s).gov = s.gov ∧ (stopPressed s).tele = s.tele ∧
    (stopPressed s).table = s.table ∧ (stopPressed s).adm = s.adm ∧ (stopPressed s).gate = s.gate ∧
    (stopPressed s).mc = s.mc ∧ (stopPressed s).loader = s.loader ∧ (stopPressed s).cfg = s.cfg ∧
    (stopPressed s).panel = s.panel := by
  unfold stopPressed
  (repeat' split) <;> simp

@[simp] theorem startPressed_frame (s : State) :
    (startPressed s).pending = s.pending ∧ (startPressed s).powered = s.powered ∧ (startPressed s).time = s.time ∧
    (startPressed s).meter = s.meter ∧ (startPressed s).gov = s.gov ∧ (startPressed s).tele = s.tele ∧
    (startPressed s).table = s.table ∧ (startPressed s).adm = s.adm ∧ (startPressed s).gate = s.gate ∧
    (startPressed s).mc = s.mc ∧ (startPressed s).loader = s.loader ∧ (startPressed s).cfg = s.cfg ∧
    (startPressed s).panel = s.panel := by
  unfold startPressed
  (repeat' split) <;> simp

@[simp] theorem sampleSaw_frame (p : Pins) (s : State) :
    (sampleSaw p s).pending = s.pending ∧ (sampleSaw p s).powered = s.powered ∧ (sampleSaw p s).time = s.time ∧
    (sampleSaw p s).meter = s.meter ∧ (sampleSaw p s).gov = s.gov ∧ (sampleSaw p s).tele = s.tele ∧
    (sampleSaw p s).table = s.table ∧ (sampleSaw p s).adm = s.adm ∧ (sampleSaw p s).circ = s.circ ∧
    (sampleSaw p s).gate = s.gate ∧ (sampleSaw p s).mc = s.mc ∧ (sampleSaw p s).loader = s.loader ∧
    (sampleSaw p s).cfg = s.cfg ∧ (sampleSaw p s).panel = s.panel ∧ (sampleSaw p s).handed = s.handed := by
  unfold sampleSaw
  simp

@[simp] theorem sawInputs_frame (p : Pins) (s : State) :
    (sawInputs p s).pending = s.pending ∧ (sawInputs p s).powered = s.powered ∧ (sawInputs p s).time = s.time ∧
    (sawInputs p s).meter = s.meter ∧ (sawInputs p s).gov = s.gov ∧ (sawInputs p s).tele = s.tele ∧
    (sawInputs p s).table = s.table ∧ (sawInputs p s).adm = s.adm ∧ (sawInputs p s).gate = s.gate ∧
    (sawInputs p s).mc = s.mc ∧ (sawInputs p s).loader = s.loader ∧ (sawInputs p s).cfg = s.cfg ∧
    (sawInputs p s).panel = s.panel := by
  simp only [sawInputs, onEvent]
  (repeat' split) <;> simp

@[simp] theorem testIdleClutch_frame (s : State) :
    (testIdleClutch s).pending = s.pending ∧ (testIdleClutch s).powered = s.powered ∧
    (testIdleClutch s).time = s.time ∧ (testIdleClutch s).meter = s.meter ∧ (testIdleClutch s).gov = s.gov ∧
    (testIdleClutch s).tele = s.tele ∧ (testIdleClutch s).table = s.table ∧ (testIdleClutch s).adm = s.adm ∧
    (testIdleClutch s).circ = s.circ ∧ (testIdleClutch s).gate = s.gate ∧ (testIdleClutch s).mc = s.mc ∧
    (testIdleClutch s).loader = s.loader ∧ (testIdleClutch s).cfg = s.cfg ∧ (testIdleClutch s).panel = s.panel ∧
    (testIdleClutch s).handed = s.handed := by
  unfold testIdleClutch
  (repeat' split) <;> simp

@[simp] theorem countEngage_frame (r : Nat) (s : State) :
    (countEngage r s).pending = s.pending ∧ (countEngage r s).powered = s.powered ∧ (countEngage r s).time = s.time ∧
    (countEngage r s).meter = s.meter ∧ (countEngage r s).gov = s.gov ∧ (countEngage r s).tele = s.tele ∧
    (countEngage r s).table = s.table ∧ (countEngage r s).adm = s.adm ∧ (countEngage r s).gate = s.gate ∧
    (countEngage r s).mc = s.mc ∧ (countEngage r s).loader = s.loader ∧ (countEngage r s).cfg = s.cfg ∧
    (countEngage r s).panel = s.panel := by
  unfold countEngage
  (repeat' split) <;> simp

@[simp] theorem countSpinup_frame (r : Nat) (s : State) :
    (countSpinup r s).pending = s.pending ∧ (countSpinup r s).powered = s.powered ∧ (countSpinup r s).time = s.time ∧
    (countSpinup r s).meter = s.meter ∧ (countSpinup r s).gov = s.gov ∧ (countSpinup r s).tele = s.tele ∧
    (countSpinup r s).table = s.table ∧ (countSpinup r s).adm = s.adm ∧ (countSpinup r s).gate = s.gate ∧
    (countSpinup r s).mc = s.mc ∧ (countSpinup r s).loader = s.loader ∧ (countSpinup r s).cfg = s.cfg ∧
    (countSpinup r s).panel = s.panel := by
  unfold countSpinup
  (repeat' split) <;> simp

@[simp] theorem countReady_frame (r : Nat) (s : State) :
    (countReady r s).pending = s.pending ∧ (countReady r s).powered = s.powered ∧ (countReady r s).time = s.time ∧
    (countReady r s).meter = s.meter ∧ (countReady r s).gov = s.gov ∧ (countReady r s).tele = s.tele ∧
    (countReady r s).table = s.table ∧ (countReady r s).adm = s.adm ∧ (countReady r s).gate = s.gate ∧
    (countReady r s).mc = s.mc ∧ (countReady r s).loader = s.loader ∧ (countReady r s).cfg = s.cfg ∧
    (countReady r s).panel = s.panel := by
  unfold countReady
  (repeat' split) <;> simp

@[simp] theorem countRelease_frame (r : Nat) (s : State) :
    (countRelease r s).pending = s.pending ∧ (countRelease r s).powered = s.powered ∧
    (countRelease r s).time = s.time ∧ (countRelease r s).meter = s.meter ∧ (countRelease r s).gov = s.gov ∧
    (countRelease r s).tele = s.tele ∧ (countRelease r s).table = s.table ∧ (countRelease r s).adm = s.adm ∧
    (countRelease r s).circ = s.circ ∧ (countRelease r s).gate = s.gate ∧ (countRelease r s).mc = s.mc ∧
    (countRelease r s).loader = s.loader ∧ (countRelease r s).cfg = s.cfg ∧ (countRelease r s).panel = s.panel ∧
    (countRelease r s).handed = s.handed := by
  unfold countRelease
  (repeat' split) <;> simp

@[simp] theorem countSawTimer_frame (s : State) :
    (countSawTimer s).pending = s.pending ∧ (countSawTimer s).powered = s.powered ∧ (countSawTimer s).time = s.time ∧
    (countSawTimer s).meter = s.meter ∧ (countSawTimer s).gov = s.gov ∧ (countSawTimer s).tele = s.tele ∧
    (countSawTimer s).table = s.table ∧ (countSawTimer s).adm = s.adm ∧ (countSawTimer s).gate = s.gate ∧
    (countSawTimer s).mc = s.mc ∧ (countSawTimer s).loader = s.loader ∧ (countSawTimer s).cfg = s.cfg ∧
    (countSawTimer s).panel = s.panel := by
  unfold countSawTimer
  (repeat' split) <;> simp

@[simp] theorem sawTick_frame (p : Pins) (s : State) :
    (sawTick p s).pending = s.pending ∧ (sawTick p s).powered = s.powered ∧ (sawTick p s).time = s.time ∧
    (sawTick p s).meter = s.meter ∧ (sawTick p s).gov = s.gov ∧ (sawTick p s).tele = s.tele ∧
    (sawTick p s).table = s.table ∧ (sawTick p s).adm = s.adm ∧ (sawTick p s).gate = s.gate ∧
    (sawTick p s).mc = s.mc ∧ (sawTick p s).loader = s.loader ∧ (sawTick p s).cfg = s.cfg ∧
    (sawTick p s).panel = s.panel := by
  unfold sawTick
  (repeat' split) <;> simp

@[simp] theorem cuttingCycle_frame (filtered : Nat) (s : State) :
    (cuttingCycle filtered s).pending = s.pending ∧ (cuttingCycle filtered s).powered = s.powered ∧
    (cuttingCycle filtered s).time = s.time ∧ (cuttingCycle filtered s).meter = s.meter ∧
    (cuttingCycle filtered s).gov = s.gov ∧ (cuttingCycle filtered s).tele = s.tele ∧
    (cuttingCycle filtered s).table = s.table ∧ (cuttingCycle filtered s).adm = s.adm ∧
    (cuttingCycle filtered s).circ = s.circ ∧ (cuttingCycle filtered s).gate = s.gate ∧
    (cuttingCycle filtered s).mc = s.mc ∧ (cuttingCycle filtered s).loader = s.loader ∧
    (cuttingCycle filtered s).cfg = s.cfg ∧ (cuttingCycle filtered s).panel = s.panel ∧
    (cuttingCycle filtered s).handed = s.handed := by
  simp only [cuttingCycle]
  (repeat' split) <;> simp

@[simp] theorem backoffCycle_frame (r : Nat) (s : State) :
    (backoffCycle r s).pending = s.pending ∧ (backoffCycle r s).powered = s.powered ∧
    (backoffCycle r s).time = s.time ∧ (backoffCycle r s).meter = s.meter ∧ (backoffCycle r s).gov = s.gov ∧
    (backoffCycle r s).tele = s.tele ∧ (backoffCycle r s).table = s.table ∧ (backoffCycle r s).adm = s.adm ∧
    (backoffCycle r s).circ = s.circ ∧ (backoffCycle r s).gate = s.gate ∧ (backoffCycle r s).mc = s.mc ∧
    (backoffCycle r s).loader = s.loader ∧ (backoffCycle r s).cfg = s.cfg ∧ (backoffCycle r s).panel = s.panel ∧
    (backoffCycle r s).handed = s.handed := by
  unfold backoffCycle
  (repeat' split) <;> simp

@[simp] theorem sawLineLost_frame (s : State) :
    (sawLineLost s).pending = s.pending ∧ (sawLineLost s).powered = s.powered ∧ (sawLineLost s).time = s.time ∧
    (sawLineLost s).meter = s.meter ∧ (sawLineLost s).gov = s.gov ∧ (sawLineLost s).tele = s.tele ∧
    (sawLineLost s).table = s.table ∧ (sawLineLost s).adm = s.adm ∧ (sawLineLost s).gate = s.gate ∧
    (sawLineLost s).mc = s.mc ∧ (sawLineLost s).loader = s.loader ∧ (sawLineLost s).cfg = s.cfg ∧
    (sawLineLost s).panel = s.panel := by
  unfold sawLineLost
  (repeat' split) <;> simp

@[simp] theorem sawRecord_frame (r : LineRecord) (s : State) :
    (sawRecord r s).pending = s.pending ∧ (sawRecord r s).powered = s.powered ∧ (sawRecord r s).time = s.time ∧
    (sawRecord r s).meter = s.meter ∧ (sawRecord r s).gov = s.gov ∧ (sawRecord r s).tele = s.tele ∧
    (sawRecord r s).table = s.table ∧ (sawRecord r s).adm = s.adm ∧ (sawRecord r s).gate = s.gate ∧
    (sawRecord r s).mc = s.mc ∧ (sawRecord r s).loader = s.loader ∧ (sawRecord r s).cfg = s.cfg ∧
    (sawRecord r s).panel = s.panel := by
  unfold sawRecord
  (repeat' split) <;> simp

@[simp] theorem sawAdmitted_frame (s : State) :
    (sawAdmitted s).pending = s.pending ∧ (sawAdmitted s).powered = s.powered ∧ (sawAdmitted s).time = s.time ∧
    (sawAdmitted s).meter = s.meter ∧ (sawAdmitted s).gov = s.gov ∧ (sawAdmitted s).tele = s.tele ∧
    (sawAdmitted s).table = s.table ∧ (sawAdmitted s).adm = s.adm ∧ (sawAdmitted s).circ = s.circ ∧
    (sawAdmitted s).gate = s.gate ∧ (sawAdmitted s).mc = s.mc ∧ (sawAdmitted s).loader = s.loader ∧
    (sawAdmitted s).cfg = s.cfg ∧ (sawAdmitted s).panel = s.panel ∧ (sawAdmitted s).handed = s.handed := by
  unfold sawAdmitted
  (repeat' split) <;> simp

@[simp] theorem sawRefused_frame (s : State) :
    (sawRefused s).pending = s.pending ∧ (sawRefused s).powered = s.powered ∧ (sawRefused s).time = s.time ∧
    (sawRefused s).meter = s.meter ∧ (sawRefused s).gov = s.gov ∧ (sawRefused s).tele = s.tele ∧
    (sawRefused s).table = s.table ∧ (sawRefused s).adm = s.adm ∧ (sawRefused s).circ = s.circ ∧
    (sawRefused s).gate = s.gate ∧ (sawRefused s).mc = s.mc ∧ (sawRefused s).loader = s.loader ∧
    (sawRefused s).cfg = s.cfg ∧ (sawRefused s).panel = s.panel ∧ (sawRefused s).handed = s.handed := by
  unfold sawRefused
  (repeat' split) <;> simp

@[simp] theorem sawShed_frame (s : State) :
    (sawShed s).pending = s.pending ∧ (sawShed s).powered = s.powered ∧ (sawShed s).time = s.time ∧
    (sawShed s).meter = s.meter ∧ (sawShed s).gov = s.gov ∧ (sawShed s).tele = s.tele ∧ (sawShed s).table = s.table ∧
    (sawShed s).adm = s.adm ∧ (sawShed s).gate = s.gate ∧ (sawShed s).mc = s.mc ∧ (sawShed s).loader = s.loader ∧
    (sawShed s).cfg = s.cfg ∧ (sawShed s).panel = s.panel := by
  unfold sawShed
  (repeat' split) <;> simp

@[simp] theorem restartSaw_frame (s : State) :
    (restartSaw s).pending = s.pending ∧ (restartSaw s).powered = s.powered ∧ (restartSaw s).time = s.time ∧
    (restartSaw s).meter = s.meter ∧ (restartSaw s).gov = s.gov ∧ (restartSaw s).tele = s.tele ∧
    (restartSaw s).table = s.table ∧ (restartSaw s).adm = s.adm ∧ (restartSaw s).gate = s.gate ∧
    (restartSaw s).mc = s.mc ∧ (restartSaw s).loader = s.loader ∧ (restartSaw s).cfg = s.cfg ∧
    (restartSaw s).panel = s.panel := by
  unfold restartSaw
  (repeat' split) <;> simp


/-! ### The Circuit Controller -/

@[simp] theorem levelAsserted_frame (k : Circ) (s : State) :
    (levelAsserted k s).pending = s.pending ∧ (levelAsserted k s).powered = s.powered ∧
    (levelAsserted k s).time = s.time ∧ (levelAsserted k s).meter = s.meter ∧ (levelAsserted k s).gov = s.gov ∧
    (levelAsserted k s).tele = s.tele ∧ (levelAsserted k s).table = s.table ∧ (levelAsserted k s).adm = s.adm ∧
    (levelAsserted k s).saw = s.saw ∧ (levelAsserted k s).gate = s.gate ∧ (levelAsserted k s).mc = s.mc ∧
    (levelAsserted k s).loader = s.loader ∧ (levelAsserted k s).cfg = s.cfg ∧ (levelAsserted k s).panel = s.panel := by
  unfold levelAsserted
  (repeat' split) <;> simp

@[simp] theorem levelDropped_frame (k : Circ) (s : State) :
    (levelDropped k s).pending = s.pending ∧ (levelDropped k s).powered = s.powered ∧
    (levelDropped k s).time = s.time ∧ (levelDropped k s).meter = s.meter ∧ (levelDropped k s).gov = s.gov ∧
    (levelDropped k s).tele = s.tele ∧ (levelDropped k s).table = s.table ∧ (levelDropped k s).adm = s.adm ∧
    (levelDropped k s).saw = s.saw ∧ (levelDropped k s).gate = s.gate ∧ (levelDropped k s).mc = s.mc ∧
    (levelDropped k s).loader = s.loader ∧ (levelDropped k s).cfg = s.cfg ∧ (levelDropped k s).panel = s.panel := by
  unfold levelDropped
  (repeat' split) <;> simp

@[simp] theorem edgePressed_frame (k : Circ) (s : State) :
    (edgePressed k s).pending = s.pending ∧ (edgePressed k s).powered = s.powered ∧ (edgePressed k s).time = s.time ∧
    (edgePressed k s).meter = s.meter ∧ (edgePressed k s).gov = s.gov ∧ (edgePressed k s).tele = s.tele ∧
    (edgePressed k s).table = s.table ∧ (edgePressed k s).adm = s.adm ∧ (edgePressed k s).saw = s.saw ∧
    (edgePressed k s).gate = s.gate ∧ (edgePressed k s).mc = s.mc ∧ (edgePressed k s).loader = s.loader ∧
    (edgePressed k s).cfg = s.cfg ∧ (edgePressed k s).panel = s.panel := by
  unfold edgePressed
  (repeat' split) <;> simp

@[simp] theorem demandEvent_frame (k : Circ) (asserted : Bool) (s : State) :
    (demandEvent k asserted s).pending = s.pending ∧ (demandEvent k asserted s).powered = s.powered ∧
    (demandEvent k asserted s).time = s.time ∧ (demandEvent k asserted s).meter = s.meter ∧
    (demandEvent k asserted s).gov = s.gov ∧ (demandEvent k asserted s).tele = s.tele ∧
    (demandEvent k asserted s).table = s.table ∧ (demandEvent k asserted s).adm = s.adm ∧
    (demandEvent k asserted s).saw = s.saw ∧ (demandEvent k asserted s).gate = s.gate ∧
    (demandEvent k asserted s).mc = s.mc ∧ (demandEvent k asserted s).loader = s.loader ∧
    (demandEvent k asserted s).cfg = s.cfg ∧ (demandEvent k asserted s).panel = s.panel := by
  unfold demandEvent
  (repeat' split) <;> simp

@[simp] theorem sampleDemand_frame (p : Pins) (s : State) :
    (sampleDemand p s).pending = s.pending ∧ (sampleDemand p s).powered = s.powered ∧
    (sampleDemand p s).time = s.time ∧ (sampleDemand p s).meter = s.meter ∧ (sampleDemand p s).gov = s.gov ∧
    (sampleDemand p s).tele = s.tele ∧ (sampleDemand p s).table = s.table ∧ (sampleDemand p s).adm = s.adm ∧
    (sampleDemand p s).saw = s.saw ∧ (sampleDemand p s).gate = s.gate ∧ (sampleDemand p s).mc = s.mc ∧
    (sampleDemand p s).loader = s.loader ∧ (sampleDemand p s).cfg = s.cfg ∧ (sampleDemand p s).panel = s.panel ∧
    (sampleDemand p s).handed = s.handed := by
  unfold sampleDemand
  simp

@[simp] theorem takeDemand_frame (k : Circ) (d : Debouncer) (v : Bool) (s : State) :
    (takeDemand k d v s).pending = s.pending ∧ (takeDemand k d v s).powered = s.powered ∧
    (takeDemand k d v s).time = s.time ∧ (takeDemand k d v s).meter = s.meter ∧ (takeDemand k d v s).gov = s.gov ∧
    (takeDemand k d v s).tele = s.tele ∧ (takeDemand k d v s).table = s.table ∧ (takeDemand k d v s).adm = s.adm ∧
    (takeDemand k d v s).saw = s.saw ∧ (takeDemand k d v s).gate = s.gate ∧ (takeDemand k d v s).mc = s.mc ∧
    (takeDemand k d v s).loader = s.loader ∧ (takeDemand k d v s).cfg = s.cfg ∧ (takeDemand k d v s).panel = s.panel := by
  unfold takeDemand
  (repeat' split) <;> simp

@[simp] theorem demandStep_frame (p : Pins) (s : State) :
    (demandStep p s).pending = s.pending ∧ (demandStep p s).powered = s.powered ∧ (demandStep p s).time = s.time ∧
    (demandStep p s).meter = s.meter ∧ (demandStep p s).gov = s.gov ∧ (demandStep p s).tele = s.tele ∧
    (demandStep p s).table = s.table ∧ (demandStep p s).adm = s.adm ∧ (demandStep p s).saw = s.saw ∧
    (demandStep p s).gate = s.gate ∧ (demandStep p s).mc = s.mc ∧ (demandStep p s).loader = s.loader ∧
    (demandStep p s).cfg = s.cfg ∧ (demandStep p s).panel = s.panel := by
  unfold demandStep
  simp

@[simp] theorem pauseOut_frame (k : Circ) (s : State) :
    (pauseOut k s).pending = s.pending ∧ (pauseOut k s).powered = s.powered ∧ (pauseOut k s).time = s.time ∧
    (pauseOut k s).meter = s.meter ∧ (pauseOut k s).gov = s.gov ∧ (pauseOut k s).tele = s.tele ∧
    (pauseOut k s).table = s.table ∧ (pauseOut k s).adm = s.adm ∧ (pauseOut k s).saw = s.saw ∧
    (pauseOut k s).gate = s.gate ∧ (pauseOut k s).mc = s.mc ∧ (pauseOut k s).loader = s.loader ∧
    (pauseOut k s).cfg = s.cfg ∧ (pauseOut k s).panel = s.panel := by
  unfold pauseOut
  (repeat' split) <;> simp

@[simp] theorem countPause_frame (k : Circ) (s : State) :
    (countPause k s).pending = s.pending ∧ (countPause k s).powered = s.powered ∧ (countPause k s).time = s.time ∧
    (countPause k s).meter = s.meter ∧ (countPause k s).gov = s.gov ∧ (countPause k s).tele = s.tele ∧
    (countPause k s).table = s.table ∧ (countPause k s).adm = s.adm ∧ (countPause k s).saw = s.saw ∧
    (countPause k s).gate = s.gate ∧ (countPause k s).mc = s.mc ∧ (countPause k s).loader = s.loader ∧
    (countPause k s).cfg = s.cfg ∧ (countPause k s).panel = s.panel := by
  unfold countPause
  (repeat' split) <;> simp

@[simp] theorem pauseStep_frame (s : State) :
    (pauseStep s).pending = s.pending ∧ (pauseStep s).powered = s.powered ∧ (pauseStep s).time = s.time ∧
    (pauseStep s).meter = s.meter ∧ (pauseStep s).gov = s.gov ∧ (pauseStep s).tele = s.tele ∧
    (pauseStep s).table = s.table ∧ (pauseStep s).adm = s.adm ∧ (pauseStep s).saw = s.saw ∧
    (pauseStep s).gate = s.gate ∧ (pauseStep s).mc = s.mc ∧ (pauseStep s).loader = s.loader ∧
    (pauseStep s).cfg = s.cfg ∧ (pauseStep s).panel = s.panel := by
  simp only [pauseStep, Circ.switched, List.foldl]
  split <;> simp

@[simp] theorem evaluateStages_frame (s : State) :
    (evaluateStages s).pending = s.pending ∧ (evaluateStages s).powered = s.powered ∧
    (evaluateStages s).time = s.time ∧ (evaluateStages s).meter = s.meter ∧ (evaluateStages s).gov = s.gov ∧
    (evaluateStages s).tele = s.tele ∧ (evaluateStages s).table = s.table ∧ (evaluateStages s).adm = s.adm ∧
    (evaluateStages s).saw = s.saw ∧ (evaluateStages s).gate = s.gate ∧ (evaluateStages s).mc = s.mc ∧
    (evaluateStages s).loader = s.loader ∧ (evaluateStages s).cfg = s.cfg ∧ (evaluateStages s).panel = s.panel := by
  unfold evaluateStages
  simp

@[simp] theorem shedState_frame (k : Circ) (s : State) :
    (shedState k s).pending = s.pending ∧ (shedState k s).powered = s.powered ∧ (shedState k s).time = s.time ∧
    (shedState k s).meter = s.meter ∧ (shedState k s).gov = s.gov ∧ (shedState k s).tele = s.tele ∧
    (shedState k s).table = s.table ∧ (shedState k s).adm = s.adm ∧ (shedState k s).gate = s.gate ∧
    (shedState k s).mc = s.mc ∧ (shedState k s).loader = s.loader ∧ (shedState k s).cfg = s.cfg ∧
    (shedState k s).panel = s.panel := by
  unfold shedState
  (repeat' split) <;> simp

@[simp] theorem shedOne_frame (stage : Stage) (s : State) :
    (shedOne stage s).pending = s.pending ∧ (shedOne stage s).powered = s.powered ∧ (shedOne stage s).time = s.time ∧
    (shedOne stage s).meter = s.meter ∧ (shedOne stage s).gov = s.gov ∧ (shedOne stage s).tele = s.tele ∧
    (shedOne stage s).table = s.table ∧ (shedOne stage s).adm = s.adm ∧ (shedOne stage s).gate = s.gate ∧
    (shedOne stage s).mc = s.mc ∧ (shedOne stage s).loader = s.loader ∧ (shedOne stage s).cfg = s.cfg ∧
    (shedOne stage s).panel = s.panel := by
  unfold shedOne
  (repeat' split) <;> simp

@[simp] theorem setTimer_frame (stage : Stage) (n : Nat) (s : State) :
    (setTimer stage n s).pending = s.pending ∧ (setTimer stage n s).powered = s.powered ∧
    (setTimer stage n s).time = s.time ∧ (setTimer stage n s).meter = s.meter ∧ (setTimer stage n s).gov = s.gov ∧
    (setTimer stage n s).tele = s.tele ∧ (setTimer stage n s).table = s.table ∧ (setTimer stage n s).adm = s.adm ∧
    (setTimer stage n s).saw = s.saw ∧ (setTimer stage n s).gate = s.gate ∧ (setTimer stage n s).mc = s.mc ∧
    (setTimer stage n s).loader = s.loader ∧ (setTimer stage n s).cfg = s.cfg ∧
    (setTimer stage n s).panel = s.panel ∧ (setTimer stage n s).handed = s.handed := by
  unfold setTimer
  (repeat' split) <;> simp

@[simp] theorem stageStep_frame (stage : Stage) (s : State) :
    (stageStep stage s).pending = s.pending ∧ (stageStep stage s).powered = s.powered ∧
    (stageStep stage s).time = s.time ∧ (stageStep stage s).meter = s.meter ∧ (stageStep stage s).gov = s.gov ∧
    (stageStep stage s).tele = s.tele ∧ (stageStep stage s).table = s.table ∧ (stageStep stage s).adm = s.adm ∧
    (stageStep stage s).gate = s.gate ∧ (stageStep stage s).mc = s.mc ∧ (stageStep stage s).loader = s.loader ∧
    (stageStep stage s).cfg = s.cfg ∧ (stageStep stage s).panel = s.panel := by
  unfold stageStep
  (repeat' split) <;> simp

@[simp] theorem restoreCircuit_frame (k : Circ) (s : State) :
    (restoreCircuit s k).pending = s.pending ∧ (restoreCircuit s k).powered = s.powered ∧
    (restoreCircuit s k).time = s.time ∧ (restoreCircuit s k).meter = s.meter ∧ (restoreCircuit s k).gov = s.gov ∧
    (restoreCircuit s k).tele = s.tele ∧ (restoreCircuit s k).table = s.table ∧ (restoreCircuit s k).adm = s.adm ∧
    (restoreCircuit s k).saw = s.saw ∧ (restoreCircuit s k).gate = s.gate ∧ (restoreCircuit s k).mc = s.mc ∧
    (restoreCircuit s k).loader = s.loader ∧ (restoreCircuit s k).cfg = s.cfg ∧ (restoreCircuit s k).panel = s.panel := by
  unfold restoreCircuit
  (repeat' split) <;> simp

@[simp] theorem restoreFold_frame (order : List Circ) (s : State) :
    (order.foldl restoreCircuit s).pending = s.pending ∧ (order.foldl restoreCircuit s).powered = s.powered ∧
    (order.foldl restoreCircuit s).time = s.time ∧ (order.foldl restoreCircuit s).meter = s.meter ∧
    (order.foldl restoreCircuit s).gov = s.gov ∧ (order.foldl restoreCircuit s).tele = s.tele ∧
    (order.foldl restoreCircuit s).table = s.table ∧ (order.foldl restoreCircuit s).adm = s.adm ∧
    (order.foldl restoreCircuit s).saw = s.saw ∧ (order.foldl restoreCircuit s).gate = s.gate ∧
    (order.foldl restoreCircuit s).mc = s.mc ∧ (order.foldl restoreCircuit s).loader = s.loader ∧
    (order.foldl restoreCircuit s).cfg = s.cfg ∧ (order.foldl restoreCircuit s).panel = s.panel := by
  induction order generalizing s with
  | nil => simp
  | cons k rest ih => simp [ih]

@[simp] theorem restoreAll_frame (s : State) :
    (restoreAll s).pending = s.pending ∧ (restoreAll s).powered = s.powered ∧ (restoreAll s).time = s.time ∧
    (restoreAll s).meter = s.meter ∧ (restoreAll s).gov = s.gov ∧ (restoreAll s).tele = s.tele ∧
    (restoreAll s).table = s.table ∧ (restoreAll s).adm = s.adm ∧ (restoreAll s).saw = s.saw ∧
    (restoreAll s).gate = s.gate ∧ (restoreAll s).mc = s.mc ∧ (restoreAll s).loader = s.loader ∧
    (restoreAll s).cfg = s.cfg ∧ (restoreAll s).panel = s.panel := by
  simp [restoreAll]

@[simp] theorem restoreStep_frame (s : State) :
    (restoreStep s).pending = s.pending ∧ (restoreStep s).powered = s.powered ∧ (restoreStep s).time = s.time ∧
    (restoreStep s).meter = s.meter ∧ (restoreStep s).gov = s.gov ∧ (restoreStep s).tele = s.tele ∧
    (restoreStep s).table = s.table ∧ (restoreStep s).adm = s.adm ∧ (restoreStep s).saw = s.saw ∧
    (restoreStep s).gate = s.gate ∧ (restoreStep s).mc = s.mc ∧ (restoreStep s).loader = s.loader ∧
    (restoreStep s).cfg = s.cfg ∧ (restoreStep s).panel = s.panel := by
  unfold restoreStep
  (repeat' split) <;> simp

@[simp] theorem circuitTick_frame (p : Pins) (s : State) :
    (circuitTick p s).pending = s.pending ∧ (circuitTick p s).powered = s.powered ∧ (circuitTick p s).time = s.time ∧
    (circuitTick p s).meter = s.meter ∧ (circuitTick p s).gov = s.gov ∧ (circuitTick p s).tele = s.tele ∧
    (circuitTick p s).table = s.table ∧ (circuitTick p s).adm = s.adm ∧ (circuitTick p s).gate = s.gate ∧
    (circuitTick p s).mc = s.mc ∧ (circuitTick p s).loader = s.loader ∧ (circuitTick p s).cfg = s.cfg ∧
    (circuitTick p s).panel = s.panel := by
  unfold circuitTick
  simp

@[simp] theorem claimAtRun_frame (k : Circ) (s : State) :
    (claimAtRun s k).pending = s.pending ∧ (claimAtRun s k).powered = s.powered ∧ (claimAtRun s k).time = s.time ∧
    (claimAtRun s k).meter = s.meter ∧ (claimAtRun s k).gov = s.gov ∧ (claimAtRun s k).tele = s.tele ∧
    (claimAtRun s k).table = s.table ∧ (claimAtRun s k).adm = s.adm ∧ (claimAtRun s k).saw = s.saw ∧
    (claimAtRun s k).gate = s.gate ∧ (claimAtRun s k).mc = s.mc ∧ (claimAtRun s k).loader = s.loader ∧
    (claimAtRun s k).cfg = s.cfg ∧ (claimAtRun s k).panel = s.panel := by
  unfold claimAtRun
  (repeat' split) <;> simp

@[simp] theorem claimFold_frame (order : List Circ) (s : State) :
    (order.foldl claimAtRun s).pending = s.pending ∧ (order.foldl claimAtRun s).powered = s.powered ∧
    (order.foldl claimAtRun s).time = s.time ∧ (order.foldl claimAtRun s).meter = s.meter ∧
    (order.foldl claimAtRun s).gov = s.gov ∧ (order.foldl claimAtRun s).tele = s.tele ∧
    (order.foldl claimAtRun s).table = s.table ∧ (order.foldl claimAtRun s).adm = s.adm ∧
    (order.foldl claimAtRun s).saw = s.saw ∧ (order.foldl claimAtRun s).gate = s.gate ∧
    (order.foldl claimAtRun s).mc = s.mc ∧ (order.foldl claimAtRun s).loader = s.loader ∧
    (order.foldl claimAtRun s).cfg = s.cfg ∧ (order.foldl claimAtRun s).panel = s.panel := by
  induction order generalizing s with
  | nil => simp
  | cons k rest ih => simp [ih]

@[simp] theorem circuitRunEntry_frame (s : State) :
    (circuitRunEntry s).pending = s.pending ∧ (circuitRunEntry s).powered = s.powered ∧
    (circuitRunEntry s).time = s.time ∧ (circuitRunEntry s).meter = s.meter ∧ (circuitRunEntry s).gov = s.gov ∧
    (circuitRunEntry s).tele = s.tele ∧ (circuitRunEntry s).table = s.table ∧ (circuitRunEntry s).adm = s.adm ∧
    (circuitRunEntry s).saw = s.saw ∧ (circuitRunEntry s).gate = s.gate ∧ (circuitRunEntry s).mc = s.mc ∧
    (circuitRunEntry s).loader = s.loader ∧ (circuitRunEntry s).cfg = s.cfg ∧ (circuitRunEntry s).panel = s.panel := by
  simp [circuitRunEntry]

@[simp] theorem circuitRecord_frame (r : LineRecord) (s : State) :
    (circuitRecord r s).pending = s.pending ∧ (circuitRecord r s).powered = s.powered ∧
    (circuitRecord r s).time = s.time ∧ (circuitRecord r s).meter = s.meter ∧ (circuitRecord r s).gov = s.gov ∧
    (circuitRecord r s).tele = s.tele ∧ (circuitRecord r s).table = s.table ∧ (circuitRecord r s).adm = s.adm ∧
    (circuitRecord r s).saw = s.saw ∧ (circuitRecord r s).gate = s.gate ∧ (circuitRecord r s).mc = s.mc ∧
    (circuitRecord r s).loader = s.loader ∧ (circuitRecord r s).cfg = s.cfg ∧ (circuitRecord r s).panel = s.panel := by
  simp only [circuitRecord]
  (repeat' split) <;> simp

@[simp] theorem takeAdmitted_frame (k : Circ) (s : State) :
    (takeAdmitted k s).pending = s.pending ∧ (takeAdmitted k s).powered = s.powered ∧
    (takeAdmitted k s).time = s.time ∧ (takeAdmitted k s).meter = s.meter ∧ (takeAdmitted k s).gov = s.gov ∧
    (takeAdmitted k s).tele = s.tele ∧ (takeAdmitted k s).table = s.table ∧ (takeAdmitted k s).adm = s.adm ∧
    (takeAdmitted k s).gate = s.gate ∧ (takeAdmitted k s).mc = s.mc ∧ (takeAdmitted k s).loader = s.loader ∧
    (takeAdmitted k s).cfg = s.cfg ∧ (takeAdmitted k s).panel = s.panel ∧ (takeAdmitted k s).handed = s.handed := by
  unfold takeAdmitted
  (repeat' split) <;> simp

@[simp] theorem takeRefused_frame (k : Circ) (s : State) :
    (takeRefused k s).pending = s.pending ∧ (takeRefused k s).powered = s.powered ∧ (takeRefused k s).time = s.time ∧
    (takeRefused k s).meter = s.meter ∧ (takeRefused k s).gov = s.gov ∧ (takeRefused k s).tele = s.tele ∧
    (takeRefused k s).table = s.table ∧ (takeRefused k s).adm = s.adm ∧ (takeRefused k s).gate = s.gate ∧
    (takeRefused k s).mc = s.mc ∧ (takeRefused k s).loader = s.loader ∧ (takeRefused k s).cfg = s.cfg ∧
    (takeRefused k s).panel = s.panel ∧ (takeRefused k s).handed = s.handed := by
  unfold takeRefused
  (repeat' split) <;> simp


/-! ### Gate Trim and the Mode Controller -/

@[simp] theorem tryPulse_frame (s : State) :
    (tryPulse s).pending = s.pending ∧ (tryPulse s).powered = s.powered ∧ (tryPulse s).time = s.time ∧
    (tryPulse s).meter = s.meter ∧ (tryPulse s).gov = s.gov ∧ (tryPulse s).tele = s.tele ∧
    (tryPulse s).table = s.table ∧ (tryPulse s).adm = s.adm ∧ (tryPulse s).circ = s.circ ∧ (tryPulse s).saw = s.saw ∧
    (tryPulse s).mc = s.mc ∧ (tryPulse s).loader = s.loader ∧ (tryPulse s).cfg = s.cfg ∧
    (tryPulse s).panel = s.panel ∧ (tryPulse s).handed = s.handed := by
  unfold tryPulse
  (repeat' split) <;> simp

@[simp] theorem gateEvaluate_frame (e : EvaluationEvent) (s : State) :
    (gateEvaluate e s).pending = s.pending ∧ (gateEvaluate e s).powered = s.powered ∧
    (gateEvaluate e s).time = s.time ∧ (gateEvaluate e s).meter = s.meter ∧ (gateEvaluate e s).gov = s.gov ∧
    (gateEvaluate e s).tele = s.tele ∧ (gateEvaluate e s).table = s.table ∧ (gateEvaluate e s).adm = s.adm ∧
    (gateEvaluate e s).circ = s.circ ∧ (gateEvaluate e s).saw = s.saw ∧ (gateEvaluate e s).mc = s.mc ∧
    (gateEvaluate e s).loader = s.loader ∧ (gateEvaluate e s).cfg = s.cfg ∧ (gateEvaluate e s).panel = s.panel ∧
    (gateEvaluate e s).handed = s.handed := by
  unfold gateEvaluate
  (repeat' split) <;> simp

@[simp] theorem sheddingRaise_frame (s : State) :
    (sheddingRaise s).pending = s.pending ∧ (sheddingRaise s).powered = s.powered ∧ (sheddingRaise s).time = s.time ∧
    (sheddingRaise s).meter = s.meter ∧ (sheddingRaise s).gov = s.gov ∧ (sheddingRaise s).tele = s.tele ∧
    (sheddingRaise s).table = s.table ∧ (sheddingRaise s).adm = s.adm ∧ (sheddingRaise s).circ = s.circ ∧
    (sheddingRaise s).saw = s.saw ∧ (sheddingRaise s).mc = s.mc ∧ (sheddingRaise s).loader = s.loader ∧
    (sheddingRaise s).cfg = s.cfg ∧ (sheddingRaise s).panel = s.panel ∧ (sheddingRaise s).handed = s.handed := by
  unfold sheddingRaise
  (repeat' split) <;> simp

@[simp] theorem gateTick_frame (p : Pins) (s : State) :
    (gateTick p s).pending = s.pending ∧ (gateTick p s).powered = s.powered ∧ (gateTick p s).time = s.time ∧
    (gateTick p s).meter = s.meter ∧ (gateTick p s).gov = s.gov ∧ (gateTick p s).tele = s.tele ∧
    (gateTick p s).table = s.table ∧ (gateTick p s).adm = s.adm ∧ (gateTick p s).circ = s.circ ∧
    (gateTick p s).saw = s.saw ∧ (gateTick p s).mc = s.mc ∧ (gateTick p s).loader = s.loader ∧
    (gateTick p s).cfg = s.cfg ∧ (gateTick p s).panel = s.panel ∧ (gateTick p s).handed = s.handed := by
  unfold gateTick
  simp

@[simp] theorem enterDark_frame (counted : Bool) (s : State) :
    (enterDark counted s).pending = s.pending ∧ (enterDark counted s).powered = s.powered ∧
    (enterDark counted s).time = s.time ∧ (enterDark counted s).meter = s.meter ∧ (enterDark counted s).gov = s.gov ∧
    (enterDark counted s).tele = s.tele ∧ (enterDark counted s).table = s.table ∧ (enterDark counted s).adm = s.adm ∧
    (enterDark counted s).circ = s.circ ∧ (enterDark counted s).saw = s.saw ∧ (enterDark counted s).gate = s.gate ∧
    (enterDark counted s).loader = s.loader ∧ (enterDark counted s).cfg = s.cfg ∧
    (enterDark counted s).panel = s.panel := by
  unfold enterDark
  (repeat' split) <;> simp

@[simp] theorem enterStagger_frame (s : State) :
    (enterStagger s).pending = s.pending ∧ (enterStagger s).powered = s.powered ∧ (enterStagger s).time = s.time ∧
    (enterStagger s).meter = s.meter ∧ (enterStagger s).gov = s.gov ∧ (enterStagger s).tele = s.tele ∧
    (enterStagger s).table = s.table ∧ (enterStagger s).adm = s.adm ∧ (enterStagger s).circ = s.circ ∧
    (enterStagger s).saw = s.saw ∧ (enterStagger s).gate = s.gate ∧ (enterStagger s).loader = s.loader ∧
    (enterStagger s).cfg = s.cfg ∧ (enterStagger s).panel = s.panel ∧ (enterStagger s).handed = s.handed := by
  unfold enterStagger
  simp

@[simp] theorem enterRecover_frame (s : State) :
    (enterRecover s).pending = s.pending ∧ (enterRecover s).powered = s.powered ∧ (enterRecover s).time = s.time ∧
    (enterRecover s).meter = s.meter ∧ (enterRecover s).table = s.table ∧ (enterRecover s).adm = s.adm ∧
    (enterRecover s).circ = s.circ ∧ (enterRecover s).saw = s.saw ∧ (enterRecover s).gate = s.gate ∧
    (enterRecover s).loader = s.loader ∧ (enterRecover s).cfg = s.cfg ∧ (enterRecover s).panel = s.panel := by
  simp only [enterRecover]
  (repeat' split) <;> simp

@[simp] theorem enterRun_frame (s : State) :
    (enterRun s).pending = s.pending ∧ (enterRun s).powered = s.powered ∧ (enterRun s).time = s.time ∧
    (enterRun s).meter = s.meter ∧ (enterRun s).gov = s.gov ∧ (enterRun s).tele = s.tele ∧
    (enterRun s).table = s.table ∧ (enterRun s).adm = s.adm ∧ (enterRun s).circ = s.circ ∧ (enterRun s).saw = s.saw ∧
    (enterRun s).gate = s.gate ∧ (enterRun s).loader = s.loader ∧ (enterRun s).cfg = s.cfg ∧
    (enterRun s).panel = s.panel := by
  unfold enterRun
  simp

@[simp] theorem modeRecord_frame (r : LineRecord) (s : State) :
    (modeRecord r s).pending = s.pending ∧ (modeRecord r s).powered = s.powered ∧ (modeRecord r s).time = s.time ∧
    (modeRecord r s).meter = s.meter ∧ (modeRecord r s).table = s.table ∧ (modeRecord r s).adm = s.adm ∧
    (modeRecord r s).circ = s.circ ∧ (modeRecord r s).saw = s.saw ∧ (modeRecord r s).gate = s.gate ∧
    (modeRecord r s).loader = s.loader ∧ (modeRecord r s).cfg = s.cfg ∧ (modeRecord r s).panel = s.panel := by
  unfold modeRecord
  (repeat' split) <;> simp

@[simp] theorem recallHeard_frame (s : State) :
    (recallHeard s).pending = s.pending ∧ (recallHeard s).powered = s.powered ∧ (recallHeard s).time = s.time ∧
    (recallHeard s).meter = s.meter ∧ (recallHeard s).gov = s.gov ∧ (recallHeard s).tele = s.tele ∧
    (recallHeard s).table = s.table ∧ (recallHeard s).adm = s.adm ∧ (recallHeard s).circ = s.circ ∧
    (recallHeard s).saw = s.saw ∧ (recallHeard s).gate = s.gate ∧ (recallHeard s).loader = s.loader ∧
    (recallHeard s).cfg = s.cfg ∧ (recallHeard s).panel = s.panel ∧ (recallHeard s).handed = s.handed := by
  unfold recallHeard
  (repeat' split) <;> simp

@[simp] theorem recallTimeout_frame (s : State) :
    (recallTimeout s).pending = s.pending ∧ (recallTimeout s).powered = s.powered ∧ (recallTimeout s).time = s.time ∧
    (recallTimeout s).meter = s.meter ∧ (recallTimeout s).gov = s.gov ∧ (recallTimeout s).tele = s.tele ∧
    (recallTimeout s).table = s.table ∧ (recallTimeout s).adm = s.adm ∧ (recallTimeout s).circ = s.circ ∧
    (recallTimeout s).saw = s.saw ∧ (recallTimeout s).gate = s.gate ∧ (recallTimeout s).loader = s.loader ∧
    (recallTimeout s).cfg = s.cfg ∧ (recallTimeout s).panel = s.panel ∧ (recallTimeout s).handed = s.handed := by
  unfold recallTimeout
  simp

@[simp] theorem countRecallWait_frame (s : State) :
    (countRecallWait s).pending = s.pending ∧ (countRecallWait s).powered = s.powered ∧
    (countRecallWait s).time = s.time ∧ (countRecallWait s).meter = s.meter ∧ (countRecallWait s).gov = s.gov ∧
    (countRecallWait s).tele = s.tele ∧ (countRecallWait s).table = s.table ∧ (countRecallWait s).adm = s.adm ∧
    (countRecallWait s).circ = s.circ ∧ (countRecallWait s).saw = s.saw ∧ (countRecallWait s).gate = s.gate ∧
    (countRecallWait s).loader = s.loader ∧ (countRecallWait s).cfg = s.cfg ∧ (countRecallWait s).panel = s.panel ∧
    (countRecallWait s).handed = s.handed := by
  unfold countRecallWait
  (repeat' split) <;> simp

@[simp] theorem countStagger_frame (s : State) :
    (countStagger s).pending = s.pending ∧ (countStagger s).powered = s.powered ∧ (countStagger s).time = s.time ∧
    (countStagger s).meter = s.meter ∧ (countStagger s).gov = s.gov ∧ (countStagger s).tele = s.tele ∧
    (countStagger s).table = s.table ∧ (countStagger s).adm = s.adm ∧ (countStagger s).circ = s.circ ∧
    (countStagger s).saw = s.saw ∧ (countStagger s).gate = s.gate ∧ (countStagger s).loader = s.loader ∧
    (countStagger s).cfg = s.cfg ∧ (countStagger s).panel = s.panel := by
  unfold countStagger
  (repeat' split) <;> simp

@[simp] theorem countDark_frame (s : State) :
    (countDark s).pending = s.pending ∧ (countDark s).powered = s.powered ∧ (countDark s).time = s.time ∧
    (countDark s).meter = s.meter ∧ (countDark s).gov = s.gov ∧ (countDark s).tele = s.tele ∧
    (countDark s).table = s.table ∧ (countDark s).adm = s.adm ∧ (countDark s).saw = s.saw ∧
    (countDark s).gate = s.gate ∧ (countDark s).loader = s.loader ∧ (countDark s).cfg = s.cfg ∧
    (countDark s).panel = s.panel ∧ (countDark s).handed = s.handed := by
  simp only [countDark]
  (repeat' split) <;> simp

@[simp] theorem modeTick_frame (s : State) :
    (modeTick s).pending = s.pending ∧ (modeTick s).powered = s.powered ∧ (modeTick s).time = s.time ∧
    (modeTick s).meter = s.meter ∧ (modeTick s).gov = s.gov ∧ (modeTick s).tele = s.tele ∧
    (modeTick s).table = s.table ∧ (modeTick s).adm = s.adm ∧ (modeTick s).saw = s.saw ∧ (modeTick s).gate = s.gate ∧
    (modeTick s).loader = s.loader ∧ (modeTick s).cfg = s.cfg ∧ (modeTick s).panel = s.panel := by
  unfold modeTick
  (repeat' split) <;> simp


/-! ### The tick, the RESTART and the ends of START -/

@[simp] theorem blockTick_frame (p : Pins) (b : TickBlock) (s : State) :
    (blockTick p b s).pending = s.pending ∧ (blockTick p b s).powered = s.powered ∧ (blockTick p b s).time = s.time ∧
    (blockTick p b s).meter = s.meter ∧ (blockTick p b s).loader = s.loader ∧ (blockTick p b s).cfg = s.cfg ∧
    (blockTick p b s).panel = s.panel := by
  unfold blockTick
  (repeat' split) <;> simp

@[simp] theorem beginTick_frame (s : State) :
    (beginTick s).pending = s.pending ∧ (beginTick s).powered = s.powered ∧ (beginTick s).gov = s.gov ∧
    (beginTick s).table = s.table ∧ (beginTick s).adm = s.adm ∧ (beginTick s).circ = s.circ ∧
    (beginTick s).saw = s.saw ∧ (beginTick s).gate = s.gate ∧ (beginTick s).mc = s.mc ∧
    (beginTick s).loader = s.loader ∧ (beginTick s).cfg = s.cfg ∧ (beginTick s).panel = s.panel ∧
    (beginTick s).handed = s.handed := by
  unfold beginTick
  (repeat' split) <;> simp

@[simp] theorem takeTick_frame (p : Pins) (b : TickBlock) (s : State) :
    (takeTick p s b).pending = s.pending ∧ (takeTick p s b).powered = s.powered ∧ (takeTick p s b).meter = s.meter ∧
    (takeTick p s b).loader = s.loader ∧ (takeTick p s b).cfg = s.cfg ∧ (takeTick p s b).panel = s.panel := by
  unfold takeTick
  (repeat' split) <;> simp

@[simp] theorem startLine_frame (f : Nat) (s : State) :
    (startLine f s).pending = s.pending ∧ (startLine f s).powered = s.powered ∧ (startLine f s).time = s.time ∧
    (startLine f s).tele = s.tele ∧ (startLine f s).table = s.table ∧ (startLine f s).adm = s.adm ∧
    (startLine f s).circ = s.circ ∧ (startLine f s).saw = s.saw ∧ (startLine f s).gate = s.gate ∧
    (startLine f s).mc = s.mc ∧ (startLine f s).loader = s.loader ∧ (startLine f s).cfg = s.cfg ∧
    (startLine f s).panel = s.panel := by
  unfold startLine
  simp

@[simp] theorem restartGovernor_frame (s : State) :
    (restartGovernor s).pending = s.pending ∧ (restartGovernor s).powered = s.powered ∧
    (restartGovernor s).time = s.time ∧ (restartGovernor s).meter = s.meter ∧ (restartGovernor s).tele = s.tele ∧
    (restartGovernor s).table = s.table ∧ (restartGovernor s).adm = s.adm ∧ (restartGovernor s).circ = s.circ ∧
    (restartGovernor s).saw = s.saw ∧ (restartGovernor s).gate = s.gate ∧ (restartGovernor s).mc = s.mc ∧
    (restartGovernor s).loader = s.loader ∧ (restartGovernor s).cfg = s.cfg ∧ (restartGovernor s).panel = s.panel ∧
    (restartGovernor s).handed = s.handed := by
  unfold restartGovernor
  simp

@[simp] theorem clearDuplicate_frame (s : State) :
    (clearDuplicate s).pending = s.pending ∧ (clearDuplicate s).powered = s.powered ∧
    (clearDuplicate s).time = s.time ∧ (clearDuplicate s).meter = s.meter ∧ (clearDuplicate s).gov = s.gov ∧
    (clearDuplicate s).table = s.table ∧ (clearDuplicate s).adm = s.adm ∧ (clearDuplicate s).circ = s.circ ∧
    (clearDuplicate s).saw = s.saw ∧ (clearDuplicate s).gate = s.gate ∧ (clearDuplicate s).mc = s.mc ∧
    (clearDuplicate s).loader = s.loader ∧ (clearDuplicate s).cfg = s.cfg ∧ (clearDuplicate s).panel = s.panel ∧
    (clearDuplicate s).handed = s.handed := by
  unfold clearDuplicate
  simp

@[simp] theorem restartTelegrams_frame (s : State) :
    (restartTelegrams s).pending = s.pending ∧ (restartTelegrams s).powered = s.powered ∧
    (restartTelegrams s).time = s.time ∧ (restartTelegrams s).meter = s.meter ∧ (restartTelegrams s).gov = s.gov ∧
    (restartTelegrams s).table = s.table ∧ (restartTelegrams s).adm = s.adm ∧ (restartTelegrams s).circ = s.circ ∧
    (restartTelegrams s).saw = s.saw ∧ (restartTelegrams s).gate = s.gate ∧ (restartTelegrams s).mc = s.mc ∧
    (restartTelegrams s).loader = s.loader ∧ (restartTelegrams s).cfg = s.cfg ∧
    (restartTelegrams s).panel = s.panel ∧ (restartTelegrams s).handed = s.handed := by
  unfold restartTelegrams
  simp

@[simp] theorem restartBlocks_frame (s : State) :
    (restartBlocks s).pending = s.pending ∧ (restartBlocks s).powered = s.powered ∧ (restartBlocks s).time = s.time ∧
    (restartBlocks s).meter = s.meter ∧ (restartBlocks s).gov = s.gov ∧ (restartBlocks s).tele = s.tele ∧
    (restartBlocks s).mc = s.mc ∧ (restartBlocks s).loader = s.loader ∧ (restartBlocks s).cfg = s.cfg ∧
    (restartBlocks s).panel = s.panel := by
  unfold restartBlocks
  simp

@[simp] theorem restartRunning_frame (s : State) :
    (restartRunning s).pending = s.pending ∧ (restartRunning s).powered = s.powered ∧
    (restartRunning s).time = s.time ∧ (restartRunning s).loader = s.loader ∧ (restartRunning s).cfg = s.cfg ∧
    (restartRunning s).panel = s.panel := by
  unfold restartRunning
  simp

@[simp] theorem enterStart_frame (s : State) :
    (enterStart s).pending = s.pending ∧ (enterStart s).powered = s.powered ∧ (enterStart s).time = s.time ∧
    (enterStart s).meter = s.meter ∧ (enterStart s).gov = s.gov ∧ (enterStart s).tele = s.tele ∧
    (enterStart s).table = s.table ∧ (enterStart s).adm = s.adm ∧ (enterStart s).circ = s.circ ∧
    (enterStart s).saw = s.saw ∧ (enterStart s).gate = s.gate ∧ (enterStart s).cfg = s.cfg ∧
    (enterStart s).panel = s.panel ∧ (enterStart s).handed = s.handed := by
  unfold enterStart
  simp

@[simp] theorem restartHalted_frame (s : State) :
    (restartHalted s).pending = s.pending ∧ (restartHalted s).powered = s.powered ∧ (restartHalted s).time = s.time ∧
    (restartHalted s).meter = s.meter ∧ (restartHalted s).gov = s.gov ∧ (restartHalted s).cfg = s.cfg ∧
    (restartHalted s).panel = s.panel := by
  unfold restartHalted
  simp

@[simp] theorem restartPart_frame (s : State) :
    (restartPart s).pending = s.pending ∧ (restartPart s).powered = s.powered ∧ (restartPart s).time = s.time ∧
    (restartPart s).cfg = s.cfg ∧ (restartPart s).panel = s.panel := by
  unfold restartPart
  (repeat' split) <;> simp

@[simp] theorem setBaseFeed_frame (ff : Nat) (s : State) :
    (setBaseFeed ff s).pending = s.pending ∧ (setBaseFeed ff s).powered = s.powered ∧
    (setBaseFeed ff s).time = s.time ∧ (setBaseFeed ff s).meter = s.meter ∧ (setBaseFeed ff s).gov = s.gov ∧
    (setBaseFeed ff s).tele = s.tele ∧ (setBaseFeed ff s).table = s.table ∧ (setBaseFeed ff s).adm = s.adm ∧
    (setBaseFeed ff s).circ = s.circ ∧ (setBaseFeed ff s).gate = s.gate ∧ (setBaseFeed ff s).mc = s.mc ∧
    (setBaseFeed ff s).loader = s.loader ∧ (setBaseFeed ff s).cfg = s.cfg ∧ (setBaseFeed ff s).panel = s.panel ∧
    (setBaseFeed ff s).handed = s.handed := by
  unfold setBaseFeed
  simp

@[simp] theorem startSucceeds_frame (cfg : Config) (s : State) :
    (startSucceeds cfg s).pending = s.pending ∧ (startSucceeds cfg s).powered = s.powered ∧
    (startSucceeds cfg s).time = s.time ∧ (startSucceeds cfg s).tele = s.tele ∧
    (startSucceeds cfg s).table = s.table ∧ (startSucceeds cfg s).adm = s.adm ∧ (startSucceeds cfg s).gate = s.gate ∧
    (startSucceeds cfg s).loader = s.loader ∧ (startSucceeds cfg s).panel = s.panel := by
  unfold startSucceeds
  simp

@[simp] theorem startFails_frame (s : State) :
    (startFails s).pending = s.pending ∧ (startFails s).powered = s.powered ∧ (startFails s).time = s.time ∧
    (startFails s).tele = s.tele ∧ (startFails s).table = s.table ∧ (startFails s).adm = s.adm ∧
    (startFails s).circ = s.circ ∧ (startFails s).gate = s.gate ∧ (startFails s).loader = s.loader ∧
    (startFails s).panel = s.panel := by
  unfold startFails
  simp


/-! ### The Panel Port and the Start Loader -/

@[simp] theorem beginReply_frame (bytes : List Byte) (s : State) :
    (beginReply bytes s).pending = s.pending ∧ (beginReply bytes s).powered = s.powered ∧
    (beginReply bytes s).time = s.time ∧ (beginReply bytes s).meter = s.meter ∧ (beginReply bytes s).gov = s.gov ∧
    (beginReply bytes s).tele = s.tele ∧ (beginReply bytes s).table = s.table ∧ (beginReply bytes s).adm = s.adm ∧
    (beginReply bytes s).circ = s.circ ∧ (beginReply bytes s).saw = s.saw ∧ (beginReply bytes s).gate = s.gate ∧
    (beginReply bytes s).mc = s.mc ∧ (beginReply bytes s).loader = s.loader ∧ (beginReply bytes s).cfg = s.cfg ∧
    (beginReply bytes s).handed = s.handed := by
  unfold beginReply
  simp

@[simp] theorem panelOverrun_frame (s : State) :
    (panelOverrun s).pending = s.pending ∧ (panelOverrun s).powered = s.powered ∧ (panelOverrun s).time = s.time ∧
    (panelOverrun s).meter = s.meter ∧ (panelOverrun s).gov = s.gov ∧ (panelOverrun s).tele = s.tele ∧
    (panelOverrun s).table = s.table ∧ (panelOverrun s).adm = s.adm ∧ (panelOverrun s).circ = s.circ ∧
    (panelOverrun s).saw = s.saw ∧ (panelOverrun s).gate = s.gate ∧ (panelOverrun s).mc = s.mc ∧
    (panelOverrun s).loader = s.loader ∧ (panelOverrun s).cfg = s.cfg ∧ (panelOverrun s).handed = s.handed := by
  unfold panelOverrun
  simp

@[simp] theorem clearAll_frame (s : State) :
    (clearAll s).pending = s.pending ∧ (clearAll s).powered = s.powered ∧ (clearAll s).time = s.time ∧
    (clearAll s).cfg = s.cfg ∧ (clearAll s).handed = s.handed := by
  unfold clearAll
  simp

@[simp] theorem takeRequest_frame (b : Byte) (s : State) :
    (takeRequest b s).pending = s.pending ∧ (takeRequest b s).powered = s.powered ∧ (takeRequest b s).time = s.time ∧
    (takeRequest b s).cfg = s.cfg := by
  unfold takeRequest
  (repeat' split) <;> simp

@[simp] theorem takeInStart_frame (b : Byte) (s : State) :
    (takeInStart b s).pending = s.pending ∧ (takeInStart b s).powered = s.powered ∧ (takeInStart b s).time = s.time ∧
    (takeInStart b s).cfg = s.cfg := by
  unfold takeInStart
  (repeat' split) <;> simp

@[simp] theorem panelByte_frame (b : Byte) (s : State) :
    (panelByte b s).pending = s.pending ∧ (panelByte b s).powered = s.powered ∧ (panelByte b s).time = s.time ∧
    (panelByte b s).cfg = s.cfg := by
  unfold panelByte
  (repeat' split) <;> simp

@[simp] theorem takePending_frame (s : State) :
    (takePending s).pending = s.pending ∧ (takePending s).powered = s.powered ∧ (takePending s).time = s.time ∧
    (takePending s).cfg = s.cfg := by
  unfold takePending
  (repeat' split) <;> simp

@[simp] theorem replyComplete_frame (s : State) :
    (replyComplete s).pending = s.pending ∧ (replyComplete s).powered = s.powered ∧ (replyComplete s).gov = s.gov ∧
    (replyComplete s).table = s.table ∧ (replyComplete s).adm = s.adm ∧ (replyComplete s).circ = s.circ ∧
    (replyComplete s).saw = s.saw ∧ (replyComplete s).gate = s.gate ∧ (replyComplete s).mc = s.mc ∧
    (replyComplete s).loader = s.loader ∧ (replyComplete s).cfg = s.cfg ∧ (replyComplete s).handed = s.handed := by
  unfold replyComplete
  (repeat' split) <;> simp

@[simp] theorem failStart_frame (status : AutoloadStatus) (s : State) :
    (failStart status s).pending = s.pending ∧ (failStart status s).powered = s.powered ∧
    (failStart status s).time = s.time := by
  unfold failStart
  simp

@[simp] theorem succeedStart_frame (decoded : Config) (s : State) :
    (succeedStart decoded s).pending = s.pending ∧ (succeedStart decoded s).powered = s.powered ∧
    (succeedStart decoded s).time = s.time := by
  unfold succeedStart
  simp

@[simp] theorem beginAttempt_frame (s : State) :
    (beginAttempt s).pending = s.pending ∧ (beginAttempt s).powered = s.powered ∧ (beginAttempt s).time = s.time ∧
    (beginAttempt s).meter = s.meter ∧ (beginAttempt s).gov = s.gov ∧ (beginAttempt s).tele = s.tele ∧
    (beginAttempt s).table = s.table ∧ (beginAttempt s).adm = s.adm ∧ (beginAttempt s).circ = s.circ ∧
    (beginAttempt s).saw = s.saw ∧ (beginAttempt s).gate = s.gate ∧ (beginAttempt s).mc = s.mc ∧
    (beginAttempt s).cfg = s.cfg ∧ (beginAttempt s).panel = s.panel ∧ (beginAttempt s).handed = s.handed := by
  unfold beginAttempt
  simp

@[simp] theorem notAcknowledged_frame (which : AddressByte) (s : State) :
    (notAcknowledged which s).pending = s.pending ∧ (notAcknowledged which s).powered = s.powered ∧
    (notAcknowledged which s).time = s.time := by
  simp only [notAcknowledged]
  (repeat' split) <;> simp

@[simp] theorem retryWaitOver_frame (s : State) :
    (retryWaitOver s).pending = s.pending ∧ (retryWaitOver s).powered = s.powered ∧ (retryWaitOver s).gov = s.gov ∧
    (retryWaitOver s).table = s.table ∧ (retryWaitOver s).adm = s.adm ∧ (retryWaitOver s).circ = s.circ ∧
    (retryWaitOver s).saw = s.saw ∧ (retryWaitOver s).gate = s.gate ∧ (retryWaitOver s).mc = s.mc ∧
    (retryWaitOver s).cfg = s.cfg ∧ (retryWaitOver s).panel = s.panel ∧ (retryWaitOver s).handed = s.handed := by
  unfold retryWaitOver
  (repeat' split) <;> simp

@[simp] theorem attemptDone_frame (bytes : List Byte) (s : State) :
    (attemptDone bytes s).pending = s.pending ∧ (attemptDone bytes s).powered = s.powered ∧
    (attemptDone bytes s).time = s.time := by
  unfold attemptDone
  (repeat' split) <;> simp

@[simp] theorem latchStraps_frame (n : Nat) (s : State) :
    (latchStraps n s).pending = s.pending ∧ (latchStraps n s).powered = s.powered := by
  unfold latchStraps
  (repeat' split) <;> simp

end Sys2Proof.Machine
end

