-- ==== Sys2Proof/Laws/Operations.lean ====
section
/-! SUPPORT. What the shared operations do, said once: answering, the passing of time, the vectors by circuit, the
transmitter at the end of an event, deferral, the requests of the panel, RESTART and the failed end of START. -/

namespace Sys2Proof.Machine

/-! ### Answering -/

theorem answer_powered {s : State} (h : s.powered = true) (t : State) : answer s t = .next t := by simp [answer, h]

theorem answer_unpowered {s : State} (h : s.powered = false) (t : State) : answer s t = .next s := by simp [answer, h]

theorem next_congr {s t : State} (h : s = t) : (Host.Outcome.next s : Result) = .next t := by rw [h]

/-! ### Time -/

theorem meterRuns_of_ne_start {s : State} (h : s.mc.mode ≠ .start) : s.meterRuns = true := by
  simp [State.meterRuns, h]

theorem elapse_meterRuns (dt : Nat) (s : State) : (elapse dt s).meterRuns = s.meterRuns := by simp [State.meterRuns]

theorem elapse_time (dt : Nat) (s : State) : (elapse dt s).time = { s.time with now := s.time.now + dt } := by
  simp only [elapse]; split <;> split <;> rfl

theorem elapse_meter (dt : Nat) (s : State) :
    (elapse dt s).meter =
      if s.meterRuns then
        { s.meter with
          elapsed := min 65535 (s.meter.elapsed + dt), silence := min 40000 (s.meter.silence + dt) }
      else s.meter := by
  have h : (s.setTime { s.time with now := s.time.now + dt }).meterRuns = s.meterRuns := rfl
  simp only [elapse, h]
  cases s.meterRuns <;> simp <;> split <;> rfl

theorem elapse_meter_running {s : State} (h : s.mc.mode ≠ .start) (dt : Nat) :
    (elapse dt s).meter =
      { s.meter with
        elapsed := min 65535 (s.meter.elapsed + dt), silence := min 40000 (s.meter.silence + dt) } := by
  rw [elapse_meter, meterRuns_of_ne_start h]; rfl

theorem elapse_tele (dt : Nat) (s : State) :
    (elapse dt s).tele =
      if s.tele.tx.isGap then { s.tele with gapTimer := s.tele.gapTimer + dt } else s.tele := by
  simp only [elapse]
  split <;> simp
  all_goals (try split) <;> simp_all

theorem elapse_tele_of_not_gap {s : State} (h : s.tele.tx.isGap = false) (dt : Nat) : (elapse dt s).tele = s.tele := by
  simp [elapse_tele, h]

theorem isGap_eq_false {x : TxState} (h : x ≠ .gap) : x.isGap = false := by cases x <;> simp_all [TxState.isGap]

/-! ### Counts and clamps -/

theorem satInc_le (n : Nat) : satInc n ≤ 65535 := by simp [satInc]

theorem le_satInc {n : Nat} (h : n ≤ 65535) : n ≤ satInc n := by simp only [satInc]; omega

theorem clampNat_within {lo hi : Nat} (h : lo ≤ hi) (x : Nat) : lo ≤ clampNat x lo hi ∧ clampNat x lo hi ≤ hi := by
  simp only [clampNat]; split <;> (try split) <;> omega

theorem clampNat_of_within {lo hi x : Nat} (h : lo ≤ x ∧ x ≤ hi) : clampNat x lo hi = x := by
  simp only [clampNat]; split <;> (try split) <;> omega

theorem clampInt_within {lo hi : Int} (h : lo ≤ hi) (x : Int) : lo ≤ clampInt x lo hi ∧ clampInt x lo hi ≤ hi := by
  simp only [clampInt]; split <;> (try split) <;> omega

/-! ### Vectors by circuit -/

@[simp] theorem five_get_set_self {α : Type} (v : Five α) (k : Circ) (x : α) : (v.set k x).get k = x := by
  cases k <;> rfl

theorem five_get_set_of_ne {α : Type} (v : Five α) {j k : Circ} (h : j ≠ k) (x : α) : (v.set k x).get j = v.get j := by
  cases k <;> cases j <;> first | rfl | exact absurd rfl h

@[simp] theorem five_set_set {α : Type} (v : Five α) (k : Circ) (x y : α) : (v.set k x).set k y = v.set k y := by
  cases k <;> rfl

@[simp] theorem four_get_set_self {α : Type} (v : Four α) (n : Nat) (x : α) : (v.set n x).get n = x := by
  rcases n with _ | _ | _ | n <;> rfl

/-! ### Inputs -/

theorem debouncer_sample_same (d : Debouncer) : d.sample d.level = { d with run := 0 } := by simp [Debouncer.sample]

theorem debouncer_sample_other {d : Debouncer} {v : Bool} (h : v ≠ d.level) :
    d.sample v = if 3 ≤ d.run + 1 then ⟨v, 0⟩ else { d with run := d.run + 1 } := by
  simp [Debouncer.sample, h]

theorem takeDemand_demand (k : Circ) (d : Debouncer) (v : Bool) (s : State) :
    (takeDemand k d v s).circ.demand = s.circ.demand := by
  have h1 : ∀ (k st) (s : State), (setCircuitState k st s).circ.demand = s.circ.demand := fun _ _ _ => rfl
  have h2 : ∀ (k st) (s : State), (toWaiting k st s).circ.demand = s.circ.demand := fun _ _ _ => rfl
  have h3 : ∀ (k) (s : State), (toOffWithdrawing k s).circ.demand = s.circ.demand := fun _ _ => rfl
  have h4 : ∀ (k m) (s : State), (setMark k m s).circ.demand = s.circ.demand := fun _ _ _ => rfl
  simp only [takeDemand, demandEvent, levelAsserted, levelDropped, edgePressed]
  (repeat' split) <;> simp [h1, h2, h3, h4]

/-! ### The transmitter at the end of an event -/

/-- The end of an event changes the transmitter and its gap only. -/
theorem settle_keeps (t : Telegram) :
    t.settle = { t with tx := t.settle.tx, gapTimer := t.settle.gapTimer } := by
  unfold Telegram.settle
  split <;> (try split) <;> simp [Telegram.startGap] <;> split <;> rfl

/-- A settled transmitter is idle exactly where the queue is empty and nothing is on the air. -/
theorem settle_idle_iff (t : Telegram) : t.settle.tx = .idle ↔ t.queued = false ∧ t.tx.isSending = false := by
  unfold Telegram.settle
  cases hx : t.tx <;> cases hq : t.queued <;> simp [hx, TxState.isSending, Telegram.startGap]
  split <;> simp

/-! ### Deferral -/

/-- What deferring `c` makes of an own claim `o` of a list in which circuits do not repeat. -/
def deferOf (cfg : Config) (c o : OwnClaim) : Option OwnClaim :=
  if o.circuit = c.circuit then
    if (c.deferral cfg).exhausted cfg.lr then none else some (c.deferral cfg)
  else some o

theorem deferClaim_own (c : OwnClaim) (s : State) :
    (deferClaim c s).adm.own = s.adm.own.filterMap (deferOf s.cfg c) := by
  simp only [deferClaim]
  split
  · rename_i h
    simp [removeOwn, setOwn]
    rw [← List.filterMap_eq_filter]
    apply List.filterMap_congr; intro x _
    by_cases hx : x.circuit = c.circuit <;> simp [Option.guard, deferOf, h, hx]
  · rename_i h
    simp [changeOwn, setOwn]
    rw [← List.filterMap_eq_map]
    apply List.filterMap_congr; intro x _
    by_cases hx : x.circuit = c.circuit <;> simp [deferOf, h, hx]

theorem deferClaim_heard (c : OwnClaim) (s : State) : (deferClaim c s).adm.heard = s.adm.heard := by
  simp only [deferClaim]
  split <;> simp [removeOwn, setOwn, changeOwn]

theorem deferClaim_handed (c : OwnClaim) (s : State) :
    (deferClaim c s).handed =
      { s.handed with
        answers := s.handed.answers ++ if (c.deferral s.cfg).exhausted s.cfg.lr then [.refused c.circuit] else [] } := by
  simp only [deferClaim]
  split
  · simp [handAnswer]
  · simp

/-! ### The Neighbour Table -/

theorem mem_insertRecord (r x : Neighbour) (l : List Neighbour) : x ∈ insertRecord r l ↔ x = r ∨ x ∈ l := by
  induction l with
  | nil => simp [insertRecord]
  | cons n ns ih => simp only [insertRecord]; split <;> simp [ih]; tauto

theorem length_insertRecord (r : Neighbour) (l : List Neighbour) : (insertRecord r l).length = l.length + 1 := by
  induction l with
  | nil => rfl
  | cons n ns ih => simp only [insertRecord]; split <;> simp [ih]

theorem holdsStation_iff (n : Nat) (l : List Neighbour) : holdsStation n l = true ↔ ∃ x ∈ l, x.station = n := by
  simp [holdsStation]

/-! ### The panel, RESTART and the failed end of START -/

theorem panelByte_outside_start {s : State} (hr : s.panel.reply = none) (hm : s.mc.mode ≠ .start) (b : Byte) :
    panelByte b s = takeRequest b s := by
  simp only [panelByte, hr]
  cases h : s.mc.mode <;> simp_all

theorem restartSaw_inactive {s : State} (h : s.circ.active = false) :
    restartSaw s = s.setSaw (s.saw.restarted s.cfg.ff) := by
  simp [restartSaw, withdrawCircuit4, h]

theorem restartBlocks_eq (s : State) :
    restartBlocks s =
      ((((s.setTable s.table.emptied).setAdm s.adm.emptied).setCirc s.circ.restarted).setSaw
        (s.saw.restarted s.cfg.ff)).setGate s.gate.restarted := by
  simp only [restartBlocks]
  rw [restartSaw_inactive rfl]
  rfl

theorem failStart_eq {s : State} (status : AutoloadStatus) (h : s.panel.pendingRequest = none) :
    failStart status s =
      (((((((s.setMeter (s.meter.started 50000)).setGov (s.gov.started 50000)).setSaw
        { s.saw with baseFeed := 300 }).setMc { s.mc with mode := .halted }).setLoader
        { s.loader with status := status, phase := .none }).setCfg defaultConfig).setHanded
        { s.handed with governorRecords := [], circuitRecords := [], sawRecords := [], modeRecords := [] }) := by
  simp only [failStart, takePending, startFails, startLine, startMeter, dropRecords, setBaseFeed]
  simp [h]
  ext1 <;> simp

end Sys2Proof.Machine
end

