-- ==== Sys2Proof/Laws/Circuits.lean ====
section
/-! SUPPORT. What the operations on the circuits, the saw, the gate and the mode do, said once. -/

namespace Sys2Proof.Machine

/-! ### The circuit table -/

theorem setCircuitState_circuitState_self (k : Circ) (st : CircuitState) (s : State) :
    (setCircuitState k st s).circuitState k = st := by
  simp [setCircuitState, State.circuitState]

theorem setCircuitState_circuitState_of_ne {j k : Circ} (h : j ≠ k) (st : CircuitState) (s : State) :
    (setCircuitState k st s).circuitState j = s.circuitState j := by
  simp [setCircuitState, State.circuitState, five_get_set_of_ne _ h]

theorem toWaiting_eq (k : Circ) (restore : Bool) (s : State) :
    toWaiting k restore s =
      (s.setCirc
          { s.circ with table := s.circ.table.set k { s.circ.table.get k with state := .waiting } }).setHanded
        { s.handed with
          requests := s.handed.requests ++ [.create k (s.cfg.rating.get k) (s.cfg.cls.get k) restore] } := rfl

theorem toOffWithdrawing_eq (k : Circ) (s : State) :
    toOffWithdrawing k s =
      (s.setCirc { s.circ with table := s.circ.table.set k { s.circ.table.get k with state := .off } }).setHanded
        { s.handed with requests := s.handed.requests ++ [.withdraw k] } := rfl

/-- The withdrawal of circuit 4 takes it OFF from WAITING and ON while the controller is active, and nothing else. -/
theorem withdrawCircuit4_eq (s : State) :
    withdrawCircuit4 s =
      if s.circ.active = true ∧ (s.circuitState .c4 = .waiting ∨ s.circuitState .c4 = .on) then
        toOffWithdrawing .c4 s
      else s := by
  unfold withdrawCircuit4
  cases h : s.circ.active <;> cases hc : s.circuitState .c4 <;> simp

/-! ### The saw -/

/-- Entry to STOPPING, for the saw: STOPPING while the clutch is closed, IDLE where it is open; the feed is 0. -/
theorem enterStopping_saw (s : State) :
    (enterStopping s).saw =
      { s.saw.cleared with
        state := if s.saw.clutchClosed.level then .stopping s.cfg.trel else .idle
        feed := 0 } := by
  simp only [enterStopping]
  split <;> simp_all [enterIdle, Saw.cleared]

theorem enterReturning_saw (s : State) :
    (enterReturning s).saw =
      { s.saw.cleared with
        state := if s.saw.returnLimit.level then .ready s.cfg.tready else .returning
        feed := if s.saw.returnLimit.level then 0 else -(s.cfg.rrt : Int) } := by
  simp only [enterReturning]
  split <;> simp_all [enterReady, Saw.cleared]

/-- No entry to a state of the saw touches its debounced inputs. -/
theorem enterStopping_inputs (s : State) :
    (enterStopping s).saw.clutchClosed = s.saw.clutchClosed ∧ (enterStopping s).saw.returnLimit = s.saw.returnLimit ∧
      (enterStopping s).saw.forwardLimit = s.saw.forwardLimit ∧ (enterStopping s).saw.stop = s.saw.stop ∧
      (enterStopping s).saw.start = s.saw.start := by
  simp [enterStopping_saw, Saw.cleared]

/-! ### The shed -/

theorem shedOne_of_none {stage : Stage} {s : State} (h : chooseShed stage s = none) : shedOne stage s = s := by
  simp [shedOne, h]

/-- The circuit a stage chooses is ON and stands in the rotation list of the class it is chosen from. -/
theorem chooseShed_spec {stage : Stage} {s : State} {cls : Nat} {k : Circ} (h : chooseShed stage s = some (cls, k)) :
    cls ∈ shedClasses stage ∧ s.circuitState k = .on ∧ k ∈ s.circ.rotation.get cls := by
  simp only [chooseShed] at h
  obtain ⟨c, hc, hk⟩ := List.exists_of_findSome?_eq_some h
  simp only [firstOn, Option.map_eq_some_iff, Prod.mk.injEq] at hk
  obtain ⟨j, hj, rfl, rfl⟩ := hk
  exact ⟨hc, by simpa using List.find?_some hj, List.mem_of_find?_eq_some hj⟩

/-! ### The gate and the mode -/

theorem startRaise_state (lp : Nat) (g : Gate) : (g.startRaise lp).state = .raising lp := rfl

theorem startLower_state (lp : Nat) (g : Gate) : (g.startLower lp).state = .lowering lp := rfl

theorem enterDark_mc (counted : Bool) (s : State) :
    (enterDark counted s).mc =
      { s.mc with
        mode := .dark, darkDuration := 0, recallWait := none, stagger := none
        darkEntries := if counted then satInc s.mc.darkEntries else s.mc.darkEntries } := rfl

theorem enterRecover_mode (s : State) :
    (enterRecover s).mc.mode = if s.cfg.recallOrigin then .stagger else .recover := by
  simp only [enterRecover]
  split <;> simp_all [enterStagger]

end Sys2Proof.Machine
end

