-- ==== Sys2Proof/Laws/Telegrams.lean ====
section
/-! SUPPORT. What the schedules do at a tick, and what a deferral does to the counters, the schedules and the queue,
said once. -/

namespace Sys2Proof.Machine

/-! ### The schedules at a tick (R57, R59) -/

/-- A schedule after a tick. -/
def counted : Option Schedule → Option Schedule
  | some ⟨left, some t⟩ => if t < 4 then some ⟨left, some (t + 1)⟩ else some ⟨left, none⟩
  | other => other

/-- The next copy of a schedule joins at this tick. -/
def isDue : Option Schedule → Bool
  | some ⟨_, some t⟩ => decide (4 ≤ t)
  | _ => false

theorem five_set_get_self {α : Type} (v : Five α) (k : Circ) : v.set k (v.get k) = v := by cases k <;> rfl

theorem countClaimCopy_eq (k : Circ) (s : State) :
    countClaimCopy k s =
      s.setTele
        { s.tele with
          claimSchedules := s.tele.claimSchedules.set k (counted (s.tele.claimSchedules.get k))
          list := s.tele.list ++ if isDue (s.tele.claimSchedules.get k) then [.claim k] else [] } := by
  have keep := five_set_get_self s.tele.claimSchedules k
  unfold countClaimCopy
  rcases h : s.tele.claimSchedules.get k with _ | ⟨left, _ | t⟩ <;> rw [h] at keep
  · simp [counted, isDue, keep, State.setTele]
  · simp [counted, isDue, keep, State.setTele]
  · by_cases ht : t < 4
    · simp [counted, isDue, ht, show ¬4 ≤ t by omega]
    · simp [counted, isDue, ht, show 4 ≤ t by omega, joinCopy]

theorem countReleaseCopy_eq (k : Circ) (s : State) :
    countReleaseCopy k s =
      s.setTele
        { s.tele with
          releaseSchedules := s.tele.releaseSchedules.set k (counted (s.tele.releaseSchedules.get k))
          list := s.tele.list ++ if isDue (s.tele.releaseSchedules.get k) then [.release k] else [] } := by
  have keep := five_set_get_self s.tele.releaseSchedules k
  unfold countReleaseCopy
  rcases h : s.tele.releaseSchedules.get k with _ | ⟨left, _ | t⟩ <;> rw [h] at keep
  · simp [counted, isDue, keep, State.setTele]
  · simp [counted, isDue, keep, State.setTele]
  · by_cases ht : t < 4
    · simp [counted, isDue, ht, show ¬4 ≤ t by omega]
    · simp [counted, isDue, ht, show 4 ≤ t by omega, joinCopy]

/-- The copies that join one by one are those of the tags whose schedule is due, in ascending tag. -/
theorem joined_eq_filter (due : Circ → Bool) (copy : Circ → Copy) (l : List Copy) :
    ((((l ++ if due .c0 then [copy .c0] else []) ++ if due .c1 then [copy .c1] else []) ++
        if due .c2 then [copy .c2] else []) ++ if due .c3 then [copy .c3] else []) ++
        (if due .c4 then [copy .c4] else []) =
      l ++ (Circ.all.filter due).map copy := by
  simp only [Circ.all, List.filter_cons, List.filter_nil]
  cases due .c0 <;> cases due .c1 <;> cases due .c2 <;> cases due .c3 <;> cases due .c4 <;> simp

theorem countClaimCopies_eq (s : State) :
    Circ.all.foldl (fun t k => countClaimCopy k t) s =
      s.setTele
        { s.tele with
          claimSchedules :=
            ⟨counted s.tele.claimSchedules.c0, counted s.tele.claimSchedules.c1, counted s.tele.claimSchedules.c2,
              counted s.tele.claimSchedules.c3, counted s.tele.claimSchedules.c4⟩
          list :=
            s.tele.list ++ (Circ.all.filter fun k => isDue (s.tele.claimSchedules.get k)).map Copy.claim } := by
  rw [← joined_eq_filter]
  simp only [Circ.all, List.foldl_cons, List.foldl_nil, countClaimCopy_eq, State.setTele_tele, State.setTele_setTele]
  rfl

theorem countReleaseCopies_eq (s : State) :
    Circ.all.foldl (fun t k => countReleaseCopy k t) s =
      s.setTele
        { s.tele with
          releaseSchedules :=
            ⟨counted s.tele.releaseSchedules.c0, counted s.tele.releaseSchedules.c1, counted s.tele.releaseSchedules.c2,
              counted s.tele.releaseSchedules.c3, counted s.tele.releaseSchedules.c4⟩
          list :=
            s.tele.list ++ (Circ.all.filter fun k => isDue (s.tele.releaseSchedules.get k)).map Copy.release } := by
  rw [← joined_eq_filter]
  simp only [Circ.all, List.foldl_cons, List.foldl_nil, countReleaseCopy_eq, State.setTele_tele, State.setTele_setTele]
  rfl

/-! ### What the removal without telegrams does (R104, R110) -/

theorem settleOutAll_own (l : List OwnClaim) (s : State) :
    (settleOutAll l s).adm.own = s.adm.own.filter fun c => !(l.map OwnClaim.circuit).contains c.circuit := by
  induction l generalizing s with
  | nil => simp [settleOutAll]
  | cons c rest ih =>
    rw [settleOutAll, ih]
    simp [settleOut, endClaimSchedule, removeOwn, setOwn, List.filter_filter]
    apply List.filter_congr
    intro x _
    rw [Bool.eq_iff_iff]
    simp [and_comm]

theorem settleOutAll_claimSchedules (l : List OwnClaim) (s : State) (k : Circ) :
    (settleOutAll l s).tele.claimSchedules.get k =
      if k ∈ l.map OwnClaim.circuit then none else s.tele.claimSchedules.get k := by
  induction l generalizing s with
  | nil => simp [settleOutAll]
  | cons c rest ih =>
    rw [settleOutAll, ih]
    by_cases hk : k = c.circuit
    · subst hk
      simp [settleOut, endClaimSchedule, removeOwn, setOwn]
    · simp [settleOut, endClaimSchedule, removeOwn, setOwn, hk, five_get_set_of_ne _ hk]

theorem settleOutAll_list (l : List OwnClaim) (s : State) :
    (settleOutAll l s).tele.list =
      s.tele.list.filter fun c => !(l.map fun o => Copy.claim o.circuit).contains c := by
  induction l generalizing s with
  | nil => simp [settleOutAll]
  | cons c rest ih =>
    rw [settleOutAll, ih]
    simp [settleOut, endClaimSchedule, removeOwn, setOwn, List.filter_filter]
    apply List.filter_congr
    intro x _
    rw [Bool.eq_iff_iff]
    simp [and_comm]

/-! ### What a deferral does beside the claim itself (R49, R58, R59, R100 to R102) -/

theorem deferClaim_cfg (c : OwnClaim) (s : State) : (deferClaim c s).cfg = s.cfg := by
  simp only [deferClaim]
  split <;> simp

@[simp] theorem State.setTele_telegramsWentDark (s : State) (x : Telegram) :
    (s.setTele x).telegramsWentDark = s.telegramsWentDark := rfl

@[simp] theorem State.setAdm_telegramsWentDark (s : State) (x : Admission) :
    (s.setAdm x).telegramsWentDark = s.telegramsWentDark := rfl

/-- A deferral hands no entry to DARK and takes none. -/
theorem deferClaim_telegramsWentDark (c : OwnClaim) (s : State) :
    (deferClaim c s).telegramsWentDark = s.telegramsWentDark := by
  simp only [State.telegramsWentDark, deferClaim_handed]

theorem deferClaim_tele (c : OwnClaim) (s : State) :
    (deferClaim c s).tele =
      { s.tele with
        claimSchedules := s.tele.claimSchedules.set c.circuit none
        releaseSchedules :=
          s.tele.releaseSchedules.set c.circuit (if s.telegramsWentDark then none else some ⟨2, none⟩)
        list :=
          (s.tele.list.filter fun x => x.tag != c.circuit) ++ if s.telegramsWentDark then [] else [.release c.circuit]
        tx := (s.tele.tx.orphanClaim c.circuit).orphanRelease c.circuit } := by
  have list : ∀ l : List Copy,
      (l.filter (· != .claim c.circuit)).filter (· != .release c.circuit) = l.filter fun x => x.tag != c.circuit := by
    intro l
    rw [List.filter_filter]
    apply List.filter_congr
    intro x _
    rw [Bool.eq_iff_iff]
    cases x <;> simp [Copy.tag]
  simp only [deferClaim]
  split <;> by_cases dark : s.telegramsWentDark = true <;>
    simp [removeOwn, setOwn, changeOwn, startReleaseSchedule, endReleaseSchedule, endClaimSchedule, joinCopy, list, dark]

theorem deferClaim_counters (c : OwnClaim) (s : State) :
    (deferClaim c s).adm.deferrals = satInc s.adm.deferrals ∧
      (deferClaim c s).adm.promotions =
        (if (c.deferral s.cfg).effective < c.effective then satInc s.adm.promotions else s.adm.promotions) ∧
      (deferClaim c s).adm.refusals =
        (if (c.deferral s.cfg).exhausted s.cfg.lr then satInc s.adm.refusals else s.adm.refusals) ∧
      (deferClaim c s).adm.admissions = s.adm.admissions ∧
      (deferClaim c s).adm.claimOverflow = s.adm.claimOverflow := by
  simp only [deferClaim]
  split <;> simp [removeOwn, setOwn, changeOwn]

/-- Deferring a list of claims of different circuits, each counted once. -/
theorem deferAll_groupDeferred (group : List OwnClaim) :
    ∀ s : State, (group.map OwnClaim.circuit).Nodup → s.adm.deferrals ≤ 65535 → s.adm.promotions ≤ 65535 →
      s.adm.refusals ≤ 65535 → GroupDeferred group s (deferAll group s) := by
  induction group with
  | nil =>
    intro s _ hd hp hr
    refine ⟨?_, ?_, ?_, ?_, ?_, ?_, ?_⟩ <;> simp [deferAll] <;> omega
  | cons c rest ih =>
    intro s hn hd hp hr
    obtain ⟨hc, hrest⟩ := List.nodup_cons.1 hn
    obtain ⟨dd, dp, dr, -, -⟩ := deferClaim_counters c s
    have le : ∀ (b : Prop) [Decidable b] (n : Nat), n ≤ 65535 → (if b then satInc n else n) ≤ 65535 := by
      intro b _ n h
      split
      · exact satInc_le n
      · exact h
    have g := ih (deferClaim c s) hrest (dd ▸ satInc_le _) (dp ▸ le _ _ hp) (dr ▸ le _ _ hr)
    obtain ⟨g1, g2, g3, g4, g5, g6, g7⟩ := g
    rw [deferClaim_cfg] at g2 g3
    rw [deferClaim_tele, deferClaim_telegramsWentDark] at g5 g6
    rw [deferClaim_tele] at g4 g7
    simp only [deferAll]
    refine ⟨?_, ?_, ?_, fun k => ?_, fun k => ?_, ?_, g7⟩
    · rw [g1, dd]
      simp only [satInc, List.length_cons]
      omega
    · rw [g2, dp]
      by_cases h : (c.deferral s.cfg).effective < c.effective
      · simp only [List.filter_cons, h, decide_true, if_true, satInc, List.length_cons]
        omega
      · simp [List.filter_cons, h]
    · rw [g3, dr]
      by_cases h : (c.deferral s.cfg).exhausted s.cfg.lr
      · simp only [List.filter_cons, h, if_true, satInc, List.length_cons]
        omega
      · simp [List.filter_cons, h]
    · rw [g4 k]
      by_cases hk : k = c.circuit
      · subst hk
        simp
      · simp [hk, five_get_set_of_ne _ hk]
    · rw [g5 k]
      by_cases hk : k = c.circuit
      · subst hk
        simp [hc]
      · simp [hk, five_get_set_of_ne _ hk]
    · have hcopy : (rest.map OwnClaim.circuit).contains c.circuit = false := by
        simpa using hc
      have htag : (Copy.release c.circuit).tag = c.circuit := rfl
      have both : ∀ l : List Copy,
          (l.filter fun x => x.tag != c.circuit).filter (fun x => !(rest.map OwnClaim.circuit).contains x.tag) =
            l.filter fun x => !((c :: rest).map OwnClaim.circuit).contains x.tag := by
        intro l
        rw [List.filter_filter]
        apply List.filter_congr
        intro x _
        rw [Bool.eq_iff_iff]
        simp [and_comm]
      rw [g6]
      by_cases dark : s.telegramsWentDark = true
      · simp only [dark, if_true, List.append_nil, both]
      · simp only [dark, if_false, Bool.false_eq_true, List.filter_append, both, List.filter_cons, List.filter_nil, htag,
          hcopy, Bool.not_false, if_true, List.map_cons, List.append_assoc, List.cons_append, List.nil_append]

end Sys2Proof.Machine
end

