-- ==== Sys2Proof/Laws/Ticks.lean ====
section
/-! SUPPORT. The work of the blocks at a tick neither reads nor writes the timebase: it may be done before or after the
timebase is replaced. One lemma per operation. -/

namespace Sys2Proof.Machine

/-! ### The replacements of one block's state -/

@[simp] theorem State.setTime_setGov (s : State) (x : Time) (y : Governor) :
    (s.setTime x).setGov y = (s.setGov y).setTime x := rfl
@[simp] theorem State.setTime_setTele (s : State) (x : Time) (y : Telegram) :
    (s.setTime x).setTele y = (s.setTele y).setTime x := rfl
@[simp] theorem State.setTime_setTable (s : State) (x : Time) (y : Table) :
    (s.setTime x).setTable y = (s.setTable y).setTime x := rfl
@[simp] theorem State.setTime_setAdm (s : State) (x : Time) (y : Admission) :
    (s.setTime x).setAdm y = (s.setAdm y).setTime x := rfl
@[simp] theorem State.setTime_setCirc (s : State) (x : Time) (y : Circuits) :
    (s.setTime x).setCirc y = (s.setCirc y).setTime x := rfl
@[simp] theorem State.setTime_setSaw (s : State) (x : Time) (y : Saw) :
    (s.setTime x).setSaw y = (s.setSaw y).setTime x := rfl
@[simp] theorem State.setTime_setGate (s : State) (x : Time) (y : Gate) :
    (s.setTime x).setGate y = (s.setGate y).setTime x := rfl
@[simp] theorem State.setTime_setMc (s : State) (x : Time) (y : ModeCtl) :
    (s.setTime x).setMc y = (s.setMc y).setTime x := rfl
@[simp] theorem State.setTime_setHanded (s : State) (x : Time) (y : Handed) :
    (s.setTime x).setHanded y = (s.setHanded y).setTime x := rfl

/-! ### What the work reads -/

@[simp] theorem State.circuitState_setTime (s : State) (x : Time) (k : Circ) :
    (s.setTime x).circuitState k = s.circuitState k := rfl
@[simp] theorem State.anyShedding_setTime (s : State) (x : Time) : (s.setTime x).anyShedding = s.anyShedding := rfl
@[simp] theorem State.telegramsWentDark_setTime (s : State) (x : Time) :
    (s.setTime x).telegramsWentDark = s.telegramsWentDark := rfl
@[simp] theorem State.sawWorks_setTime (s : State) (x : Time) : (s.setTime x).sawWorks = s.sawWorks := rfl
@[simp] theorem State.restoreThreshold_setTime (s : State) (x : Time) :
    (s.setTime x).restoreThreshold = s.restoreThreshold := rfl
@[simp] theorem State.threshold_setTime (s : State) (x : Time) (g : Stage) :
    (s.setTime x).threshold g = s.threshold g := rfl
@[simp] theorem State.demandLevel_setTime (s : State) (x : Time) (k : Circ) :
    (s.setTime x).demandLevel k = s.demandLevel k := rfl
@[simp] theorem State.demandType_setTime (s : State) (x : Time) (k : Circ) :
    (s.setTime x).demandType k = s.demandType k := rfl
@[simp] theorem State.rating_setTime (s : State) (x : Time) (k : Circ) : (s.setTime x).rating k = s.rating k := rfl
@[simp] theorem State.classOf_setTime (s : State) (x : Time) (k : Circ) : (s.setTime x).classOf k = s.classOf k := rfl
@[simp] theorem headroom_setTime (s : State) (x : Time) (c : OwnClaim) : headroom (s.setTime x) c = headroom s c := rfl
@[simp] theorem mayAdvance_setTime (s : State) (x : Time) (c : OwnClaim) :
    mayAdvance (s.setTime x) c = mayAdvance s c := rfl
@[simp] theorem composedStatus_setTime (s : State) (x : Time) : composedStatus (s.setTime x) = composedStatus s := rfl
@[simp] theorem stage1Holds_setTime (s : State) (x : Time) : stage1Holds (s.setTime x) = stage1Holds s := rfl
@[simp] theorem stage2Holds_setTime (s : State) (x : Time) : stage2Holds (s.setTime x) = stage2Holds s := rfl
@[simp] theorem restoreCounts_setTime (s : State) (x : Time) : restoreCounts (s.setTime x) = restoreCounts s := rfl
@[simp] theorem anyShed_setTime (s : State) (x : Time) : anyShed (s.setTime x) = anyShed s := rfl
@[simp] theorem chooseShed_setTime (s : State) (x : Time) (g : Stage) :
    chooseShed g (s.setTime x) = chooseShed g s := rfl

/-! ### Time and handing -/

@[simp] theorem handRequest_setTime (r : Request) (s : State) (x : Time) :
    handRequest r (s.setTime x) = (handRequest r s).setTime x := rfl

@[simp] theorem handAnswer_setTime (a : Answer) (s : State) (x : Time) :
    handAnswer a (s.setTime x) = (handAnswer a s).setTime x := rfl

/-! ### The Telegram Controller -/

@[simp] theorem joinCopy_setTime (c : Copy) (s : State) (x : Time) :
    joinCopy c (s.setTime x) = (joinCopy c s).setTime x := rfl

@[simp] theorem settleTx_setTime (s : State) (x : Time) :
    settleTx (s.setTime x) = (settleTx s).setTime x := rfl

@[simp] theorem endClaimSchedule_setTime (tag : Circ) (s : State) (x : Time) :
    endClaimSchedule tag (s.setTime x) = (endClaimSchedule tag s).setTime x := rfl

@[simp] theorem endReleaseSchedule_setTime (tag : Circ) (s : State) (x : Time) :
    endReleaseSchedule tag (s.setTime x) = (endReleaseSchedule tag s).setTime x := rfl

@[simp] theorem startClaimSchedule_setTime (tag : Circ) (s : State) (x : Time) :
    startClaimSchedule tag (s.setTime x) = (startClaimSchedule tag s).setTime x := rfl

@[simp] theorem startReleaseSchedule_setTime (tag : Circ) (s : State) (x : Time) :
    startReleaseSchedule tag (s.setTime x) = (startReleaseSchedule tag s).setTime x := by
  simp only [startReleaseSchedule]
  (repeat' split) <;> simp_all

@[simp] theorem composeStatus_setTime (s : State) (x : Time) :
    composeStatus (s.setTime x) = (composeStatus s).setTime x := rfl

@[simp] theorem countDuplicate_setTime (s : State) (x : Time) :
    countDuplicate (s.setTime x) = (countDuplicate s).setTime x := rfl

@[simp] theorem countRecall_setTime (s : State) (x : Time) :
    countRecall (s.setTime x) = (countRecall s).setTime x := rfl

@[simp] theorem countStatus_setTime (s : State) (x : Time) :
    countStatus (s.setTime x) = (countStatus s).setTime x := by
  simp only [countStatus]
  (repeat' split) <;> simp_all

@[simp] theorem countClaimCopy_setTime (tag : Circ) (s : State) (x : Time) :
    countClaimCopy tag (s.setTime x) = (countClaimCopy tag s).setTime x := by
  unfold countClaimCopy
  simp
  split <;> (try split) <;> simp

@[simp] theorem countReleaseCopy_setTime (tag : Circ) (s : State) (x : Time) :
    countReleaseCopy tag (s.setTime x) = (countReleaseCopy tag s).setTime x := by
  unfold countReleaseCopy
  simp
  split <;> (try split) <;> simp

@[simp] theorem telegramTick_setTime (s : State) (x : Time) :
    telegramTick (s.setTime x) = (telegramTick s).setTime x := by
  simp only [telegramTick, Circ.all, List.foldl]
  by_cases h : s.mc.mode.online = true <;> simp [h]

/-! ### The Neighbour Table -/

@[simp] theorem neighbourTick_setTime (s : State) (x : Time) :
    neighbourTick (s.setTime x) = (neighbourTick s).setTime x := rfl

/-! ### The Admission Controller -/

@[simp] theorem setOwn_setTime (own : List OwnClaim) (s : State) (x : Time) :
    setOwn own (s.setTime x) = (setOwn own s).setTime x := rfl

@[simp] theorem setHeard_setTime (heard : List HeardEntry) (s : State) (x : Time) :
    setHeard heard (s.setTime x) = (setHeard heard s).setTime x := rfl

@[simp] theorem changeOwn_setTime (k : Circ) (f : OwnClaim → OwnClaim) (s : State) (x : Time) :
    changeOwn k f (s.setTime x) = (changeOwn k f s).setTime x := rfl

@[simp] theorem removeOwn_setTime (k : Circ) (s : State) (x : Time) :
    removeOwn k (s.setTime x) = (removeOwn k s).setTime x := rfl

@[simp] theorem deferClaim_setTime (c : OwnClaim) (s : State) (x : Time) :
    deferClaim c (s.setTime x) = (deferClaim c s).setTime x := by
  simp only [deferClaim]
  (repeat' split) <;> simp_all

@[simp] theorem admitClaim_setTime (c : OwnClaim) (s : State) (x : Time) :
    admitClaim c (s.setTime x) = (admitClaim c s).setTime x := rfl

@[simp] theorem settleOut_setTime (k : Circ) (s : State) (x : Time) :
    settleOut k (s.setTime x) = (settleOut k s).setTime x := rfl

@[simp] theorem settleOutAll_setTime (l : List OwnClaim) (s : State) (x : Time) :
    settleOutAll l (s.setTime x) = (settleOutAll l s).setTime x := by
  induction l generalizing s with
  | nil => simp [settleOutAll]
  | cons c rest ih => simp [settleOutAll, ih]

@[simp] theorem applyVerdicts_setTime (l : List (OwnClaim × Bool)) (s : State) (x : Time) :
    applyVerdicts l (s.setTime x) = (applyVerdicts l s).setTime x := by
  induction l generalizing s with
  | nil => simp [applyVerdicts]
  | cons y rest ih => obtain ⟨c, _ | _⟩ := y <;> simp [applyVerdicts, ih]

@[simp] theorem decideGroup_setTime (s : State) (x : Time) :
    decideGroup (s.setTime x) = (decideGroup s).setTime x := by
  by_cases h : s.mc.mode = .run <;> simp [decideGroup, h]

@[simp] theorem enterHoldoff_setTime (c : OwnClaim) (s : State) (x : Time) :
    enterHoldoff c (s.setTime x) = (enterHoldoff c s).setTime x := rfl

@[simp] theorem advanceQueue_setTime (fuel : Nat) (s : State) (x : Time) :
    advanceQueue fuel (s.setTime x) = (advanceQueue fuel s).setTime x := by
  induction fuel generalizing s with
  | zero => simp [advanceQueue]
  | succ n ih =>
    unfold advanceQueue
    simp only [State.setTime_adm, mayAdvance_setTime, enterHoldoff_setTime, ih]
    (repeat' split) <;> rfl

@[simp] theorem countHolds_setTime (s : State) (x : Time) :
    countHolds (s.setTime x) = (countHolds s).setTime x := rfl

@[simp] theorem countSettles_setTime (s : State) (x : Time) :
    countSettles (s.setTime x) = (countSettles s).setTime x := by
  unfold countSettles
  simp

@[simp] theorem countBackoffs_setTime (s : State) (x : Time) :
    countBackoffs (s.setTime x) = (countBackoffs s).setTime x := rfl

@[simp] theorem countHoldoffs_setTime (s : State) (x : Time) :
    countHoldoffs (s.setTime x) = (countHoldoffs s).setTime x := by
  unfold countHoldoffs
  simp

@[simp] theorem admissionTick_setTime (s : State) (x : Time) :
    admissionTick (s.setTime x) = (admissionTick s).setTime x := by
  unfold admissionTick
  simp

/-! ### The circuit table and the Saw Drive -/

@[simp] theorem setCircuitState_setTime (k : Circ) (st : CircuitState) (s : State) (x : Time) :
    setCircuitState k st (s.setTime x) = (setCircuitState k st s).setTime x := rfl

@[simp] theorem setMark_setTime (k : Circ) (m : Bool) (s : State) (x : Time) :
    setMark k m (s.setTime x) = (setMark k m s).setTime x := rfl

@[simp] theorem toWaiting_setTime (k : Circ) (restore : Bool) (s : State) (x : Time) :
    toWaiting k restore (s.setTime x) = (toWaiting k restore s).setTime x := rfl

@[simp] theorem toOffWithdrawing_setTime (k : Circ) (s : State) (x : Time) :
    toOffWithdrawing k (s.setTime x) = (toOffWithdrawing k s).setTime x := rfl

@[simp] theorem raiseCircuit4_setTime (s : State) (x : Time) :
    raiseCircuit4 (s.setTime x) = (raiseCircuit4 s).setTime x := by
  simp only [raiseCircuit4]
  (repeat' split) <;> simp_all

@[simp] theorem withdrawCircuit4_setTime (s : State) (x : Time) :
    withdrawCircuit4 (s.setTime x) = (withdrawCircuit4 s).setTime x := by
  simp only [withdrawCircuit4]
  (repeat' split) <;> simp_all

@[simp] theorem enterIdle_setTime (s : State) (x : Time) :
    enterIdle (s.setTime x) = (enterIdle s).setTime x := rfl

@[simp] theorem enterFault_setTime (code : FaultCode) (s : State) (x : Time) :
    enterFault code (s.setTime x) = (enterFault code s).setTime x := rfl

@[simp] theorem enterStopping_setTime (s : State) (x : Time) :
    enterStopping (s.setTime x) = (enterStopping s).setTime x := by
  simp only [enterStopping]
  (repeat' split) <;> simp_all

@[simp] theorem enterSpinup_setTime (newPass : Bool) (s : State) (x : Time) :
    enterSpinup newPass (s.setTime x) = (enterSpinup newPass s).setTime x := rfl

@[simp] theorem enterReady_setTime (s : State) (x : Time) :
    enterReady (s.setTime x) = (enterReady s).setTime x := rfl

@[simp] theorem enterReturning_setTime (s : State) (x : Time) :
    enterReturning (s.setTime x) = (enterReturning s).setTime x := by
  simp only [enterReturning]
  (repeat' split) <;> simp_all

@[simp] theorem endBackoff_setTime (s : State) (x : Time) :
    endBackoff (s.setTime x) = (endBackoff s).setTime x := by
  simp only [endBackoff]
  (repeat' split) <;> simp_all

@[simp] theorem clutchAsserted_setTime (s : State) (x : Time) :
    clutchAsserted (s.setTime x) = (clutchAsserted s).setTime x := by
  simp only [clutchAsserted]
  (repeat' split) <;> simp_all

@[simp] theorem clutchDropped_setTime (s : State) (x : Time) :
    clutchDropped (s.setTime x) = (clutchDropped s).setTime x := by
  simp only [clutchDropped]
  (repeat' split) <;> simp_all

@[simp] theorem returnAsserted_setTime (s : State) (x : Time) :
    returnAsserted (s.setTime x) = (returnAsserted s).setTime x := by
  simp only [returnAsserted]
  (repeat' split) <;> simp_all

@[simp] theorem forwardAsserted_setTime (s : State) (x : Time) :
    forwardAsserted (s.setTime x) = (forwardAsserted s).setTime x := by
  simp only [forwardAsserted]
  (repeat' split) <;> simp_all

@[simp] theorem stopPressed_setTime (s : State) (x : Time) :
    stopPressed (s.setTime x) = (stopPressed s).setTime x := by
  simp only [stopPressed]
  (repeat' split) <;> simp_all

@[simp] theorem startPressed_setTime (s : State) (x : Time) :
    startPressed (s.setTime x) = (startPressed s).setTime x := by
  have refused : raiseRefused (s.setTime x) = raiseRefused s := rfl
  simp only [startPressed, State.setTime_saw, refused]
  (repeat' split) <;> simp

@[simp] theorem sampleSaw_setTime (p : Pins) (s : State) (x : Time) :
    sampleSaw p (s.setTime x) = (sampleSaw p s).setTime x := rfl

theorem onEvent_setTime (b : Bool) (f : State → State) (s : State) (x : Time)
    (h : ∀ t : State, f (t.setTime x) = (f t).setTime x) :
    onEvent b f (s.setTime x) = (onEvent b f s).setTime x := by
  cases b
  · rfl
  · exact h s

@[simp] theorem sawInputs_setTime (p : Pins) (s : State) (x : Time) :
    sawInputs p (s.setTime x) = (sawInputs p s).setTime x := by
  simp [sawInputs, onEvent_setTime]

@[simp] theorem testIdleClutch_setTime (s : State) (x : Time) :
    testIdleClutch (s.setTime x) = (testIdleClutch s).setTime x := by
  simp only [testIdleClutch]
  (repeat' split) <;> simp_all

@[simp] theorem countEngage_setTime (r : Nat) (s : State) (x : Time) :
    countEngage r (s.setTime x) = (countEngage r s).setTime x := by
  simp only [countEngage]
  (repeat' split) <;> simp_all

@[simp] theorem countSpinup_setTime (r : Nat) (s : State) (x : Time) :
    countSpinup r (s.setTime x) = (countSpinup r s).setTime x := by
  simp only [countSpinup]
  (repeat' split) <;> simp_all

@[simp] theorem countReady_setTime (r : Nat) (s : State) (x : Time) :
    countReady r (s.setTime x) = (countReady r s).setTime x := by
  simp only [countReady]
  (repeat' split) <;> simp_all

@[simp] theorem countRelease_setTime (r : Nat) (s : State) (x : Time) :
    countRelease r (s.setTime x) = (countRelease r s).setTime x := by
  unfold countRelease
  (repeat' split) <;> rfl

@[simp] theorem countSawTimer_setTime (s : State) (x : Time) :
    countSawTimer (s.setTime x) = (countSawTimer s).setTime x := by
  simp only [countSawTimer]
  (repeat' split) <;> simp_all

@[simp] theorem sawTick_setTime (p : Pins) (s : State) (x : Time) :
    sawTick p (s.setTime x) = (sawTick p s).setTime x := by
  simp only [sawTick]
  (repeat' split) <;> simp_all

@[simp] theorem sawRefused_setTime (s : State) (x : Time) :
    sawRefused (s.setTime x) = (sawRefused s).setTime x := by
  simp only [sawRefused]
  (repeat' split) <;> simp_all

@[simp] theorem sawShed_setTime (s : State) (x : Time) :
    sawShed (s.setTime x) = (sawShed s).setTime x := by
  simp only [sawShed]
  (repeat' split) <;> simp_all

/-! ### The Circuit Controller -/

@[simp] theorem levelAsserted_setTime (k : Circ) (s : State) (x : Time) :
    levelAsserted k (s.setTime x) = (levelAsserted k s).setTime x := by
  simp only [levelAsserted]
  (repeat' split) <;> simp_all

@[simp] theorem levelDropped_setTime (k : Circ) (s : State) (x : Time) :
    levelDropped k (s.setTime x) = (levelDropped k s).setTime x := by
  simp only [levelDropped]
  (repeat' split) <;> simp_all

@[simp] theorem edgePressed_setTime (k : Circ) (s : State) (x : Time) :
    edgePressed k (s.setTime x) = (edgePressed k s).setTime x := by
  simp only [edgePressed]
  (repeat' split) <;> simp_all

@[simp] theorem demandEvent_setTime (k : Circ) (asserted : Bool) (s : State) (x : Time) :
    demandEvent k asserted (s.setTime x) = (demandEvent k asserted s).setTime x := by
  simp only [demandEvent]
  (repeat' split) <;> simp_all

@[simp] theorem sampleDemand_setTime (p : Pins) (s : State) (x : Time) :
    sampleDemand p (s.setTime x) = (sampleDemand p s).setTime x := rfl

@[simp] theorem takeDemand_setTime (k : Circ) (d : Debouncer) (v : Bool) (s : State) (x : Time) :
    takeDemand k d v (s.setTime x) = (takeDemand k d v s).setTime x := by
  simp only [takeDemand]
  (repeat' split) <;> simp_all

@[simp] theorem demandStep_setTime (p : Pins) (s : State) (x : Time) :
    demandStep p (s.setTime x) = (demandStep p s).setTime x := by
  unfold demandStep
  simp

@[simp] theorem pauseOut_setTime (k : Circ) (s : State) (x : Time) :
    pauseOut k (s.setTime x) = (pauseOut k s).setTime x := by
  simp only [pauseOut]
  (repeat' split) <;> simp_all

@[simp] theorem countPause_setTime (k : Circ) (s : State) (x : Time) :
    countPause k (s.setTime x) = (countPause k s).setTime x := by
  unfold countPause
  simp
  split <;> (try split) <;> simp

@[simp] theorem pauseStep_setTime (s : State) (x : Time) :
    pauseStep (s.setTime x) = (pauseStep s).setTime x := by
  simp only [pauseStep, Circ.switched, List.foldl, State.setTime_circ]
  split <;> simp

@[simp] theorem shedState_setTime (k : Circ) (s : State) (x : Time) :
    shedState k (s.setTime x) = (shedState k s).setTime x := by
  simp only [shedState]
  (repeat' split) <;> simp_all

@[simp] theorem shedOne_setTime (stage : Stage) (s : State) (x : Time) :
    shedOne stage (s.setTime x) = (shedOne stage s).setTime x := by
  simp only [shedOne]
  (repeat' split) <;> simp_all

@[simp] theorem setTimer_setTime (stage : Stage) (n : Nat) (s : State) (x : Time) :
    setTimer stage n (s.setTime x) = (setTimer stage n s).setTime x := by
  unfold setTimer
  (repeat' split) <;> rfl

@[simp] theorem stageStep_setTime (stage : Stage) (s : State) (x : Time) :
    stageStep stage (s.setTime x) = (stageStep stage s).setTime x := by
  simp only [stageStep]
  (repeat' split) <;> simp_all

@[simp] theorem restoreCircuit_setTime (k : Circ) (s : State) (x : Time) :
    restoreCircuit (s.setTime x) k = (restoreCircuit s k).setTime x := by
  simp only [restoreCircuit]
  (repeat' split) <;> simp_all

@[simp] theorem restoreFold_setTime (order : List Circ) (s : State) (x : Time) :
    order.foldl restoreCircuit (s.setTime x) = (order.foldl restoreCircuit s).setTime x := by
  induction order generalizing s with
  | nil => simp
  | cons k rest ih => rw [List.foldl_cons, restoreCircuit_setTime, ih, List.foldl_cons]

@[simp] theorem restoreAll_setTime (s : State) (x : Time) :
    restoreAll (s.setTime x) = (restoreAll s).setTime x := by
  unfold restoreAll
  simp

@[simp] theorem restoreStep_setTime (s : State) (x : Time) :
    restoreStep (s.setTime x) = (restoreStep s).setTime x := by
  simp only [restoreStep]
  (repeat' split) <;> simp_all

@[simp] theorem circuitTick_setTime (p : Pins) (s : State) (x : Time) :
    circuitTick p (s.setTime x) = (circuitTick p s).setTime x := by
  unfold circuitTick
  simp

/-! ### Gate Trim and the Mode Controller -/

@[simp] theorem sheddingRaise_setTime (s : State) (x : Time) :
    sheddingRaise (s.setTime x) = (sheddingRaise s).setTime x := by
  simp only [sheddingRaise]
  (repeat' split) <;> simp_all

@[simp] theorem gateTick_setTime (p : Pins) (s : State) (x : Time) :
    gateTick p (s.setTime x) = (gateTick p s).setTime x := by
  unfold gateTick
  simp

@[simp] theorem enterStagger_setTime (s : State) (x : Time) :
    enterStagger (s.setTime x) = (enterStagger s).setTime x := rfl

@[simp] theorem enterRun_setTime (s : State) (x : Time) :
    enterRun (s.setTime x) = (enterRun s).setTime x := rfl

@[simp] theorem recallTimeout_setTime (s : State) (x : Time) :
    recallTimeout (s.setTime x) = (recallTimeout s).setTime x := rfl

@[simp] theorem countRecallWait_setTime (s : State) (x : Time) :
    countRecallWait (s.setTime x) = (countRecallWait s).setTime x := by
  unfold countRecallWait
  simp
  split <;> (try split) <;> simp

@[simp] theorem countStagger_setTime (s : State) (x : Time) :
    countStagger (s.setTime x) = (countStagger s).setTime x := by
  unfold countStagger
  simp
  split <;> (try split) <;> simp

@[simp] theorem countDark_setTime (s : State) (x : Time) :
    countDark (s.setTime x) = (countDark s).setTime x := by
  by_cases a : s.mc.darkDuration ≤ s.cfg.tdm <;> by_cases b : s.cfg.tdm < satInc s.mc.darkDuration <;>
    simp [countDark, a, b]

@[simp] theorem modeTick_setTime (s : State) (x : Time) :
    modeTick (s.setTime x) = (modeTick s).setTime x := by
  simp only [modeTick]
  (repeat' split) <;> simp_all

/-! ### The tick -/

@[simp] theorem blockTick_setTime (p : Pins) (b : TickBlock) (s : State) (x : Time) :
    blockTick p b (s.setTime x) = (blockTick p b s).setTime x := by
  simp only [blockTick]
  (repeat' split) <;> simp_all

end Sys2Proof.Machine
end

