-- ==== Sys2Proof/Tests/Slice0.lean ====
section
/-! SUPPORT. Our own tests: what WellFormed refuses, the spec's own examples on single operations and steps, and, for
every statement with hypotheses, a concrete state that meets them, each clause at a boundary value of its range. -/

namespace Sys2Proof.Tests

open Sys2Proof.Machine

/-! ### States for the tests -/

/-- No input asserted. -/
def quietPins : Pins := ⟨false, false, false, false, false, false, false, false, false, false, false⟩

/-- Station 4 in RUN, as reset otherwise. -/
def station : State :=
  { State.reset with
    mc := { State.reset.mc with mode := .run }
    loader := { State.reset.loader with strapLatch := 4 } }

/-- The same with a saw fitted. -/
def sawStation : State := { station with cfg := { station.cfg with sawFitted := true } }

/-- A Line Record. -/
def lineOf (cls : CycleClass) (lock : Lock) (f ms : Nat) : LineRecord where
  cycleCount := 1
  cls := cls
  period := some 20000
  freq := some f
  filtered := f
  ms := some ms
  vrms := some 230
  lock := lock

/-- An own claim of circuit 2. -/
def claim2 (st : ClaimState) : OwnClaim where
  circuit := .c2
  amount := 1500
  cls := 2
  effective := 2
  state := st
  retries := 0
  restore := false

/-- A neighbour record. -/
def neighbourOf (n age : Nat) (c : Condition) : Neighbour where
  station := n
  flags := ⟨false, false, false, false, false, false, false⟩
  ballast := 500
  capacity := 2000
  setPoint := none
  age := age
  condition := c

/-- A STATUS heard. -/
def statusOf (n : Nat) : HeardStatus where
  sender := n
  flags := ⟨false, false, false, false, false, false, false⟩
  ballast := 500
  capacity := 2000
  setPoint := none

/-- Sixteen neighbours of one condition. -/
def fullTable (c : Condition) : List Neighbour := (List.range 16).map fun i => neighbourOf (i + 5) (i + 1) c

/-- Circuit `k` in a state. -/
def withCircuit (k : Circ) (c : CircuitState) (s : State) : State :=
  { s with circ := { s.circ with active := true, table := s.circ.table.set k ⟨c, false⟩ } }

/-- The state a command answers with. -/
def after (c : Instr) (s : State) : State :=
  match exec c s with
  | .next t => t
  | _ => s

/-! ### What WellFormed refuses -/

theorem test_refuses_a_block_named_twice :
    (Instr.stationTick [.saw, .mode, .saw] quietPins).wellFormed = false := by decide
theorem test_refuses_stale_station_0 : (Instr.neighbourStale 0).wellFormed = false := by decide
theorem test_refuses_aged_out_station_32 : (Instr.neighbourAgedOut 32).wellFormed = false := by decide
theorem test_refuses_hold_of_station_32 : (Instr.holdExpiry 32 0).wellFormed = false := by decide
theorem test_refuses_hold_of_tag_5 : (Instr.holdExpiry 3 5).wellFormed = false := by decide
theorem test_refuses_a_telegram_cut_short : (Instr.telegramArrival 0 [1, 3, 2, 1, 0, 0]).wellFormed = false := by decide
theorem test_refuses_an_abandoned_length_of_24 : (Instr.telegramAbandoned 0 [1, 1, 2, 24]).wellFormed = false := by
  decide
theorem test_refuses_bits_without_delimiter : (Instr.delimiterFound 0 (List.replicate 16 true)).wellFormed = false := by
  decide
theorem test_refuses_a_record_of_63_bytes :
    (Instr.attemptComplete 0 (List.replicate 63 0)).wellFormed = false := by decide
theorem test_refuses_a_known_request : (Instr.unknownRequest 0 9).wellFormed = false := by decide
theorem test_accepts_the_delimiter : (Instr.delimiterFound 0 (true :: delimiterBits)).wellFormed = true := by decide

/-! ### The spec's examples -/

/-- R45's check of an implementation. -/
theorem test_crc_of_nine_digits : crc16 [0x31, 0x32, 0x33, 0x34, 0x35, 0x36, 0x37, 0x38, 0x39] = 0x29B1 := by decide +kernel
/-- R8's example. -/
theorem test_measures_of_r8 : meanSquare 5300000 100 = 53000 ∧ isqrt 53000 = 230 := by decide +kernel
/-- R10's example. -/
theorem test_frequency_of_r10 : frequency 19952 = 50120 := by decide
/-- R11's two examples. -/
theorem test_filter_of_r11 :
    filterFrequency 2 .locked 50040 50120 = 50060 ∧ filterFrequency 2 .doubtful 50105 50080 = 50099 := by decide
/-- R29's example: A = 20,840 and D = 231. -/
theorem test_demand_of_r29 :
    integrate 6 20480 60 = 20840 ∧ formDemand (proportional 40 60) (integralTerm 20840) = 231 := by decide
/-- R33's example. -/
theorem test_watts_of_r33 :
    absorbedWatts { defaultConfig with pb := 3000 } 231 52900 = 693 ∧
      capacityWatts { defaultConfig with pb := 3000 } 52900 = 3000 := by decide
/-- R33's largest capacity. -/
theorem test_largest_capacity : capacityWatts { defaultConfig with pb := 6000, vn := 200 } 261121 = 39168 := by decide
/-- R145's example: m = 300 gives q = 750. -/
theorem test_feed_fraction_of_r145 :
    sawMargin defaultConfig 50000 49700 = 300 ∧ feedFraction defaultConfig 300 = 750 := by decide
/-- The delimiter of R44 with the bit order of R43. -/
theorem test_delimiter_bits : wireBits [0xC5, 0x3A] = delimiterBits := by decide
/-- R187's CLEAR reply. -/
theorem test_clear_reply : replyFrame 0x08 [] = [0xA5, 0x08, 0x00, 0x53] := by decide
/-- R187: a NEIGHBOURS reply with 16 records is 193 bytes and takes about 201 ms. -/
theorem test_longest_neighbours_reply :
    (replyFrame 3 (neighboursRecord { station with table := { records := fullTable .fresh, overflow := 0 } })).length =
        193 ∧
      panelTime 193 = 201042 := by decide +kernel
/-- The gap of R51 at stations 1 and 31. -/
theorem test_quiet_gaps : quietGap 1 = 10000 ∧ quietGap 31 = 70000 := by decide

/-! ### Single steps -/

theorem test_power_on_is_taken_from_the_front :
    step { State.reset with pending := [.powerOn, .powerLost] } = .next { State.reset with pending := [.powerLost] } :=
  rfl
theorem test_an_empty_queue_idles : step State.reset = .next State.reset := rfl
/-- R3: 7,999 µs is chatter, 8,000 µs a cycle end. -/
theorem test_chatter_boundary :
    (after (.zeroCrossing 7999) station).meter.chatter = 1 ∧
      (after (.zeroCrossing 8000) station).meter.record.cls = .badRange := by decide +kernel
/-- R12: Na good cycles acquire. -/
theorem test_lock_is_acquired :
    (lockStep 5 3 true ⟨.acquiring, 4, 0⟩).lock = .locked ∧ (lockStep 5 3 true ⟨.acquiring, 3, 0⟩).lock = .acquiring := by
  decide
/-- R13: Nl bad cycles lose. -/
theorem test_lock_is_lost :
    (lockStep 5 3 false ⟨.doubtful, 0, 2⟩).lock = .lost ∧ (lockStep 5 1 false ⟨.locked, 0, 0⟩).lock = .lost := by decide
/-- R180: station 0 ends START in HALTED; another number begins the autoload. -/
theorem test_straps :
    (after (.strapLatch 0) State.reset).mc.mode = .halted ∧
      (after (.strapLatch 4) State.reset).loader.phase = .attempt := by decide
/-- R182: a record of zeros has the wrong tag. -/
theorem test_wrong_tag :
    (after (.attemptComplete 0 (List.replicate 64 0)) (after (.strapLatch 4) State.reset)).loader.status = .wrongTag := by
  decide +kernel
/-- R183, the linked fields in their order (section 10.3.1): Dst is held between Dsl + 50 and U1. -/
theorem test_linked_clamps :
    let c := clampLinked { defaultConfig with u1 := 450, u2 := 300, dsl := 880, dst := 1200 }
    (c.u1, c.u2, c.dsl, c.dst) = (450, 550, 400, 450) := by decide
/-- R190: HALTED raises ATTENTION. -/
theorem test_attention_in_halted : (after (.strapLatch 0) State.reset).attention = true := by decide
/-- R186: a second byte during a reply is an overrun. -/
theorem test_overrun : (after (.counters 0) (after (.saw 0) station)).panel.overruns = 1 := by decide +kernel

/-- R181: the bus of an attempt whose third address byte is not acknowledged. -/
theorem test_bus_of_a_failed_attempt :
    (after (.addressNotAcknowledged 700 .deviceForRead) (after (.strapLatch 4) State.reset)).loader.bus =
      [.start, .sent 0xA0 true, .sent 0x00 true, .repeatedStart, .sent 0xA1 false, .stop] := by decide +kernel

/-- R163, R169: a STATUS composed in STAGGER is not evaluated, though Gate Trim is active when its event is taken. -/
theorem test_a_stagger_composition_is_not_evaluated :
    let s := { station with
      gate := { station.gate with active := true, high := 5 }
      handed := { station.handed with evaluations := [⟨2000, 3000, .stagger⟩] } }
    (after .gateEvaluation s).gate = s.gate ∧ (after .gateEvaluation s).handed.evaluations = [] := by decide +kernel

/-! ### Witnesses: states that meet the hypotheses of the statements -/

theorem witness_StepTakesTheFrontCommand :
    ({ State.reset with pending := [.restore] } : State).pending = .restore :: [] ∧ State.reset.pending = [] := by decide

theorem witness_ExecKeepsTheQueue : exec .powerOn State.reset = .next State.reset := rfl

theorem witness_CommandsCompleteAndNeedPower :
    let s := { State.reset with powered := false }
    s.powered = false ∧ Instr.restore ≠ .powerOn ∧ Instr.restore ≠ .powerLost ∧ exec .restore s = .next s :=
  ⟨rfl, by decide, by decide, rfl⟩

theorem witness_TickFallsOnTheGrid :
    let s := { station with time := { now := 39999, lastTick := 20000, lastSample := 39800, tickWaiting := [] } }
    s.powered = true ∧ GridOk s.time ∧ s.time.tickWaiting = [] ∧ s.time.now < s.time.lastTick + 20000 :=
  ⟨rfl, ⟨by decide, by decide, by decide, by decide⟩, rfl, by decide⟩

theorem witness_TickFallsOnTheGrid_frame (b : TickBlock) :
    let s := { station with time := { station.time with tickWaiting := [b] } }
    s.powered = true ∧ s.time.tickWaiting = [b] := ⟨rfl, rfl⟩

theorem witness_InputsAreDebounced :
    let d : Debouncer := ⟨false, 0⟩
    d.level ≠ true ∧ d.run = 0 ∧ d.level = false ∧
      ∀ b ∈ [TickBlock.circuit, .saw, .gate],
        ({ station with time := { station.time with tickWaiting := [b] } } : State).time.tickWaiting = [b] := by
  exact ⟨by decide, rfl, rfl, fun _ _ => rfl⟩

/-- A settle and a backoff that end, two holdoffs that end, and a head of the queue that fills Lc to the last watt. -/
theorem witness_AdmissionTickWorksInOrder :
    let s := { station with
      time := { station.time with tickWaiting := [.admission] }
      cfg := { station.cfg with lc := 3000 }
      adm :=
        { station.adm with
          own :=
            [{ claim2 (.settling 1) with circuit := .c0 }, claim2 (.holdoff 1),
              { claim2 (.holdoff 1) with circuit := .c1, restore := true }, { claim2 .queued with circuit := .c3 },
              { claim2 (.deferred 1) with circuit := .c4 }]
          heard := [⟨7, 1, 900, 2, 1⟩, ⟨9, 2, 900, 2, 2⟩]
          deferrals := 65535 } }
    (s.powered = true ∧ s.time.tickWaiting = [.admission] ∧ (s.adm.own.map OwnClaim.circuit).Nodup) ∧
      countersOk s ∧ ((after (.stationTick [.admission] quietPins) s).adm.own.map OwnClaim.state) =
        [.deferred 50, .deferred 50, .holdoff 25, .holdoff 25] :=
  ⟨by decide, by unfold countersOk; decide, by decide +kernel⟩

/-- The shortest period and the longest silence. -/
theorem witness_CycleEndsOfTheMeter :
    let s := { station with meter := { station.meter with silence := 40000 } }
    station.powered = true ∧ station.mc.mode ≠ .start ∧ 8000 ≤ min 65535 (0 + 8000) ∧ s.powered = true ∧
      s.mc.mode ≠ .start ∧ s.meter.silence ≤ 40000 := by decide

/-- A block that waits beside another, one that has taken the tick, and a command that names both. -/
theorem witness_TickFallsOnTheGrid_once :
    let s := { station with
      time := { station.time with tickWaiting := [.mode, .gate] }
      mc := { station.mc with mode := .stagger, stagger := some 2 } }
    let t := after (.stationTick [.mode] quietPins) s
    (s.powered = true ∧ s.time.tickWaiting ≠ [] ∧ .saw ∉ s.time.tickWaiting ∧ .mode ∈ s.time.tickWaiting ∧
      t.mc.stagger = some 1 ∧ t.time.tickWaiting = [.gate] ∧
      after (.stationTick [.mode] quietPins) t = t ∧
      after (.stationTick [.mode, .mode, .gate] quietPins) s = after (.stationTick [.gate] quietPins) t) ∧
      exec (.stationTick [.mode] quietPins) s = .next t := ⟨by decide +kernel, rfl⟩

theorem witness_ChatterSamplesAndLock :
    let idle := { station with mc := { station.mc with mode := .start } }
    let acquiring := { station with meter := { station.meter with lock := .acquiring, goodRun := 49 } }
    let doubtful := { station with meter := { station.meter with lock := .doubtful, badRun := 2 } }
    station.powered = true ∧ station.mc.mode ≠ .start ∧ station.meter.elapsed + 7999 < 8000 ∧
      acquiring.meter.goodRun + 1 = acquiring.cfg.na ∧ doubtful.meter.badRun + 1 = doubtful.cfg.nl ∧
      idle.powered = true ∧ idle.mc.mode = .start := by decide

/-- The two ends of the range of a GOOD period, and a cycle end that is not GOOD. -/
theorem witness_FrequencyOfAGoodCycle :
    let m := { station.meter with sumSq := 52900, samples := 1 }
    (m.cycleEnd defaultConfig (some 16000)).record.cls = .good ∧
      (m.cycleEnd defaultConfig (some 25000)).record.cls = .good ∧
      (m.cycleEnd defaultConfig (some 15999)).record.cls ≠ .good := by decide +kernel

theorem witness_MeanSquareAndVrms :
    let m := { station.meter with sumSq := 261121, samples := 1 }
    m.sumSq ≤ 261121 * m.samples ∧ station.meter.sumSq ≤ 261121 * station.meter.samples := by decide

/-- A record handed to the governor, at the highest frequency below overspeed. -/
theorem witness_GoverningAtAGoodCycleEnd :
    let r := lineOf .good .locked 51499 52900
    let s := { station with handed := { station.handed with governorRecords := [r] } }
    s.powered = true ∧ s.handed.governorRecords = r :: [] ∧ s.mc.mode.online = true ∧ r.lock.trusted = true ∧
      r.cls = .good ∧ r.ms = some 52900 ∧ s.cfg.adopt = false ∧ s.gov.setPoint = s.cfg.fcfg ∧
      r.filtered < s.cfg.fcfg + s.cfg.fover := by decide

theorem witness_GoverningAtOtherCycleEnds :
    (∀ r ∈ [lineOf .badRange .doubtful 50000 52900, lineOf .missing .doubtful 50000 0, lineOf .good .locked 51500 52900,
        lineOf .good .lost 50000 52900],
      ({ station with handed := { station.handed with governorRecords := [r] } } : State).handed.governorRecords = [r]) ∧
      station.powered = true ∧ station.mc.mode.online = true ∧ (lineOf .good .lost 50000 52900).lock.trusted = false ∧
      (lineOf .missing .doubtful 50000 0).lock.trusted = true ∧ (lineOf .missing .doubtful 50000 0).cls = .missing ∧
      (lineOf .badRange .doubtful 50000 52900).cls = .badRange ∧
      (lineOf .badRange .doubtful 50000 52900).ms = some 52900 ∧ (lineOf .good .locked 51500 52900).ms = some 52900 ∧
      station.cfg.adopt = false ∧ station.gov.setPoint = station.cfg.fcfg ∧
      station.cfg.fcfg + station.cfg.fover ≤ (lineOf .good .locked 51500 52900).filtered := ⟨fun _ _ => rfl, by decide⟩

theorem witness_BurstFiringConservesDemand :
    ({ station.gov with burst := 999 } : Governor).burst ≤ 999 ∧ ∀ d ∈ [0, 1000, 231], d ≤ 1000 := by decide

theorem witness_ClaimAndReleaseArriveAsSent :
    let s := { station with
      cfg := { station.cfg with hamlet := 254 }
      tele := { station.tele with rx := .header [] } }
    s.powered = true ∧ s.mc.mode.online = true ∧ s.tele.rx = .header [] ∧ s.cfg.hamlet ≤ 254 ∧ 1 ≤ 31 ∧ 31 ≤ 31 ∧
      31 ≠ s.loader.strapLatch := by decide

theorem witness_StatusArrivesAsComposed :
    let s := { station with tele := { station.tele with rx := .header [] } }
    let b : StatusBody :=
      { ballast := 65535, capacity := 65535, flags := ⟨true, true, false, false, false, false, false⟩,
        setPointField := some 12000, carriesRecall := true }
    s.powered = true ∧ s.mc.mode.online = true ∧ s.tele.rx = .header [] ∧ s.cfg.hamlet ≤ 254 ∧ 1 ≤ 1 ∧ 1 ≤ 31 ∧
      1 ≠ s.loader.strapLatch ∧ b.ballast < 65536 ∧ b.capacity < 65536 ∧ (∀ x ∈ b.setPointField, x < 65536) ∧
      b.flags.setPointPresent = b.setPointField.isSome := by decide

/-- The carrier ends in HEADER, in BODY while an entry waits, and in GAP. -/
theorem witness_CarrierAndReceiver :
    let hunting := { station with tele := { station.tele with carrier := true, rx := .hunt } }
    let collecting := { station with tele := { station.tele with carrier := true, rx := .header [0x01] } }
    let aligned := { station with tele := { station.tele with carrier := true, rx := .header [] } }
    let waiting := { station with
      tele := { station.tele with carrier := true, rx := .body [1, 3, 2, 1] [], tx := .carrierWait, list := [.release .c4] } }
    let counting := { station with tele := { station.tele with rx := .hunt, tx := .gap, list := [.release .c4] } }
    station.powered = true ∧ station.mc.mode.online = true ∧ station.tele.rx = .closed ∧
      (after (.carrierEnds 0) waiting).tele.crcFailures = 1 ∧ (after (.carrierEnds 0) waiting).tele.tx = .gap ∧
      counting.tele.rx = .hunt ∧ (after (.carrierEnds 7) counting).tele.gapTimer = 7 ∧
      hunting.tele.rx = .hunt ∧ hunting.tele.carrier = true ∧ collecting.tele.rx = .header [0x01] ∧
      collecting.tele.tx = .idle ∧ aligned.tele.rx = .header [] ∧ 24 < (25 : Byte).toNat := by decide

/-- One telegram for each step of the receive filter: a RELEASE with a bad check, of a foreign hamlet, of tag 5, of
station 32, bearing the own number, and good with tag 4. -/
theorem witness_CarrierAndReceiver_filter :
    let s := { station with tele := { station.tele with rx := .header [] } }
    let release := fun (h n tag : Byte) => [h, 3, n, 1] ++ [tag]
    let checked := fun (h n tag : Byte) =>
      let crc := (crc16 (release h n tag)).toNat
      s.tele.rx = .header [] ∧ s.mc.mode.online = true ∧ s.powered = true ∧
        crc = wordAt [byteOf (crc / 256), byteOf crc] 0 ∧
        (after (.telegramArrival 0 (release h n tag ++ [byteOf (crc / 256), byteOf crc])) s).tele.rx = .hunt
    s.cfg.hamlet = 1 ∧ s.loader.strapLatch = 4 ∧ (crc16 (release 1 2 4)).toNat ≠ wordAt [0, 0] 0 ∧
      checked 2 2 4 ∧ checked 1 2 5 ∧ checked 1 32 4 ∧ checked 1 4 4 ∧ checked 1 2 4 := by decide +kernel

theorem witness_TransmissionStartsAndCompletes :
    let gap := fun (own : List OwnClaim) (list : List Copy) (slot : Option StatusBody) => { station with
      adm := { station.adm with own := own }
      tele := { station.tele with tx := .gap, list := list, slot := slot } }
    let claiming := gap [claim2 (.holdoff 25)] [.claim .c2] none
    let settling := gap [claim2 (.settling 1)] [.claim .c2] none
    let releasing := gap [] [.release .c2] none
    let reporting := gap [] [] (some (composedStatus station))
    let sending := fun item : TxItem => { station with
      tele := { station.tele with
        tx := .sending ⟨item, [], 7⟩
        claimSchedules := station.tele.claimSchedules.set .c2 (some ⟨1, none⟩)
        releaseSchedules := station.tele.releaseSchedules.set .c3 (some ⟨2, none⟩) } }
    claiming.powered = true ∧ claiming.mc.mode.online = true ∧ claiming.tele.tx = .gap ∧
      claiming.tele.list = .claim .c2 :: [] ∧ claiming.adm.ownOf .c2 = some (claim2 (.holdoff 25)) ∧
      settling.adm.ownOf .c2 = some (claim2 (.settling 1)) ∧ releasing.tele.list = .release .c2 :: [] ∧
      reporting.tele.list = [] ∧ reporting.tele.slot = some (composedStatus station) ∧
      (sending .status).tele.tx = .sending ⟨.status, [], 7⟩ ∧
      (sending (.claim .c2 false)).tele.tx = .sending ⟨.claim .c2 false, [], 7⟩ ∧
      (sending (.claim .c2 true)).tele.claimSchedules.get .c2 = some ⟨1, none⟩ ∧
      (sending (.release .c3 true)).tele.releaseSchedules.get .c3 = some ⟨2, none⟩ := by decide

theorem witness_TelegramTimersExpire :
    let s := { station with
      tele := { station.tele with
        statusCount := 49, recallDuration := 1, duplicateTimer := 1, qualityCount := 7
        claimSchedules := station.tele.claimSchedules.set .c2 (some ⟨2, some 4⟩)
        releaseSchedules := station.tele.releaseSchedules.set .c3 (some ⟨1, some 4⟩) } }
    s.powered = true ∧ s.mc.mode.online = true ∧ s.tele.statusCount + 1 = s.cfg.ia ∧ s.tele.recallDuration = 1 ∧
      s.tele.duplicateTimer = 1 ∧ s.tele.claimSchedules.get .c2 = some ⟨2, some 4⟩ ∧
      s.tele.releaseSchedules.get .c3 = some ⟨1, some 4⟩ ∧ s.tele.quality = .good ∧
      s.tele.qualityCount + 1 = s.cfg.eq := by decide

/-- A tick that composes, with a copy due and one not yet due, and one in START, where only the timers that run in every
mode count. -/
theorem witness_TelegramTickCounts :
    let s := fun (m : Mode) => { station with
      time := { station.time with tickWaiting := [.telegram] }
      mc := { station.mc with mode := m }
      tele := { station.tele with
        statusCount := 49, recallDuration := 1, duplicateTimer := 1
        claimSchedules := station.tele.claimSchedules.set .c2 (some ⟨2, some 4⟩)
        releaseSchedules := station.tele.releaseSchedules.set .c3 (some ⟨1, some 3⟩) } }
    let t := fun m => (after (.stationTick [.telegram] quietPins) (s m)).tele
    (s .run).powered = true ∧ (s .run).time.tickWaiting = [.telegram] ∧ (s .run).tele.tx = .idle ∧
      (s .run).cfg.ia ≤ (s .run).tele.statusCount + 1 ∧ (t .run).list = [.claim .c2] ∧ (t .run).slot.isSome = true ∧
      (t .start).slot = none ∧ (t .start).recallDuration = 1 ∧ (t .start).duplicateTimer = 0 := by decide +kernel

theorem witness_NewNeighbourIsInsertedInOrder :
    let s := { station with
      table := { records := [neighbourOf 2 3 .fresh, neighbourOf 9 3 .fresh], overflow := 0 }
      handed := { station.handed with statuses := [statusOf 5] } }
    s.powered = true ∧ s.mc.mode.online = true ∧ s.handed.statuses = statusOf 5 :: [] ∧
      (s.table.records.Pairwise fun x y => x.station < y.station) ∧ (∀ n ∈ s.table.records, n.station ≠ 5) ∧
      s.table.records.length < 16 := by decide

theorem witness_KnownAndSurplusNeighbours :
    let s := fun records : List Neighbour => { station with
      table := { records := records, overflow := 0 }
      handed := { station.handed with statuses := [statusOf 2] } }
    let known := s [neighbourOf 2 3 .stale]
    let fresh := s (fullTable .fresh)
    let stale := s (fullTable .stale)
    known.powered = true ∧ known.mc.mode.online = true ∧ known.handed.statuses = statusOf 2 :: [] ∧
      (∃ n ∈ known.table.records, n.station = 2) ∧
      (∀ n ∈ fresh.table.records, n.station ≠ 2 ∧ n.condition = .fresh) ∧ 16 ≤ fresh.table.records.length ∧
      (∀ n ∈ stale.table.records, n.station ≠ 2) ∧ 16 ≤ stale.table.records.length ∧
      (∃ n ∈ stale.table.records, n.condition = .stale) := by decide

theorem witness_NeighboursAgeOut :
    let aging := { station with
      time := { station.time with tickWaiting := [.neighbour] }
      table := { records := [neighbourOf 2 149 .fresh, neighbourOf 5 399 .stale], overflow := 0 } }
    let removed := { station with handed := { station.handed with removed := [5] } }
    aging.powered = true ∧ aging.time.tickWaiting = [.neighbour] ∧
      aging.table.records = [] ++ neighbourOf 2 149 .fresh :: [neighbourOf 5 399 .stale] ∧
      (∀ m ∈ [] ++ [neighbourOf 5 399 .stale], m.station ≠ 2) ∧ 149 + 1 = 3 * aging.cfg.ia ∧
      aging.table.records = [neighbourOf 2 149 .fresh] ++ neighbourOf 5 399 .stale :: [] ∧
      (∀ m ∈ [neighbourOf 2 149 .fresh] ++ [], m.station ≠ 5) ∧ 399 + 1 = 8 * aging.cfg.ia ∧
      removed.handed.removed = 5 :: [] := by decide

theorem witness_SheddingDefersEveryHoldoffClaim :
    let s := { station with
      adm := { station.adm with own := [claim2 (.holdoff 1), { claim2 .queued with circuit := .c3 }] }
      handed := { station.handed with ownRaised := 1, hamletRaised := 1 } }
    (s.powered = true ∧ (s.adm.own.map OwnClaim.circuit).Nodup ∧
        (Instr.ownSheddingRaised = .ownSheddingRaised ∧ 0 < s.handed.ownRaised) ∧
        (Instr.hamletSheddingRaised = .hamletSheddingRaised ∧ 0 < s.handed.hamletRaised)) ∧
      countersOk s := ⟨by decide, by unfold countersOk; decide⟩

/-- The claim of station 7 with the earlier class; the same held already; a full list; a hold of 0 and a full list with
an own claim in HOLDOFF; a release; and the station in DARK. -/
theorem witness_HeardClaimsEnterAndLeave :
    let s := { station with handed := { station.handed with heard := [.claim 7 2 1 1500 1] } }
    let waiting := fun heard : List HeardEntry => { s with
      adm := { s.adm with own := [claim2 (.holdoff 25)], heard := heard } }
    let other := waiting [⟨7, 1, 900, 2, 80⟩, ⟨9, 2, 900, 2, 80⟩]
    let known := waiting (⟨7, 2, 900, 2, 80⟩ :: List.replicate 6 ⟨9, 2, 900, 2, 80⟩)
    let full := waiting (List.replicate 7 ⟨9, 2, 900, 2, 80⟩)
    let withoutHold := { known with handed := { station.handed with heard := [.claim 7 2 1 1500 0] } }
    let releasing := { station with handed := { station.handed with heard := [.release 7 2] } }
    let dark := { s with mc := { s.mc with mode := .dark } }
    (s.powered = true ∧ s.mc.mode.online = true ∧ s.handed.heard = .claim 7 2 1 1500 1 :: [] ∧
        (∀ c ∈ s.adm.own, c.inHoldoff = false) ∧ s.tele.settle = s.tele ∧
        (other.adm.own.map OwnClaim.circuit).Nodup ∧ 0 < 1 ∧
        (∀ h ∈ other.adm.heard, ¬(h.owner = 7 ∧ h.tag = 2)) ∧ other.adm.heard.length < 7 ∧
        (∃ h ∈ known.adm.heard, h.owner = 7 ∧ h.tag = 2) ∧ known.adm.heard.length = 7 ∧
        headroom known (claim2 (.holdoff 25)) = false ∧
        (∀ h ∈ full.adm.heard, ¬(h.owner = 7 ∧ h.tag = 2)) ∧ 7 ≤ full.adm.heard.length ∧
        (after .heardClaim full).adm.claimOverflow = 1 ∧ (after .heardClaim full).adm.own = full.adm.own ∧
        withoutHold.handed.heard = .claim 7 2 1 1500 0 :: [] ∧
        (after .heardClaim withoutHold).adm.own = withoutHold.adm.own ∧
        releasing.handed.heard = .release 7 2 :: [] ∧ dark.mc.mode.online = false) ∧
      countersOk other ∧ countersOk known :=
  ⟨by decide +kernel, by unfold countersOk; decide, by unfold countersOk; decide⟩

theorem witness_CreationAndWithdrawal :
    let asking := { station with handed := { station.handed with requests := [.create .c2 10000 2 false] } }
    let withdrawing := fun st => { station with
      adm := { station.adm with own := [claim2 st] }
      handed := { station.handed with requests := [.withdraw .c2] } }
    asking.powered = true ∧ asking.mc.mode = .run ∧ asking.handed.requests = .create .c2 10000 2 false :: [] ∧
      (∀ c ∈ asking.adm.own, c.circuit ≠ .c2) ∧ asking.cfg.lc = 10000 ∧
      (withdrawing (.settling 1)).handed.requests = .withdraw .c2 :: [] ∧
      (withdrawing (.settling 1)).adm.ownOf .c2 = some (claim2 (.settling 1)) ∧
      (withdrawing .queued).adm.ownOf .c2 = some (claim2 .queued) := by decide

/-- R59, R68, R105: a withdrawal taken in DARK starts its RELEASE schedule, which the entry to DARK of the Telegram
Controller ends, whichever of the two is taken first. -/
theorem test_the_entry_to_dark_ends_every_release :
    let s := { station with
      mc := { station.mc with mode := .dark }
      adm := { station.adm with own := [claim2 (.settling 1)] }
      handed :=
        { station.handed with
          requests := [.withdraw .c2], dark := { station.handed.dark with admission := true, telegram := true } } }
    let one := after .withdrawal s
    let other := after .withdrawal (after .telegramDarkEntry s)
    one.adm.own = [] ∧ one.tele.list = [.release .c2] ∧ one.tele.releaseSchedules.get .c2 = some ⟨2, none⟩ ∧
      after .telegramDarkEntry one = other ∧ other.tele.list = [] ∧ other.tele.releaseSchedules.get .c2 = none := by
  decide +kernel

/-- R98, R110: a holdoff that expires after the mode has left RUN decides nothing, and its claim is removed. -/
theorem test_expiry_reads_the_mode :
    let s := { station with
      mc := { station.mc with mode := .dark }
      adm := { station.adm with own := [{ claim2 (.holdoff 1) with circuit := .c0, amount := 0 }, claim2 .queued] }
      handed := { station.handed with dark := { station.handed.dark with admission := true, telegram := true } } }
    (after .holdoffExpiry s).adm.own = [claim2 .queued] ∧ (after .holdoffExpiry s).handed = s.handed ∧
      (after .holdoffExpiry s).adm.admissions = 0 ∧ (after .holdoffExpiry s).tele.list = [] := by
  decide +kernel

theorem witness_HoldoffExpiryDecidesTheGroup :
    let s := { station with
      adm := { station.adm with
        own := [claim2 (.holdoff 1), { claim2 (.holdoff 1) with circuit := .c0, amount := 0 }] } }
    (s.powered = true ∧ (s.adm.own.map OwnClaim.circuit).Nodup ∧ (∀ c ∈ s.adm.own, c.state ≠ .holdoff 0) ∧
        s.mc.mode = .run ∧ { s with mc := { s.mc with mode := .dark } }.mc.mode ≠ .run) ∧
      countersOk s := ⟨by decide, by unfold countersOk; decide⟩

theorem witness_ClaimTimersExpire :
    let s := { station with
      adm := { station.adm with own := [claim2 (.deferred 1), { claim2 (.settling 1) with circuit := .c0 }] } }
    s.powered = true ∧ s.adm.own = [] ++ claim2 (.deferred 1) :: [{ claim2 (.settling 1) with circuit := .c0 }] ∧
      (∀ d ∈ [] ++ [{ claim2 (.settling 1) with circuit := .c0 }], d.circuit ≠ .c2 ∧ d.state ≠ .deferred 0) ∧
      s.adm.ownOf .c0 = some { claim2 (.settling 1) with circuit := .c0 } := by decide

/-- ADMITTED for the saw, REFUSED for circuit 1, and both where circuit 1 is WAITING no more. -/
theorem witness_AnswersAreTaken :
    let s := withCircuit .c4 .waiting { sawStation with
      saw := { station.saw with state := .claiming }
      handed := { station.handed with answers := [.admitted .c4] } }
    let t := withCircuit .c1 .waiting { station with handed := { station.handed with answers := [.refused .c1] } }
    s.powered = true ∧ s.handed.answers = .admitted .c4 :: [] ∧ s.circ.active = true ∧ s.circuitState .c4 = .waiting ∧
      s.saw.state = .claiming ∧ t.handed.answers = .refused .c1 :: [] ∧ t.circuitState .c1 = .waiting ∧
      (withCircuit .c1 .off t).circuitState .c1 ≠ .waiting ∧
      (after .refused (withCircuit .c1 .off t)).handed.answers = [] := by decide

/-- The third sample of a rise at the input of circuit 1, active and not. -/
theorem witness_DemandEventsAreTaken :
    let s := fun active : Bool => { station with
      time := { station.time with tickWaiting := [.circuit] }
      cfg := { station.cfg with rating := ⟨0, 1500, 0, 0, 0⟩ }
      circ := { station.circ with
        active := active
        demand := { station.circ.demand with k1 := ⟨false, 2⟩ }
        table := { station.circ.table with c3 := ⟨.paused 2, false⟩ } } }
    ((s true).powered = true ∧ (s true).time.tickWaiting = [.circuit] ∧ (s true).circ.stage1 = false ∧
        (s true).circ.stage2 = false ∧ (s true).circ.restoreTimer + 1 < (s true).restoreThreshold ∧
        (s true).circ.active = true ∧ (s false).circ.active = false ∧
        (after (.stationTick [.circuit] { quietPins with demand1 := true }) (s true)).circuitState .c1 = .waiting) ∧
      ∀ k r, (s true).circuitState k = .paused r → 2 ≤ r :=
  ⟨by decide +kernel, fun k r => by cases k <;> simp [State.circuitState, Five.get, station, State.reset] <;> omega⟩

/-- A pause that ends and one that does not; the stages one tick below and at their thresholds; the restore the same. -/
theorem witness_CircuitTickCounts :
    let s := fun (c : Circuits) => { station with
      time := { station.time with tickWaiting := [.circuit] }, circ := { c with active := true } }
    let c := station.circ
    let pausing := s { c with
      table := ⟨⟨.off, false⟩, ⟨.paused 1, false⟩, ⟨.paused 2, false⟩, ⟨.off, false⟩, ⟨.off, false⟩⟩ }
    let below := s { c with stage1 := true, stage2 := true, timer1 := 52, timer2 := 12 }
    let at2 := s { c with stage1 := true, stage2 := true, timer1 := 52, timer2 := 13 }
    let at1 := s { c with stage1 := true, stage2 := true, timer1 := 53, timer2 := 12 }
    let both := s { c with stage1 := true, stage2 := true, timer1 := 53, timer2 := 13 }
    let shed := fun n => s { c with
      restoreTimer := n, table := ⟨⟨.shed, false⟩, ⟨.off, false⟩, ⟨.off, false⟩, ⟨.off, false⟩, ⟨.off, false⟩⟩ }
    (pausing.powered = true ∧ pausing.time.tickWaiting = [.circuit] ∧ pausing.circ.active = true ∧
        (∀ k ∈ Circ.switched,
          ((pausing.circ.demand.get k.idx).sample false).level = (pausing.circ.demand.get k.idx).level) ∧
        pausing.circ.stage1 = false ∧ pausing.circ.stage2 = false ∧ pausing.circuitState .c1 = .paused 1) ∧
      (∀ k, pausing.circuitState k ≠ .shed) ∧ (∀ k r, below.circuitState k ≠ .paused r) ∧
      (∀ n k r, (shed n).circuitState k ≠ .paused r) ∧
      (below.circ.timer1 + 2 = below.threshold1 ∧ below.circ.timer2 + 2 = below.threshold2) ∧
      (at2.circ.timer1 + 2 = at2.threshold1 ∧ at2.circ.timer2 + 1 = at2.threshold2) ∧
      (at1.circ.timer1 + 1 = at1.threshold1 ∧ at1.circ.timer2 + 2 = at1.threshold2) ∧
      (both.circ.timer1 + 1 = both.threshold1 ∧ both.circ.timer2 + 1 = both.threshold2) ∧
      ((shed 288).circ.restoreTimer + 2 = (shed 288).restoreThreshold ∧
        (shed 289).circ.restoreTimer + 1 = (shed 289).restoreThreshold ∧ (shed 289).circuitState .c0 = .shed) :=
  ⟨by decide, fun k => by cases k <;> decide, fun k r => by cases k <;> exact fun h => (nomatch h),
    fun n k r => by cases k <;> exact fun h => (nomatch h), by decide, by decide, by decide, by decide, by decide⟩

theorem witness_EntriesToRunAreTaken :
    let s := { station with
      cfg := { station.cfg with gateFitted := true, rating := ⟨0, 1500, 0, 0, 0⟩ }
      handed := { station.handed with circuitRun := true, gateRun := true } }
    (s.powered = true ∧ s.handed.circuitRun = true ∧ s.mc.mode = .run ∧ s.handed.gateRun = true ∧
      s.cfg.gateFitted = true ∧ s.circ.kept = none) ∧ ∀ k, s.circuitState k = .off :=
  ⟨by decide, fun k => by cases k <;> rfl⟩

/-- The kept values stand one mHz below both stage thresholds, and the entry to RUN raises the own SHEDDING flag; the
same entries find the mode changed. -/
theorem witness_EntriesToRunAreTaken_kept :
    let low := 50000 - station.cfg.u2 - 1
    let s := { station with
      circ := { station.circ with kept := some ⟨low, .doubtful, 50000, 0⟩ }
      handed := { station.handed with circuitRun := true, gateRun := true } }
    let late := { s with mc := { s.mc with mode := .dark } }
    let t := after .circuitRunEntry s
    (s.powered = true ∧ s.handed.circuitRun = true ∧ s.mc.mode = .run ∧ t.circ.stage1 = true ∧ t.circ.stage2 = true ∧
        t.handed.ownRaised = 1 ∧ late.mc.mode ≠ .run ∧ late.handed.gateRun = true) ∧
      ∀ k, s.circuitState k = .off := ⟨by decide, fun k => by cases k <;> rfl⟩

theorem witness_CircuitControllerTakesARecord :
    let s := fun r => { withCircuit .c1 .on station with
      handed := { station.handed with circuitRecords := [r] } }
    let ended := { s (lineOf .good .locked 49299 52900) with circ := station.circ }
    (s (lineOf .good .locked 49299 52900)).handed.circuitRecords = lineOf .good .locked 49299 52900 :: [] ∧
      (s (lineOf .good .locked 49299 52900)).circ.active = true ∧ (lineOf .good .locked 49299 52900).lock ≠ .lost ∧
      (lineOf .missing .lost 49299 0).lock = .lost ∧ ended.circ.active = false ∧
      ended.handed.circuitRecords = lineOf .good .locked 49299 52900 :: [] := by decide

/-- A pause at its end; stage 2 at its threshold with no circuit ON, with circuit 1 first in its list of class 2, and
with circuit 4; the restore at its threshold. -/
theorem witness_CircuitTimersExpire :
    let pausing := withCircuit .c1 (.paused 1) station
    let circuits : Circuits :=
      { station.circ with
        active := true, stage2 := true, timer2 := 13
        rotation := ⟨[], [], [.c0, .c1, .c2, .c3, .c4], []⟩
        table := ⟨⟨.off, false⟩, ⟨.on, false⟩, ⟨.off, false⟩, ⟨.off, false⟩, ⟨.off, false⟩⟩ }
    let dark := { station with
      circ := { circuits with table := ⟨⟨.off, false⟩, ⟨.shed, false⟩, ⟨.off, false⟩, ⟨.off, false⟩, ⟨.off, false⟩⟩ } }
    let shedding := { station with circ := circuits }
    let sawShedding := { sawStation with
      saw := { station.saw with state := .cutting, clutchClosed := ⟨true, 0⟩ }
      circ :=
        { circuits with
          table := ⟨⟨.off, false⟩, ⟨.off, false⟩, ⟨.off, false⟩, ⟨.off, false⟩, ⟨.on, false⟩⟩ } }
    let restoring := { station with
      circ :=
        { circuits with
          stage2 := false, timer2 := 0, restoreTimer := 289
          table := ⟨⟨.off, false⟩, ⟨.shed, false⟩, ⟨.off, false⟩, ⟨.off, false⟩, ⟨.off, false⟩⟩ } }
    pausing.circ.active = true ∧ pausing.circuitState .c1 = .paused 1 ∧
      shedding.circ.condition .stage2 = true ∧ shedding.circ.timer .stage2 + 1 = shedding.threshold .stage2 ∧
      (∀ cls ∈ [3, 2, 1], ¬∃ k ∈ dark.circ.rotation.get cls, dark.circuitState k = .on) ∧
      (∀ c ∈ [3, 2, 1], 2 < c → ¬∃ k ∈ shedding.circ.rotation.get c, shedding.circuitState k = .on) ∧
      shedding.circ.rotation.get 2 = [.c0] ++ .c1 :: [.c2, .c3, .c4] ∧ shedding.circuitState .c1 = .on ∧
      (∀ j ∈ [Circ.c0], shedding.circuitState j ≠ .on) ∧ (shedding.circ.rotation.get 2).Nodup ∧
      sawShedding.circ.rotation.get 2 = [.c0, .c1, .c2, .c3] ++ .c4 :: [] ∧ sawShedding.circuitState .c4 = .on ∧
      (∀ j ∈ [Circ.c0, .c1, .c2, .c3], sawShedding.circuitState j ≠ .on) ∧
      sawShedding.saw.state.asksClutch = true ∧ sawShedding.saw.clutchClosed.level = true ∧
      restoring.circ.stage1 = false ∧ restoring.circ.stage2 = false ∧
      restoring.circ.restoreTimer + 1 = restoring.restoreThreshold ∧
      (restoring.circ.rotation.k0 ++ restoring.circ.rotation.k1 ++ restoring.circ.rotation.k2 ++
        restoring.circ.rotation.k3).Nodup ∧
      ((restoring.circ.rotation.k2).filter fun k => restoring.circuitState k == .shed) ≠ [] := by decide

/-- By default every circuit is of class 2, and the lists hold them so. -/
theorem default_rotation (cls : Nat) (h : cls ≤ 3) :
    let lists : Four (List Circ) := ⟨[], [], [.c0, .c1, .c2, .c3, .c4], []⟩
    (lists.get cls).Nodup ∧ ∀ k, k ∈ lists.get cls ↔ defaultConfig.cls.get k = cls := by
  interval_cases cls <;> exact ⟨by decide, fun k => by cases k <;> decide⟩

/-- A station whose circuit 1 is ON under its shed stage, with every index in the list of its class. -/
def shedStation : State :=
  { station with
    circ :=
      { station.circ with
        active := true, stage2 := true, timer2 := 13
        rotation := ⟨[], [], [.c0, .c1, .c2, .c3, .c4], []⟩
        table := ⟨⟨.off, false⟩, ⟨.on, false⟩, ⟨.off, false⟩, ⟨.off, false⟩, ⟨.off, false⟩⟩ } }

theorem shedStation_rotation : RotationOk shedStation := by
  refine ⟨?_, fun h => absurd h (by unfold State.held; decide), fun _ cls h => ?_⟩
  · constructor <;> first
      | exact ⟨by decide, by decide⟩
      | decide
      | exact fun k => by cases k <;> decide
  · exact default_rotation cls h

/-- The circuit invariant and the law of the rotation lists hold of that station, and the shed gives a next state. -/
theorem witness_ShedsOnlyEligibleCircuits :
    (CircuitsOk shedStation ∧ RotationOk shedStation) ∧
      exec (.stageShed .stage2) shedStation = .next (after (.stageShed .stage2) shedStation) ∧
      (after (.stageShed .stage2) shedStation).circ.rotation.k2 = [.c0, .c2, .c3, .c4, .c1] :=
  ⟨⟨⟨fun h => absurd h (by decide), by decide, by decide, by decide, by decide,
    fun n => by simp [State.circuitState, Five.get, shedStation], by decide⟩, shedStation_rotation⟩, rfl, by decide⟩

theorem witness_EntriesToDarkAreTaken :
    let s := fun st => { sawStation with
      mc := { station.mc with mode := .dark }
      handed := { station.handed with dark := ⟨true, true, true, true, true, true⟩ }
      saw := { station.saw with state := st, clutchClosed := ⟨true, 0⟩ } }
    let unfitted := { s .idle with cfg := station.cfg }
    (s .cutting).powered = true ∧ (s .cutting).handed.dark = ⟨true, true, true, true, true, true⟩ ∧
      (s .cutting).sawWorks = true ∧ (s .cutting).saw.state.asksClutch = true ∧
      (s .cutting).saw.clutchClosed.level = true ∧ (s .cutting).circ.active = false ∧
      (withCircuit .c4 .on (s .cutting)).circ.active = true ∧
      (withCircuit .c4 .on (s .cutting)).circuitState .c4 = .on ∧
      (withCircuit .c4 .waiting (s .claiming)).circuitState .c4 = .waiting ∧
      (s .claiming).saw.state = .claiming ∧ (s (.stopping 1)).saw.state.asksClutch = false ∧
      unfitted.sawWorks = false := by decide

/-- A record in each state that takes one, at the cycle that completes the interval, at the one that reaches Nst, at the
last of BACKOFF and at the lowest frequency that ends SPINUP, and a record carrying LOST. -/
theorem witness_SawTakesALineRecord :
    let s := fun (st : SawState) (r : LineRecord) => { sawStation with
      saw := { station.saw with state := st, adaptCount := 24, stallRun := 4 }
      handed := { station.handed with sawRecords := [r] } }
    let slow := lineOf .good .locked 49200 52900
    let r := lineOf .good .locked 49700 52900
    (s .cutting r).powered = true ∧ (s .cutting r).handed.sawRecords = r :: [] ∧ (s .cutting r).sawWorks = true ∧
      r.lock ≠ .lost ∧ (s .cutting r).saw.state = .cutting ∧
      (s .cutting r).saw.adaptCount + 1 = (s .cutting r).cfg.nad ∧
      (s .cutting slow).saw.stallRun + 1 = (s .cutting slow).cfg.nst ∧
      (after .sawCycleEnd (s .cutting slow)).saw.state = .backoff (s .cutting slow).cfg.nbk ∧
      (s (.spinup 1) r).gov.setPoint = r.filtered + (s (.spinup 1) r).cfg.msp ∧
      (after .sawCycleEnd (s (.spinup 1) r)).saw.state = .cutting ∧ (s (.backoff 1) r).saw.state = .backoff 1 ∧
      (s .returning r).saw.state = .returning ∧ (lineOf .missing .lost 50000 0).lock = .lost ∧
      ({ s .cutting r with cfg := station.cfg } : State).sawWorks = false := by decide +kernel

/-- Each event of a tick by itself, at the third sample of its change, the timer that the tick brings to its end, a
START in SPINUP, and two events together: STOP before START in READY, and the clutch before START in IDLE. -/
theorem witness_SawTickTakesInputsAndCounts :
    let s := fun (w : Saw) => withCircuit .c4 .off { sawStation with
      time := { station.time with tickWaiting := [.saw] }
      cfg := { sawStation.cfg with rating := ⟨0, 0, 0, 0, 2200⟩ }, saw := w }
    let rise : Debouncer := ⟨false, 2⟩
    let closed : Debouncer := ⟨true, 0⟩
    let t := fun (p : Pins) (w : Saw) => (after (.stationTick [.saw] p) (s w)).saw.state
    let w := station.saw
    ((s w).powered = true ∧ (s w).time.tickWaiting = [.saw] ∧ (s w).sawWorks = true ∧
        t { quietPins with start := true } { w with start := rise } = .claiming ∧
        t { quietPins with clutchClosed := true } { w with clutchClosed := rise } = .fault .unexpected ∧
        t { quietPins with clutchClosed := true } { w with state := .engaging 9, clutchClosed := rise } =
          .spinup (sawStation.cfg.tsu - 1) ∧
        t quietPins { w with state := .cutting, clutchClosed := ⟨true, 2⟩ } = .idle ∧
        t { quietPins with returnLimit := true } { w with state := .returning, returnLimit := rise } =
          .ready (sawStation.cfg.tready - 1) ∧
        t { quietPins with forwardLimit := true } { w with state := .cutting, forwardLimit := rise } = .returning ∧
        t { quietPins with stop := true, clutchClosed := true }
            { w with state := .cutting, stop := rise, clutchClosed := closed } =
          .stopping (sawStation.cfg.trel - 1) ∧
        t quietPins { w with state := .engaging 1 } = .fault .engage ∧
        t quietPins { w with state := .engaging 2 } = .engaging 1 ∧
        t { quietPins with start := true } { w with state := .spinup 9, start := rise } = .spinup 8 ∧
        t { quietPins with stop := true, start := true, clutchClosed := true }
            { w with state := .ready 9, stop := rise, start := rise, clutchClosed := closed } =
          .stopping (sawStation.cfg.trel - 1) ∧
        t { quietPins with start := true, clutchClosed := true } { w with start := rise, clutchClosed := rise } =
          .fault .unexpected) ∧
      ConfigOk (s w).cfg := by
  refine ⟨by decide +kernel, ?_⟩
  constructor <;> first
    | exact ⟨by decide, by decide⟩
    | decide
    | exact fun k => by cases k <;> decide

/-- A START in IDLE in any mode but RUN is REFUSED at once and counted, also where the Circuit Controller has not yet
taken the entry to DARK (R139, R156). -/
theorem test_start_is_refused_outside_run :
    let s := withCircuit .c4 .off { sawStation with
      mc := { station.mc with mode := .dark }
      time := { station.time with tickWaiting := [.saw] }
      cfg := { sawStation.cfg with rating := ⟨0, 0, 0, 0, 2200⟩ }
      saw := { station.saw with start := ⟨false, 2⟩ } }
    let t := after (.stationTick [.saw] { quietPins with start := true }) s
    s.circ.active = true ∧ t.saw.state = .idle ∧ t.saw.sawRefused = 1 ∧ t.handed.requests = [] ∧
      t.circuitState .c4 = .off := by decide +kernel

theorem witness_SawTimersExpire :
    let s := fun st => withCircuit .c4 .on { sawStation with
      saw := { station.saw with state := st, stallRun := 4, adaptCount := 24 } }
    (s (.engaging 1)).powered = true ∧ (s (.engaging 1)).sawWorks = true ∧ (s (.engaging 1)).circ.active = true ∧
      (s (.spinup 1)).circuitState .c4 = .on ∧ (s (.ready 1)).saw.state = .ready 1 ∧
      (s (.stopping 1)).saw.state = .stopping 1 ∧ (s .cutting).saw.stallRun + 1 = (s .cutting).cfg.nst ∧
      (s .cutting).saw.returnLimit.level = false ∧ (s .cutting).saw.adaptCount + 1 = (s .cutting).cfg.nad ∧
      (s (.backoff 1)).saw.state = .backoff 1 := by decide

theorem witness_EvaluationMovesTheGate :
    let s := fun e => { station with
      gate := { station.gate with active := true, high := 5 }
      handed := { station.handed with evaluations := [e] } }
    let e : EvaluationEvent := ⟨2000, 3000, .run⟩
    let poor := { s e with tele := { station.tele with quality := .poor } }
    let inactive := { s e with gate := station.gate }
    let pulsing := { station with gate := { station.gate with state := .lowering 1 } }
    (s e).powered = true ∧ (s e).handed.evaluations = e :: [] ∧ (s e).gate.active = true ∧ e.composedIn = .run ∧
      (s e).tele.quality = .good ∧ 3000 + (s e).table.capacity ≠ 0 ∧ 0 + (s ⟨0, 0, .run⟩).table.capacity = 0 ∧
      0 < (s e).cfg.ng ∧ poor.tele.quality = .poor ∧ inactive.gate.active = false ∧
      (⟨2000, 3000, .stagger⟩ : EvaluationEvent).composedIn ≠ .run ∧ pulsing.gate.state = .lowering 1 := by decide

/-- A pulse at its last tick, a pulse that its limit cuts, and a raise at the last tick of the interval. -/
theorem witness_GateTickCountsAndRaises :
    let s := fun (g : Gate) => { station with
      time := { station.time with tickWaiting := [.gate] }, circ := { station.circ with stage1 := true }, gate := g }
    let g := { station.gate with active := true, sinceLast := station.cfg.tgi - 1 }
    let t := fun (p : Pins) (g : Gate) => (after (.stationTick [.gate] p) (s g)).gate
    (s g).powered = true ∧ (s g).time.tickWaiting = [.gate] ∧ (t quietPins g).state = .raising station.cfg.lp ∧
      (t quietPins { g with active := false, state := .lowering 1 }).state = .rest ∧
      (t { quietPins with openLimit := true } { g with state := .raising 9, openLimit := ⟨false, 2⟩ }).pulsesCut = 1 := by
  decide +kernel

theorem witness_ModeFollowsTheLock :
    let s := fun (m : Mode) (origin : Bool) (l : Lock) => { station with
      mc := { station.mc with mode := m }
      cfg := { station.cfg with recallOrigin := origin }
      handed := { station.handed with modeRecords := [lineOf .good l 50000 52900] } }
    (s .dark false .locked).powered = true ∧
      (s .dark false .locked).handed.modeRecords = lineOf .good .locked 50000 52900 :: [] ∧
      (s .dark true .locked).cfg.recallOrigin = true ∧ (s .run false .lost).mc.mode = .run ∧
      (s .recover false .doubtful).mc.mode.online = true ∧ (lineOf .good .doubtful 50000 52900).lock ≠ .lost := by decide

theorem witness_RecallStaggerAndDarkMemory :
    let recover := fun n => { station with
      time := { station.time with tickWaiting := [.mode] }
      mc := { station.mc with mode := .recover, recallWait := some n }
      handed := { station.handed with recalls := 1 } }
    let stagger := fun n => { station with
      time := { station.time with tickWaiting := [.mode] }
      mc := { station.mc with mode := .stagger, stagger := some n } }
    let dark := { station with
      time := { station.time with tickWaiting := [.mode] }
      cfg := { station.cfg with tdm := 60000 }
      mc := { station.mc with mode := .dark, darkDuration := 60000 } }
    (recover 1).powered = true ∧ (recover 1).mc.mode = .recover ∧ 0 < (recover 1).handed.recalls ∧
      (recover 1).mc.recallWait = some 1 ∧ (recover 2).mc.recallWait = some 2 ∧
      (recover 1).time.tickWaiting = [.mode] ∧
      ({ recover 1 with mc := station.mc } : State).mc.mode ≠ .recover ∧ (stagger 1).mc.mode = .stagger ∧
      (stagger 1).mc.stagger = some 1 ∧ (stagger 2).mc.stagger = some 2 ∧ dark.mc.mode = .dark ∧
      dark.mc.darkDuration = dark.cfg.tdm ∧ dark.cfg.tdm ≤ 60000 ∧ dark.time.tickWaiting = [.mode] := by decide

theorem witness_StrapsAndAttempts :
    let s := fun (phase : AutoloadPhase) (n : Nat) =>
      { State.reset with loader := { State.reset.loader with phase := phase, attempts := n } }
    State.reset.powered = true ∧ State.reset.mc.mode = .start ∧ State.reset.loader.strapDone = false ∧
      (31 : BitVec 5).toNat ≠ 0 ∧ State.reset.panel.pendingRequest = none ∧ (s .attempt 3).loader.phase = .attempt ∧
      (s .attempt 3).loader.attempts < 4 ∧ 4 ≤ (s .attempt 4).loader.attempts ∧
      (s (.waiting 5200) 1).loader.phase = .waiting 5200 := by decide

/-- The default record of section 10.4 in the layout of section 11.5, less its CRC. -/
def defaultBytes : List Byte :=
  [0x4B, 1, 0, 0x20, 0xAA, 0xC3, 0x50, 150, 0x32, 50, 40, 0, 75, 0, 230, 50, 0x83, 50, 50, 10, 25, 20, 50, 0x64] ++
    [0, 0, 0, 0, 0, 35, 5, 0xDC, 25, 10, 10, 20, 50, 50, 30, 50, 20, 30, 30, 80, 20, 5, 25, 20, 25, 50, 0x63, 60] ++
    [0x0B, 0xB8, 30, 10, 5, 0xDC, 25, 120, 25, 50]

/-- The same with its CRC. -/
def defaultBuffer : List Byte := defaultBytes ++ be16 (crc16 defaultBytes).toNat

/-- R182, R183: the default record is accepted, holds the defaults, and needs no clamp. -/
theorem test_default_record_is_accepted :
    checkRecord defaultBuffer = .accepted ∧ clampConfig (decodeRecord defaultBuffer) = defaultConfig ∧
      clampsMade (decodeRecord defaultBuffer) defaultConfig = 0 := by decide +kernel

/-- A wrong tag, a wrong CRC, and a good record, and the good record with a request held. -/
theorem witness_RecordIsCheckedAndPutInForce :
    let s := { State.reset with loader := { State.reset.loader with phase := .attempt, attempts := 1 } }
    let holding := { s with panel := { s.panel with pendingRequest := some 7 } }
    (s.powered = true ∧ s.mc.mode = .start ∧ s.loader.phase = .attempt ∧ s.panel.pendingRequest = none ∧
        defaultBuffer.length = 64 ∧ byteAt defaultBuffer 0 = 0x4B ∧ byteAt (List.replicate 64 0) 0 ≠ 0x4B ∧
        (crc16 ((defaultBytes ++ [0, 0]).take 62)).toNat ≠ wordAt (defaultBytes ++ [0, 0]) 62 ∧
        holding.panel.pendingRequest = some 7 ∧ (after (.attemptComplete 0 defaultBuffer) s).mc.mode ≠ .start) ∧
      exec (.attemptComplete 0 defaultBuffer) { holding with panel := { holding.panel with pendingRequest := none } } =
        .next (after (.attemptComplete 0 defaultBuffer) s) := ⟨by decide +kernel, rfl⟩

theorem witness_ClampsBringEveryRecordInRange : ConfigOk defaultConfig := by
  constructor <;> first
    | exact ⟨by decide, by decide⟩
    | decide
    | exact fun k => by cases k <;> decide

theorem witness_PanelAnswersRequests :
    let replying := { station with panel := { station.panel with reply := some ⟨[0x15], 0⟩ } }
    let holding := { State.reset with panel := { State.reset.panel with pendingRequest := some 7 } }
    station.powered = true ∧ station.mc.mode ≠ .start ∧ station.panel.reply = none ∧ 9 < (10 : Byte).toNat ∧
      (0 : Byte).toNat = 0 ∧ replying.panel.reply.isSome = true ∧ replying.panel.reply = some ⟨[0x15], 0⟩ ∧
      State.reset.mc.mode = .start ∧ State.reset.panel.reply = none ∧ State.reset.panel.pendingRequest = none ∧
      (2 : Byte) ≠ 1 ∧ holding.mc.mode = .start ∧ holding.panel.pendingRequest.isSome = true := by decide

/-- The longest rotation list, and a record of each kind of list. -/
theorem witness_PanelRecordsAreLaidOut :
    let s := { station with
      table := { station.table with records := fullTable .fresh }
      adm := { station.adm with own := [claim2 .queued], heard := [⟨7, 1, 900, 2, 80⟩] }
      circ := { station.circ with rotation := ⟨[.c0, .c1, .c2, .c3, .c4], [], [], []⟩ } }
    s.circ.rotation.k0.length ≤ 5 ∧ s.circ.rotation.k1.length ≤ 5 ∧ s.circ.rotation.k2.length ≤ 5 ∧
      s.circ.rotation.k3.length ≤ 5 ∧ s.table.records[15]? = some (neighbourOf 20 16 .fresh) ∧
      s.adm.own[0]? = some (claim2 .queued) ∧ s.adm.heard[0]? = some ⟨7, 1, 900, 2, 80⟩ := by decide

theorem witness_ClearEmptiesTheCounters :
    station.powered = true ∧ station.mc.mode ≠ .start ∧ station.panel.reply = none := by decide

theorem witness_RestartResetsTheBlocks :
    let halted := { station with mc := { station.mc with mode := .halted } }
    station.powered = true ∧ station.mc.mode ≠ .start ∧ station.panel.reply = none ∧ station.mc.mode ≠ .halted ∧
      halted.mc.mode = .halted ∧ halted.mc.mode ≠ .start := by decide

/-- A station in RUN with something in every block: circuit 2 just admitted, the saw cutting, the gate raising, a
neighbour of the greatest FRESH age; the command in front ends the settling. -/
def busy : State :=
  { station with
    pending := [.settleExpiry .c2]
    cfg := { defaultConfig with sawFitted := true, gateFitted := true }
    meter := { station.meter with lock := .doubtful, badRun := 2, silence := 40000 }
    gov := { station.gov with demand := 1000, burst := 999, integral := 256000 }
    tele := { station.tele with qualityCount := 5, quality := .poor, rx := .hunt }
    table := { station.table with records := [neighbourOf 5 149 .fresh, neighbourOf 6 399 .stale] }
    adm := { station.adm with own := [claim2 (.settling 0)] }
    circ :=
      { station.circ with
        active := true
        rotation := ⟨[], [], [.c0, .c1, .c2, .c3, .c4], []⟩
        table := ⟨⟨.off, false⟩, ⟨.off, false⟩, ⟨.on, false⟩, ⟨.off, false⟩, ⟨.on, false⟩⟩ }
    saw := { station.saw with state := .cutting, feed := 300, clutchClosed := ⟨true, 0⟩ }
    gate := { station.gate with state := .raising 1, active := true, high := 5 } }

/-- It takes a step. -/
theorem witness_step_of_busy : step busy = .next (after (.settleExpiry .c2) { busy with pending := [] }) := rfl

theorem busy_config : ConfigOk busy.cfg := by
  constructor <;> first
    | exact ⟨by decide, by decide⟩
    | decide
    | exact fun k => by cases k <;> decide

theorem busy_is_not_held : ¬busy.held := by
  unfold State.held
  decide

theorem witness_EveryStepKeepsTheCountersTheRangesAndTheGrids :
    (countersOk busy ∧ configOk busy ∧ gridOk busy ∧ QualityOk busy ∧ modeOk busy) ∧
      step busy = .next (after (.settleExpiry .c2) { busy with pending := [] }) :=
  ⟨⟨by unfold countersOk; decide, busy_config, ⟨by decide, by decide, by decide, by decide⟩,
    ⟨busy_config, by decide, by decide, by decide, fun h => absurd h busy_is_not_held⟩,
    ⟨by decide, by decide, by decide⟩⟩, rfl⟩

theorem witness_EveryStepKeepsTheMeterAndTheGovernor :
    (meterOk busy ∧ governorOk busy) ∧ step busy = .next (after (.settleExpiry .c2) { busy with pending := [] }) := by
  refine ⟨⟨⟨busy_config, ?_⟩, ⟨busy_config, ?_⟩⟩, rfl⟩ <;>
  · constructor <;> first
      | decide
      | exact ⟨by decide, by decide⟩

theorem witness_EveryStepKeepsTheNeighbourTable :
    TableOk busy ∧ step busy = .next (after (.settleExpiry .c2) { busy with pending := [] }) :=
  ⟨⟨busy_config, by decide, by decide, by decide, fun h => absurd h busy_is_not_held⟩, rfl⟩

theorem witness_EveryStepKeepsTheClaims :
    ClaimsOk busy ∧ step busy = .next (after (.settleExpiry .c2) { busy with pending := [] }) :=
  ⟨⟨by decide, by decide, by decide, by decide, by decide, by decide, by decide,
    fun h => absurd h busy_is_not_held⟩, rfl⟩

theorem witness_EveryStepKeepsTheTransmitter :
    TransmitterOk busy ∧ step busy = .next (after (.settleExpiry .c2) { busy with pending := [] }) :=
  ⟨⟨by decide, by decide, fun _ h => (nomatch h), fun _ h => (nomatch h), fun k => by cases k <;> exact .inl rfl,
    fun k h => absurd (by cases k <;> rfl) h, fun _ _ _ h => (nomatch h), fun _ _ _ h => (nomatch h), by decide, by decide,
    by decide, by decide, fun h => absurd h busy_is_not_held⟩, rfl⟩

theorem witness_EveryStepKeepsTheCircuits :
    (CircuitsOk busy ∧ RotationOk busy) ∧
      step busy = .next (after (.settleExpiry .c2) { busy with pending := [] }) :=
  ⟨⟨⟨fun h => absurd h (by decide), by decide, by decide, by decide, by decide, fun _ h => (nomatch h), by decide⟩,
    ⟨busy_config, fun h => absurd h busy_is_not_held, fun _ => default_rotation⟩⟩, rfl⟩

theorem witness_EveryStepKeepsTheFeed :
    SawOk busy ∧ step busy = .next (after (.settleExpiry .c2) { busy with pending := [] }) :=
  ⟨⟨busy_config, ⟨by decide, by decide⟩, by decide, fun _ h => (nomatch h), fun h => (nomatch h),
    fun h => absurd rfl h, fun h => absurd h busy_is_not_held⟩, rfl⟩

theorem witness_EveryStepKeepsTheGate :
    GateOk busy ∧ step busy = .next (after (.settleExpiry .c2) { busy with pending := [] }) :=
  ⟨⟨by decide, by decide, fun h => absurd h busy_is_not_held, by decide, by decide, by decide, by decide⟩, rfl⟩

/-- A station in START is quiet, and the station tick is a step of it. -/
theorem witness_EveryStepKeepsTheHeldStationQuiet :
    let s := { State.reset with pending := [.stationTick [.telegram] quietPins] }
    s.held ∧ Quiet s ∧ step s = .next (after (.stationTick [.telegram] quietPins) State.reset) :=
  ⟨.inl rfl,
    ⟨⟨rfl, fun k => by cases k <;> rfl⟩, rfl, ⟨rfl, rfl⟩, ⟨rfl, rfl⟩, ⟨rfl, rfl⟩, rfl, ⟨rfl, rfl⟩,
      fun k => by cases k <;> exact ⟨rfl, rfl⟩, ⟨rfl, rfl⟩, ⟨rfl, rfl, rfl⟩⟩, rfl⟩

end Sys2Proof.Tests
end

/-! # The Line Meter: the measures of a cycle end (R8, R10)

The integer square root is Mathlib's `Nat.sqrt`; then one lemma for each measure of the Line Record that a cycle end
publishes, and the two statements about them. -/

namespace Sys2Proof.Machine

/-! ### The integer square root -/

/-- The upward search reaches the root when it starts at or below it with fuel enough for the distance. -/
theorem isqrtFrom_eq_sqrt {fuel r n : Nat} (hlow : r ≤ n.sqrt) (hfuel : n.sqrt ≤ r + fuel) :
    isqrtFrom fuel r n = n.sqrt := by
  induction fuel generalizing r with
  | zero => exact Nat.le_antisymm hlow hfuel
  | succ fuel ih =>
    rw [isqrtFrom]
    split
    case isTrue hsq => exact ih (Nat.le_sqrt.mpr hsq) (by omega)
    case isFalse hsq =>
      have hhigh : n.sqrt < r + 1 := Nat.sqrt_lt.mpr (Nat.lt_of_not_le hsq)
      omega

theorem isqrt_eq_sqrt (n : Nat) : isqrt n = n.sqrt :=
  isqrtFrom_eq_sqrt (Nat.zero_le _) (by simpa using Nat.sqrt_le_self n)

/-- How a value of the root is shown without running the search. -/
theorem isqrt_eq_iff {n v : Nat} : isqrt n = v ↔ v * v ≤ n ∧ n < (v + 1) * (v + 1) := by
  rw [isqrt_eq_sqrt, eq_comm]
  exact Nat.eq_sqrt

/-- The root is the floor of the real square root (00_scope.md section 6). -/
theorem isqrt_spec (n : Nat) : isqrt n * isqrt n ≤ n ∧ n < (isqrt n + 1) * (isqrt n + 1) :=
  isqrt_eq_iff.mp rfl

theorem isqrt_lt_iff {n b : Nat} : isqrt n < b ↔ n < b * b := by
  rw [isqrt_eq_sqrt]
  exact Nat.sqrt_lt

/-! ### Mean square, class and frequency -/

/-- A bound on every sample's square is a bound on their mean (R6, R8). -/
theorem meanSquare_le {b sumSq samples : Nat} (h : sumSq ≤ b * samples) : meanSquare sumSq samples ≤ b := by
  unfold meanSquare
  split
  · exact Nat.zero_le b
  · exact Nat.div_le_of_le_mul (by rwa [Nat.mul_comm])

/-- Exactly the cycle ends with a period in range and voltage enough are GOOD (R9). -/
theorem classify_eq_good_iff {vmin vrms : Nat} {p : Option Nat} :
    classify vmin p vrms = .good ↔ ∃ period, p = some period ∧ 16000 ≤ period ∧ period ≤ 25000 ∧ vmin ≤ vrms := by
  cases p with
  | none => simp [classify]
  | some period =>
    by_cases hrange : period < 16000 ∨ 25000 < period
    · have hout : ¬(16000 ≤ period ∧ period ≤ 25000 ∧ vmin ≤ vrms) := by omega
      simpa [classify, hrange] using hout
    · have hin : 16000 ≤ period ∧ period ≤ 25000 := by omega
      simp [classify, hrange, hin]

/-- The range of a GOOD period bounds its frequency in mHz (R10). -/
theorem frequency_bounds {period : Nat} (hlow : 16000 ≤ period) (hhigh : period ≤ 25000) :
    40000 ≤ frequency period ∧ frequency period ≤ 62500 := by
  unfold frequency
  constructor
  · exact (Nat.le_div_iff_mul_le (by omega)).mpr (by omega)
  · exact Nat.div_le_of_le_mul (by omega)

/-! ### The Line Record of a cycle end -/

section Record

variable (cfg : Config) (p : Option Nat) (m : Meter)

@[simp] theorem cycleEnd_record_cls :
    (m.cycleEnd cfg p).record.cls = classify cfg.vmin p (isqrt (meanSquare m.sumSq m.samples)) := rfl

@[simp] theorem cycleEnd_record_ms :
    (m.cycleEnd cfg p).record.ms = p.map fun _ => meanSquare m.sumSq m.samples := rfl

@[simp] theorem cycleEnd_record_vrms :
    (m.cycleEnd cfg p).record.vrms = p.map fun _ => isqrt (meanSquare m.sumSq m.samples) := rfl

variable {cfg p m}

theorem cycleEnd_record_freq_of_good (h : (m.cycleEnd cfg p).record.cls = .good) :
    (m.cycleEnd cfg p).record.freq = p.map frequency :=
  if_pos (beq_iff_eq.mpr h)

theorem cycleEnd_record_freq_of_not_good (h : (m.cycleEnd cfg p).record.cls ≠ .good) :
    (m.cycleEnd cfg p).record.freq = none :=
  if_neg (mt beq_iff_eq.mp h)

/-- The period of a GOOD cycle end is present and in range (R9). -/
theorem period_of_cycleEnd_good (h : (m.cycleEnd cfg p).record.cls = .good) :
    ∃ period, p = some period ∧ 16000 ≤ period ∧ period ≤ 25000 := by
  rw [cycleEnd_record_cls] at h
  obtain ⟨period, hp, hlow, hhigh, -⟩ := classify_eq_good_iff.mp h
  exact ⟨period, hp, hlow, hhigh⟩

end Record

/-! ### The statements -/

/-- Settles O10: a GOOD class gives the period its range, and the range bounds the quotient. -/
theorem frequencyOfAGoodCycle : Obligations.FrequencyOfAGoodCycle := by
  refine ⟨fun cfg p m => ⟨fun hgood => ?_, cycleEnd_record_freq_of_not_good⟩, rfl⟩
  obtain ⟨period, rfl, hlow, hhigh⟩ := period_of_cycleEnd_good hgood
  exact ⟨period, rfl, hlow, hhigh, cycleEnd_record_freq_of_good hgood, frequency_bounds hlow hhigh⟩

/-- Settles O11: 261,121 is the square of 511, so the bound on the mean square bounds its root. -/
theorem meanSquareAndVrms : Obligations.MeanSquareAndVrms := by
  refine ⟨fun cfg period m hclamp => ?_, fun cfg m => ⟨rfl, rfl⟩, rfl, isqrt_eq_iff.mpr (by decide)⟩
  have hms : meanSquare m.sumSq m.samples ≤ 261121 := meanSquare_le hclamp
  have hvrms : isqrt (meanSquare m.sumSq m.samples) < 512 := isqrt_lt_iff.mpr (by omega)
  obtain ⟨hlow, hhigh⟩ := isqrt_spec (meanSquare m.sumSq m.samples)
  exact ⟨_, _, cycleEnd_record_ms .., cycleEnd_record_vrms .., rfl, hlow, hhigh, hms, Nat.le_of_lt_succ hvrms⟩

end Sys2Proof.Machine

/-! # The Neighbour Table: a newcomer is inserted in order (R72)

One rule for each operation that the hearing of a STATUS goes through, then the place where the insertion puts the
record, and the statement about them. -/

namespace Sys2Proof.Machine

/-! ### Hearing a STATUS -/

/-- A station without a record, in a table with room, is inserted and nothing is given up (R72). -/
theorem Table.hear_of_new {h : HeardStatus} {t : Table} (hnew : ∀ n ∈ t.records, n.station ≠ h.sender)
    (hroom : t.records.length < 16) : t.hear h = ({ t with records := insertRecord h.record t.records }, none) := by
  have hunheld : ¬holdsStation h.sender t.records = true := by simpa [holdsStation_iff] using hnew
  rw [Table.hear, if_neg hunheld, if_pos hroom]

/-- In RECOVER, STAGGER and RUN the table takes what it hears (R82). -/
theorem hearStatus_table_of_online {h : HeardStatus} {s : State} (hon : s.mc.mode.online = true) :
    (hearStatus h s).table = (s.table.hear h).1 := by
  simp [hearStatus, hon]

/-- The command hears the oldest STATUS handed, which is handed no more. -/
theorem exec_neighbourStatusHeard_cons {h : HeardStatus} {rest : List HeardStatus} {s : State} (hp : s.powered = true)
    (hst : s.handed.statuses = h :: rest) :
    exec .neighbourStatusHeard s = .next (hearStatus h (s.setHanded { s.handed with statuses := rest })) := by
  change execNeighbourStatusHeard s = _
  rw [execNeighbourStatusHeard, hst, answer_powered hp]

/-- The command leaves the table that heard the STATUS. -/
theorem exec_neighbourStatusHeard_table {h : HeardStatus} {rest : List HeardStatus} {s : State}
    (hp : s.powered = true) (hon : s.mc.mode.online = true) (hst : s.handed.statuses = h :: rest) :
    ∃ t, exec .neighbourStatusHeard s = .next t ∧ t.table = (s.table.hear h).1 :=
  ⟨_, exec_neighbourStatusHeard_cons hp hst, hearStatus_table_of_online hon⟩

/-! ### The place of the new record -/

/-- An ascending table without the record's station is split at the insertion: the records before it have the lower
station numbers, the records after it the higher ones. -/
theorem insertRecord_splits {r : Neighbour} {l : List Neighbour} (hasc : l.Pairwise fun x y => x.station < y.station)
    (hnew : ∀ n ∈ l, n.station ≠ r.station) :
    ∃ lower higher, l = lower ++ higher ∧ insertRecord r l = lower ++ r :: higher ∧
      (∀ n ∈ lower, n.station < r.station) ∧ ∀ n ∈ higher, r.station < n.station := by
  induction l with
  | nil => exact ⟨[], [], rfl, rfl, by simp, by simp⟩
  | cons n ns ih =>
    obtain ⟨hn, hns⟩ := List.pairwise_cons.mp hasc
    obtain ⟨hne, hnew'⟩ := List.forall_mem_cons.mp hnew
    rw [insertRecord]
    split
    case isTrue hlt =>
      have hhigher : ∀ m ∈ n :: ns, r.station < m.station :=
        List.forall_mem_cons.mpr ⟨hlt, fun m hm => hlt.trans (hn m hm)⟩
      exact ⟨[], n :: ns, rfl, rfl, by simp, hhigher⟩
    case isFalse hge =>
      obtain ⟨lower, higher, rfl, hins, hlower, hhigher⟩ := ih hns hnew'
      have hlt : n.station < r.station := by omega
      exact ⟨n :: lower, higher, rfl, by rw [hins, List.cons_append], List.forall_mem_cons.mpr ⟨hlt, hlower⟩, hhigher⟩

/-! ### The statement -/

/-- Settles O21: the station is new and the table has room, so the STATUS is inserted, and the insertion splits the
ascending table. -/
theorem newNeighbourIsInsertedInOrder : Obligations.NewNeighbourIsInsertedInOrder := by
  intro h rest s hp hon hst hasc hnew hroom
  obtain ⟨t, hexec, htable⟩ := exec_neighbourStatusHeard_table hp hon hst
  obtain ⟨lower, higher, hsplit, hins, hlower, hhigher⟩ := insertRecord_splits (r := h.record) hasc hnew
  have hrecords : t.table.records = insertRecord h.record s.table.records := by
    rw [htable, Table.hear_of_new hnew hroom]
  exact ⟨t, lower, higher, hexec, hsplit, hrecords.trans hins, hlower, hhigher,
    by rw [hrecords, length_insertRecord]⟩

end Sys2Proof.Machine

/-! # What every step keeps

One case analysis of the commands, done once. `OpsKeep inv view` lists the operations that the commands are made of, with
the guard under which a command reaches each. For every operation it asks either that what the invariant reads, its
`view`, is left alone, or that the invariant holds afterwards. The first is the default and is closed by the frame
lemmas, so that a use of `OpsKeep` names exactly the operations that matter to its invariant. -/

namespace Sys2Proof.Machine

/-- An operation that leads from `s` to `t` leaves alone what the invariant reads, or it keeps the invariant. -/
abbrev Keeps {V : Type} (inv : State → Prop) (view : State → V) (s t : State) : Prop :=
  inv s → view t = view s ∨ inv t

/-- Every operation of the commands keeps the invariant. -/
structure OpsKeep {V : Type} (inv : State → Prop) (view : State → V) : Prop where
  same : ∀ {s t}, view t = view s → inv s → inv t
  reset : inv State.reset
  queue : ∀ q s, view (State.setPending s q) = view s := by intros; rfl
  supply : ∀ q p, view { State.reset with pending := q, powered := p } = view State.reset := by intros; rfl
  -- time and the tick
  elapse : ∀ dt s, Keeps inv view s (elapse dt s) := by intros; exact fun _ => .inl (by simp)
  sampleInstant : ∀ s, Keeps inv view s (toSampleInstant s) := by intros; exact fun _ => .inl (by simp)
  beginTick : ∀ s, Keeps inv view s (beginTick s) := by intros; exact fun _ => .inl (by simp)
  tickWaiting : ∀ w s, Keeps inv view s (s.setTime { s.time with tickWaiting := w }) := by
    intros; exact fun _ => .inl (by simp)
  telegramTick : ∀ s, Keeps inv view s (telegramTick s) := by intros; exact fun _ => .inl (by simp)
  neighbourTick : ∀ s, Keeps inv view s (neighbourTick s) := by intros; exact fun _ => .inl (by simp)
  admissionTick : ∀ s, Keeps inv view s (admissionTick s) := by intros; exact fun _ => .inl (by simp)
  circuitTick : ∀ p s, Keeps inv view s (circuitTick p s) := by intros; exact fun _ => .inl (by simp)
  sawTick : ∀ p s, Keeps inv view s (sawTick p s) := by intros; exact fun _ => .inl (by simp)
  gateTick : ∀ p s, Keeps inv view s (gateTick p s) := by intros; exact fun _ => .inl (by simp)
  modeTick : ∀ s, Keeps inv view s (modeTick s) := by intros; exact fun _ => .inl (by simp)
  -- the Line Meter and the readers of its records
  reportCrossing : ∀ s, Keeps inv view s (reportCrossing s) := by intros; exact fun _ => .inl (by simp)
  addSample : ∀ v s, Keeps inv view s (addSample v s) := by intros; exact fun _ => .inl (by simp)
  missingCrossing : ∀ s, Keeps inv view s (missingCrossing s) := by intros; exact fun _ => .inl (by simp)
  setLock : ∀ good s, Keeps inv view s (setLock (lockStep s.cfg.na s.cfg.nl good s.meter.lockRuns) s) := by
    intros; exact fun _ => .inl (by simp)
  governorRecord : ∀ s, Keeps inv view s (takeGovernorRecord s) := by intros; exact fun _ => .inl (by simp)
  circuitRecord : ∀ r s, Keeps inv view s (circuitRecord r s) := by intros; exact fun _ => .inl (by simp)
  sawRecord : ∀ r s, Keeps inv view s (sawRecord r s) := by intros; exact fun _ => .inl (by simp)
  modeRecord : ∀ r s, Keeps inv view s (modeRecord r s) := by intros; exact fun _ => .inl (by simp)
  -- the channels between the blocks, less the entries to DARK
  handed : ∀ x s, x.dark = s.handed.dark → Keeps inv view s (s.setHanded x) := by
    intro _ _ hx _; exact .inl (by simp [hx])
  -- the entries to DARK and to RUN
  telegramDark : ∀ s, s.handed.dark.telegram = true → Keeps inv view s
      ((s.setTele s.tele.goDark).setHanded
        { s.handed with dark := { s.handed.dark with telegram := false } }) := by
    intros; exact fun _ => .inl (by simp)
  neighbourDark : ∀ s, s.handed.dark.neighbour = true → Keeps inv view s
      ((s.setTable s.table.emptied).setHanded
        { s.handed with dark := { s.handed.dark with neighbour := false } }) := by
    intros; exact fun _ => .inl (by simp)
  admissionDark : ∀ s, s.handed.dark.admission = true → Keeps inv view s
      (admissionGoDark (s.setHanded { s.handed with dark := { s.handed.dark with admission := false } })) := by
    intros; exact fun _ => .inl (by simp)
  circuitDark : ∀ s, s.handed.dark.circuit = true → s.circ.active = true → Keeps inv view s
      ((s.setHanded { s.handed with dark := { s.handed.dark with circuit := false } }).setCirc s.circ.endSpan) := by
    intros; exact fun _ => .inl (by simp)
  circuitDarkInactive : ∀ s, s.handed.dark.circuit = true → s.circ.active = false → Keeps inv view s
      (s.setHanded { s.handed with dark := { s.handed.dark with circuit := false } }) := by
    intros; exact fun _ => .inl (by simp)
  sawDark : ∀ s, s.handed.dark.saw = true → Keeps inv view s
      (s.setHanded { s.handed with dark := { s.handed.dark with saw := false } }) := by
    intros; exact fun _ => .inl (by simp)
  sawLineLost : ∀ s, s.sawWorks = true → Keeps inv view s (sawLineLost s) := by intros; exact fun _ => .inl (by simp)
  gateDark : ∀ s, s.handed.dark.gate = true → Keeps inv view s
      ((s.setGate s.gate.goDark).setHanded { s.handed with dark := { s.handed.dark with gate := false } }) := by
    intros; exact fun _ => .inl (by simp)
  circuitRun : ∀ s, s.mc.mode = .run → Keeps inv view s (circuitRunEntry s) := by intros; exact fun _ => .inl (by simp)
  gateRun : ∀ s, s.cfg.gateFitted = true → s.mc.mode = .run →
      Keeps inv view s (s.setGate { s.gate with active := true }) := by
    intros; exact fun _ => .inl (by simp)
  -- the Telegram Controller
  carrierUp : ∀ s, Keeps inv view s (s.setTele s.tele.carrierUp) := by intros; exact fun _ => .inl (by simp)
  carrierDown : ∀ s, Keeps inv view s (s.setTele s.tele.carrierDown) := by intros; exact fun _ => .inl (by simp)
  cutShort : ∀ s, Keeps inv view s (cutShort s) := by intros; exact fun _ => .inl (by simp)
  gapExpiry : ∀ s, Keeps inv view s (gapExpiry s) := by intros; exact fun _ => .inl (by simp)
  transmissionComplete : ∀ s, Keeps inv view s (transmissionComplete s) := by intros; exact fun _ => .inl (by simp)
  receiveBytes : ∀ bytes s, Keeps inv view s (receiveBytes bytes s) := by intros; exact fun _ => .inl (by simp)
  huntBits : ∀ bits s, Keeps inv view s (huntBits bits s) := by intros; exact fun _ => .inl (by simp)
  qualityPoor : ∀ s, s.mc.mode.online = true → Keeps inv view s (s.setTele (s.tele.qualityDown s.cfg.eq)) := by
    intros; exact fun _ => .inl (by simp)
  claimCopyDue : ∀ k s, Keeps inv view s (settleTx (countClaimCopy k s)) := by intros; exact fun _ => .inl (by simp)
  releaseCopyDue : ∀ k s, Keeps inv view s (settleTx (countReleaseCopy k s)) := by intros; exact fun _ => .inl (by simp)
  statusDue : ∀ s, s.mc.mode.online = true → Keeps inv view s (settleTx (countStatus s)) := by
    intros; exact fun _ => .inl (by simp)
  recallEnds : ∀ s, s.mc.mode.online = true → Keeps inv view s (countRecall s) := by intros; exact fun _ => .inl (by simp)
  duplicateEnds : ∀ s, Keeps inv view s (countDuplicate s) := by intros; exact fun _ => .inl (by simp)
  -- the Neighbour Table
  hearStatus : ∀ h s, Keeps inv view s (hearStatus h s) := by intros; exact fun _ => .inl (by simp)
  neighbourStale : ∀ n s, staleDue n s = true → Keeps inv view s
      (s.setTable
        { s.table with records := s.table.records.map fun r => if r.station = n then r.aged s.cfg.ia else r }) := by
    intros; exact fun _ => .inl (by simp)
  neighbourAgedOut : ∀ n s, agedOutDue n s = true → Keeps inv view s
      ((s.setTable { s.table with records := removeStation n s.table.records }).setHanded
        { s.handed with removed := s.handed.removed ++ [n] }) := by
    intros; exact fun _ => .inl (by simp)
  -- the Admission Controller
  forgetStation : ∀ n s, Keeps inv view s (forgetStation n s) := by intros; exact fun _ => .inl (by simp)
  sheddingRaised : ∀ s, Keeps inv view s (sheddingRaised s) := by intros; exact fun _ => .inl (by simp)
  hearClaim : ∀ owner tag effective amount hold s, Keeps inv view s (hearClaim owner tag effective amount hold s) := by
    intros; exact fun _ => .inl (by simp)
  hearRelease : ∀ owner tag s, Keeps inv view s (hearRelease owner tag s) := by intros; exact fun _ => .inl (by simp)
  createClaim : ∀ k amount cls restore s, Keeps inv view s (createClaim k amount cls restore s) := by
    intros; exact fun _ => .inl (by simp)
  withdrawClaim : ∀ k s, Keeps inv view s (withdrawClaim k s) := by intros; exact fun _ => .inl (by simp)
  holdoffExpiry : ∀ s, Keeps inv view s
      (settleTx
        (decideGroup
          (setOwn (s.adm.own.map fun c => if c.state = .holdoff 1 then { c with state := .holdoff 0 } else c) s))) := by
    intros; exact fun _ => .inl (by simp)
  backoffExpiry : ∀ k s, Keeps inv view s
      (setOwn
        (rejoin
          (s.adm.own.map fun c =>
            if c.circuit = k ∧ c.state = .deferred 1 then { c with state := .deferred 0 } else c)) s) := by
    intros; exact fun _ => .inl (by simp)
  settleExpiry : ∀ k s, Keeps inv view s (settleTx (settleOut k s)) := by intros; exact fun _ => .inl (by simp)
  holdExpiry : ∀ owner tag s, Keeps inv view s
      (setHeard (s.adm.heard.filter fun h => !(h.hasKey owner tag && h.hold == 1)) s) := by
    intros; exact fun _ => .inl (by simp)
  -- the Circuit Controller
  takeAdmitted : ∀ k s, Keeps inv view s (takeAdmitted k s) := by intros; exact fun _ => .inl (by simp)
  takeRefused : ∀ k s, Keeps inv view s (takeRefused k s) := by intros; exact fun _ => .inl (by simp)
  pauseOut : ∀ k s, s.circ.active = true → s.circuitState k = .paused 1 → Keeps inv view s (pauseOut k s) := by
    intros; exact fun _ => .inl (by simp)
  stageShed : ∀ st s, Keeps inv view s (shedOne st (setTimer st 0 s)) := by intros; exact fun _ => .inl (by simp)
  restoreAll : ∀ s, restoreCounts s = true → Keeps inv view s (restoreAll s) := by intros; exact fun _ => .inl (by simp)
  -- the Saw Drive
  countEngage : ∀ s, s.sawWorks = true → s.saw.state = .engaging 1 → Keeps inv view s (countEngage 1 s) := by
    intros; exact fun _ => .inl (by simp)
  countSpinup : ∀ s, s.sawWorks = true → s.saw.state = .spinup 1 → Keeps inv view s (countSpinup 1 s) := by
    intros; exact fun _ => .inl (by simp)
  countReady : ∀ s, s.sawWorks = true → s.saw.state = .ready 1 → Keeps inv view s (countReady 1 s) := by
    intros; exact fun _ => .inl (by simp)
  countRelease : ∀ s, s.sawWorks = true → s.saw.state = .stopping 1 → Keeps inv view s (countRelease 1 s) := by
    intros; exact fun _ => .inl (by simp)
  stall : ∀ s, s.sawWorks = true → s.saw.state = .cutting → Keeps inv view s
      (enterBackoff (s.setSaw { s.saw with stallRun := s.saw.stallRun + 1 })) := by
    intros; exact fun _ => .inl (by simp)
  adaptNow : ∀ s, s.sawWorks = true → s.saw.state = .cutting →
      Keeps inv view s (s.setSaw (s.saw.adaptNow s.cfg)) := by
    intros; exact fun _ => .inl (by simp)
  backoffEnd : ∀ s, s.sawWorks = true → s.saw.state = .backoff 1 → Keeps inv view s (endBackoff s) := by
    intros; exact fun _ => .inl (by simp)
  -- Gate Trim and the Mode Controller
  gateEvaluate : ∀ e s, Keeps inv view s (gateEvaluate e s) := by intros; exact fun _ => .inl (by simp)
  pulseEnd : ∀ s, Keeps inv view s (s.setGate s.gate.rest) := by intros; exact fun _ => .inl (by simp)
  recallHeard : ∀ s, Keeps inv view s (recallHeard s) := by intros; exact fun _ => .inl (by simp)
  recallTimeout : ∀ s, s.mc.mode = .recover → Keeps inv view s (recallTimeout s) := by
    intro _ hm _; exact .inl (by simp [hm])
  enterRun : ∀ s, s.mc.mode = .stagger → Keeps inv view s (enterRun s) := by
    intro _ hm _; exact .inl (by simp [hm])
  countDark : ∀ s, s.mc.mode = .dark → Keeps inv view s (countDark s) := by intros; exact fun _ => .inl (by simp)
  -- the Start Loader
  loader : ∀ x s, x.clampCount = s.loader.clampCount → Keeps inv view s (s.setLoader x) := by
    intro _ _ hx _; exact .inl (by simp [hx])
  startFails : ∀ s, s.mc.mode = .start → Keeps inv view s (startFails s) := by
    intro _ hm _; exact .inl (by simp [hm])
  startSucceeds : ∀ d x s, s.mc.mode = .start →
      Keeps inv view s (startSucceeds (clampConfig d) (s.setLoader x)) := by
    intros; exact fun _ => .inl (by simp)
  -- the Panel Port
  panel : ∀ x s, x.overruns = s.panel.overruns → Keeps inv view s (s.setPanel x) := by
    intro _ _ hx _; exact .inl (by simp [hx])
  panelOverrun : ∀ s, Keeps inv view s (panelOverrun s) := by intros; exact fun _ => .inl (by simp)
  clearAll : ∀ s, Keeps inv view s (clearAll s) := by intros; exact fun _ => .inl (by simp)
  restartHalted : ∀ s, s.mc.mode = .halted → Keeps inv view s (restartHalted s) := by
    intro _ hm _; exact .inl (by simp [hm])
  restartRunning : ∀ s, s.mc.mode ≠ .start → s.mc.mode ≠ .halted → Keeps inv view s (restartRunning s) := by
    intros; exact fun _ => .inl (by simp)

namespace OpsKeep

variable {V : Type} {inv : State → Prop} {view : State → V} (k : OpsKeep inv view)
include k

/-! ### From the operations to the commands -/

theorem keep {s t : State} (h : inv s) (ht : Keeps inv view s t) : inv t := (ht h).elim (k.same · h) id

omit k in
/-- A command that is answered keeps the invariant where its effect does. -/
theorem answer {s t u : State} (h : inv s) (ht : inv t) (hu : answer s t = .next u) : inv u := by
  unfold Machine.answer at hu
  cases hu
  split
  · exact ht
  · exact h

omit k in
/-- An operation behind a guard. -/
theorem guarded {b : Prop} [Decidable b] {s t : State} (h : inv s) (ht : b → inv t) : inv (if b then t else s) := by
  split
  · exact ht ‹_›
  · exact h

theorem elapseTo {s : State} (h : inv s) (instant : Nat) : inv (Machine.elapseTo instant s) :=
  k.keep h (k.elapse _ _)

omit k in
/-- An operation behind two guards. -/
theorem guardedAnd {b c : Bool} {s t : State} (h : inv s) (ht : b = true → c = true → inv t) :
    inv (if b && c then t else s) :=
  guarded h fun hg => ht (Bool.and_eq_true_iff.mp hg).1 (Bool.and_eq_true_iff.mp hg).2

theorem takeTick {s : State} (h : inv s) (p : Pins) (b : TickBlock) : inv (Machine.takeTick p s b) := by
  unfold Machine.takeTick
  refine guarded h fun _ => ?_
  have hs := k.keep h (k.tickWaiting (s.time.tickWaiting.filter fun c => !(c == b)) s)
  cases b with
  | telegram => exact k.keep hs (k.telegramTick _)
  | neighbour => exact k.keep hs (k.neighbourTick _)
  | admission => exact k.keep hs (k.admissionTick _)
  | circuit => exact k.keep hs (k.circuitTick _ _)
  | saw => exact k.keep hs (k.sawTick _ _)
  | gate => exact k.keep hs (k.gateTick _ _)
  | mode => exact k.keep hs (k.modeTick _)

theorem takeTicks (blocks : List TickBlock) (p : Pins) :
    ∀ {s : State}, inv s → inv (blocks.foldl (Machine.takeTick p) s) := by
  induction blocks with
  | nil => exact id
  | cons b rest ih => exact fun h => ih (k.takeTick h p b)

theorem restartPart {s : State} (h : inv s) : inv (Machine.restartPart s) := by
  unfold Machine.restartPart
  split
  case h_1 => exact h
  case h_2 hm => exact k.keep h (k.restartHalted s hm)
  case h_3 hs hh => exact k.keep h (k.restartRunning s hs hh)

theorem beginReply {s : State} (h : inv s) (bytes : List Byte) : inv (Machine.beginReply bytes s) :=
  k.keep h (k.panel _ _ rfl)

theorem takeRequest {s : State} (h : inv s) (b : Byte) : inv (Machine.takeRequest b s) := by
  unfold Machine.takeRequest
  split
  case h_8 => exact k.beginReply (k.keep h (k.clearAll s)) _
  case h_9 => exact k.beginReply (k.restartPart h) _
  all_goals exact k.beginReply h _

theorem panelByte {s : State} (h : inv s) (b : Byte) : inv (Machine.panelByte b s) := by
  have hover := k.keep h (k.panelOverrun s)
  unfold Machine.panelByte
  split
  · exact hover
  · split
    · unfold takeInStart
      split
      · exact hover
      · split
        · exact k.takeRequest h b
        · exact k.keep h (k.panel _ _ rfl)
    · exact k.takeRequest h b

theorem takePending {s : State} (h : inv s) : inv (Machine.takePending s) := by
  unfold Machine.takePending
  split
  · exact k.panelByte (k.keep h (k.panel { s.panel with pendingRequest := none } s rfl)) _
  · exact h

theorem failStart {s : State} (h : inv s) (hm : s.mc.mode = .start) (status : AutoloadStatus) :
    inv (Machine.failStart status s) := by
  have hl := k.keep h (k.loader { s.loader with status := status, phase := .none } s rfl)
  exact k.takePending (k.keep hl (k.startFails _ hm))

theorem notAcknowledged {s : State} (h : inv s) (which : AddressByte) : inv (Machine.notAcknowledged which s) := by
  refine guarded h fun hu => ?_
  have hm : s.mc.mode = .start := by
    simp only [attemptUnderWay, Bool.and_eq_true, beq_iff_eq] at hu
    exact hu.1
  have hl := k.keep h (k.loader { s.loader with bus := failedTransaction which, staging := [] } s rfl)
  dsimp only
  split
  · exact k.keep hl (k.loader _ _ rfl)
  · exact k.failStart hl hm _

theorem attemptDone {s : State} (h : inv s) (bytes : List Byte) : inv (Machine.attemptDone bytes s) := by
  refine guarded h fun hu => ?_
  have hm : s.mc.mode = .start := by
    simp only [attemptUnderWay, Bool.and_eq_true, beq_iff_eq] at hu
    exact hu.1
  have hl := k.keep h (k.loader { s.loader with bus := completeTransaction bytes, staging := bytes } s rfl)
  dsimp only
  split
  · exact k.failStart hl hm _
  · exact k.failStart hl hm _
  · exact k.takePending (k.keep hl (k.startSucceeds _ _ _ hm))

theorem beginAttempt {s : State} (h : inv s) : inv (Machine.beginAttempt s) := k.keep h (k.loader _ _ rfl)

theorem latchStraps {s : State} (h : inv s) (n : Nat) : inv (Machine.latchStraps n s) := by
  refine guarded h fun ⟨hm, _⟩ => ?_
  have ht := k.elapseTo h (strapInstant s)
  have hu := k.keep ht (k.loader { (Machine.elapseTo (strapInstant s) s).loader with strapLatch := n, strapDone := true }
    _ rfl)
  dsimp only
  split
  · exact k.failStart hu (by simpa using hm) _
  · exact k.beginAttempt hu

theorem retryWaitOver {s : State} (h : inv s) : inv (Machine.retryWaitOver s) := by
  unfold Machine.retryWaitOver
  split
  · exact guarded h fun _ => k.beginAttempt (k.elapseTo h _)
  · exact h

theorem replyComplete {s : State} (h : inv s) : inv (Machine.replyComplete s) := by
  unfold Machine.replyComplete
  split
  · exact k.keep (k.elapseTo h _) (k.panel _ _ rfl)
  · exact h

/-- The channels: taking the oldest event of one leaves the entries to DARK as they are. -/
theorem taken {s : State} (h : inv s) {x : Handed} (hx : x.dark = s.handed.dark) : inv (s.setHanded x) :=
  k.keep h (k.handed x s hx)

/-- An operation on the state from which a channel's oldest event has been taken. -/
theorem afterTaking {s t : State} {x : Handed} (h : inv s) (ht : Keeps inv view (s.setHanded x) t)
    (hx : x.dark = s.handed.dark := by rfl) : inv t :=
  k.keep (k.taken h hx) ht

theorem circuitDarkEntry {s : State} (h : inv s) (hd : s.handed.dark.circuit = true) :
    let t := s.setHanded { s.handed with dark := { s.handed.dark with circuit := false } }
    inv (if t.circ.active then t.setCirc t.circ.endSpan else t) := by
  dsimp only
  split
  case isTrue ha => exact k.keep h (k.circuitDark s hd ha)
  case isFalse ha => exact k.keep h (k.circuitDarkInactive s hd (by simpa using ha))

theorem sawDarkEntry {s : State} (h : inv s) (hd : s.handed.dark.saw = true) :
    let t := s.setHanded { s.handed with dark := { s.handed.dark with saw := false } }
    inv (if t.sawWorks then Machine.sawLineLost t else t) := by
  have ht := k.keep h (k.sawDark s hd)
  exact guarded ht fun hw => k.keep ht (k.sawLineLost _ hw)

theorem circuitRunEntry {s : State} (h : inv s) :
    let t := s.setHanded { s.handed with circuitRun := false }
    inv (if t.mc.mode = .run then Machine.circuitRunEntry t else t) := by
  have ht := k.taken h (x := { s.handed with circuitRun := false }) rfl
  exact guarded ht fun hm => k.keep ht (k.circuitRun _ hm)

theorem gateRunEntry {s : State} (h : inv s) :
    let t := s.setHanded { s.handed with gateRun := false }
    inv (if s.cfg.gateFitted && s.mc.mode == .run then t.setGate { t.gate with active := true } else t) := by
  have ht := k.taken h (x := { s.handed with gateRun := false }) rfl
  refine guarded ht fun hg => ?_
  simp only [Bool.and_eq_true, beq_iff_eq] at hg
  exact k.keep ht (k.gateRun _ hg.1 hg.2)

/-- Every command keeps the invariant. -/
theorem exec {c : Instr} {s t : State} (h : inv s) (he : exec c s = .next t) : inv t := by
  have panel : ∀ {dt : Nat} {b : Byte}, Machine.answer s (Machine.panelByte b (Machine.elapse dt s)) = .next t →
      inv t := fun he => answer h (k.panelByte (k.keep h (k.elapse _ s)) _) he
  cases c
  case powerOn => cases he; exact k.same (k.supply s.pending true) k.reset
  case powerLost => cases he; exact k.same (k.supply s.pending false) k.reset
  case stationTick blocks p => exact answer h (k.takeTicks blocks p (k.keep h (k.beginTick s))) he
  case zeroCrossing dt => exact answer h (k.keep (k.keep h (k.elapse dt s)) (k.reportCrossing _)) he
  case adcSample v => exact answer h (k.keep (k.keep h (k.sampleInstant s)) (k.addSample v _)) he
  case missingCrossingEvent => exact answer h (k.keep h (k.missingCrossing s)) he
  case lockAcquired => exact answer h (guarded h fun _ => k.keep h (k.setLock true s)) he
  case lockLost => exact answer h (guarded h fun _ => k.keep h (k.setLock false s)) he
  case governorCycleEnd => exact answer h (k.keep h (k.governorRecord s)) he
  case circuitCycleEnd =>
    refine answer h ?_ he
    split
    · exact h
    · exact k.afterTaking h (k.circuitRecord _ _)
  case sawCycleEnd =>
    refine answer h ?_ he
    split
    · exact h
    · exact k.afterTaking h (k.sawRecord _ _)
  case modeCycleEnd =>
    refine answer h ?_ he
    split
    · exact h
    · exact k.afterTaking h (k.modeRecord _ _)
  case telegramDarkEntry => exact answer h (guarded h fun hd => k.keep h (k.telegramDark s hd)) he
  case neighbourDarkEntry => exact answer h (guarded h fun hd => k.keep h (k.neighbourDark s hd)) he
  case admissionDarkEntry => exact answer h (guarded h fun hd => k.keep h (k.admissionDark s hd)) he
  case circuitDarkEntry => exact answer h (guarded h fun hd => k.circuitDarkEntry h hd) he
  case sawDarkEntry => exact answer h (guarded h fun hd => k.sawDarkEntry h hd) he
  case gateDarkEntry => exact answer h (guarded h fun hd => k.keep h (k.gateDark s hd)) he
  case circuitRunEntry => exact answer h (guarded h fun _ => k.circuitRunEntry h) he
  case gateRunEntry => exact answer h (guarded h fun _ => k.gateRunEntry h) he
  case carrierAppears dt =>
    have ht := k.keep h (k.elapse dt s)
    exact answer h (k.keep ht (k.carrierUp _)) he
  case carrierEnds dt =>
    have ht := k.keep (k.keep h (k.elapse dt s)) (k.cutShort _)
    exact answer h (k.keep ht (k.carrierDown _)) he
  case quietGapExpiry => exact answer h (k.keep h (k.gapExpiry s)) he
  case transmissionComplete => exact answer h (k.keep h (k.transmissionComplete s)) he
  case telegramArrival dt bytes => exact answer h (k.keep (k.keep h (k.elapse dt s)) (k.receiveBytes bytes _)) he
  case telegramAbandoned dt bytes => exact answer h (k.keep (k.keep h (k.elapse dt s)) (k.receiveBytes bytes _)) he
  case delimiterFound dt bits => exact answer h (k.keep (k.keep h (k.elapse dt s)) (k.huntBits bits _)) he
  case receiveQualityPoor =>
    exact answer h (guardedAnd h fun h₁ _ => k.keep h (k.qualityPoor s (Bool.and_eq_true_iff.mp h₁).1)) he
  case neighbourStatusHeard =>
    refine answer h ?_ he
    split
    · exact h
    · exact k.afterTaking h (k.hearStatus _ _)
  case neighbourStale n => exact answer h (guarded h fun hn => k.keep h (k.neighbourStale n s hn)) he
  case neighbourAgedOut n => exact answer h (guarded h fun hn => k.keep h (k.neighbourAgedOut n s hn)) he
  case neighbourRemoved =>
    refine answer h ?_ he
    split
    · exact h
    · exact k.afterTaking h (k.forgetStation _ _)
  case hamletSheddingRaised =>
    exact answer h (guarded h fun _ => k.afterTaking h (k.sheddingRaised _)) he
  case ownSheddingRaised =>
    exact answer h (guarded h fun _ => k.afterTaking h (k.sheddingRaised _)) he
  case heardClaim =>
    refine answer h ?_ he
    split
    · exact k.afterTaking h (k.hearClaim _ _ _ _ _ _)
    · exact h
  case heardRelease =>
    refine answer h ?_ he
    split
    · exact k.afterTaking h (k.hearRelease _ _ _)
    · exact h
  case recallHeard => exact answer h (guarded h fun _ => k.afterTaking h (k.recallHeard _)) he
  case creationRequest =>
    refine answer h ?_ he
    split
    · exact k.afterTaking h (k.createClaim _ _ _ _ _)
    · exact h
  case withdrawal =>
    refine answer h ?_ he
    split
    · exact k.afterTaking h (k.withdrawClaim _ _)
    · exact h
  case admitted =>
    refine answer h ?_ he
    split
    · exact k.afterTaking h (k.takeAdmitted _ _)
    · exact h
  case refused =>
    refine answer h ?_ he
    split
    · exact k.afterTaking h (k.takeRefused _ _)
    · exact h
  case holdoffExpiry => exact answer h (k.keep h (k.holdoffExpiry s)) he
  case backoffExpiry c => exact answer h (k.keep h (k.backoffExpiry c s)) he
  case settleExpiry c => exact answer h (guarded h fun _ => k.keep h (k.settleExpiry c s)) he
  case holdExpiry owner tag => exact answer h (k.keep h (k.holdExpiry owner tag s)) he
  case claimCopyDue c => exact answer h (guarded h fun _ => k.keep h (k.claimCopyDue c s)) he
  case releaseCopyDue c => exact answer h (guarded h fun _ => k.keep h (k.releaseCopyDue c s)) he
  case statusIntervalExpiry =>
    exact answer h (guardedAnd h fun h₁ _ => k.keep h (k.statusDue s h₁)) he
  case recallDurationExpiry =>
    exact answer h (guardedAnd h fun h₁ _ => k.keep h (k.recallEnds s h₁)) he
  case duplicateTimerExpiry => exact answer h (guarded h fun _ => k.keep h (k.duplicateEnds s)) he
  case gateEvaluation =>
    refine answer h ?_ he
    split
    · exact h
    · exact k.afterTaking h (k.gateEvaluate _ _)
  case pulseEnd => exact answer h (guarded h fun _ => k.keep h (k.pulseEnd s)) he
  case pauseExpiry c =>
    exact answer h (guardedAnd h fun h₁ h₂ => k.keep h (k.pauseOut c s h₁ (eq_of_beq h₂))) he
  case stageShed st => exact answer h (guarded h fun _ => k.keep h (k.stageShed st s)) he
  case restore =>
    exact answer h (guardedAnd h fun h₁ _ => k.keep h (k.restoreAll s h₁)) he
  case engageTimeout =>
    exact answer h (guardedAnd h fun h₁ h₂ => k.keep h (k.countEngage s h₁ (eq_of_beq h₂))) he
  case spinupTimeout =>
    exact answer h (guardedAnd h fun h₁ h₂ => k.keep h (k.countSpinup s h₁ (eq_of_beq h₂))) he
  case readyTimeout =>
    exact answer h (guardedAnd h fun h₁ h₂ => k.keep h (k.countReady s h₁ (eq_of_beq h₂))) he
  case releaseTimeout =>
    exact answer h (guardedAnd h fun h₁ h₂ => k.keep h (k.countRelease s h₁ (eq_of_beq h₂))) he
  case stall =>
    exact answer h (guardedAnd h fun h₁₂ _ =>
      let ⟨h₁, h₂⟩ := Bool.and_eq_true_iff.mp h₁₂
      k.keep h (k.stall s h₁ (eq_of_beq h₂))) he
  case adaptationIntervalComplete =>
    exact answer h (guardedAnd h fun h₁₂ _ =>
      let ⟨h₁, h₂⟩ := Bool.and_eq_true_iff.mp h₁₂
      k.keep h (k.adaptNow s h₁ (eq_of_beq h₂))) he
  case sawBackoffEnd =>
    exact answer h (guardedAnd h fun h₁ h₂ => k.keep h (k.backoffEnd s h₁ (eq_of_beq h₂))) he
  case recallWaitExpiry => exact answer h (guarded h fun hg => k.keep h (k.recallTimeout s hg.1)) he
  case staggerExpiry => exact answer h (guarded h fun hg => k.keep h (k.enterRun s hg.1)) he
  case darkMemoryExpiry => exact answer h (guarded h fun hg => k.keep h (k.countDark s hg.1)) he
  case strapLatch straps => exact answer h (k.latchStraps h _) he
  case addressNotAcknowledged dt which => exact answer h (k.notAcknowledged (k.keep h (k.elapse dt s)) which) he
  case autoloadRetryWaitExpiry => exact answer h (k.retryWaitOver h) he
  case attemptComplete dt bytes =>
    change execAttemptComplete dt bytes s = _ at he
    unfold execAttemptComplete at he
    split at he
    · exact answer h (k.attemptDone (k.keep h (k.elapse dt s)) bytes) he
    · cases he
  case replyComplete => exact answer h (k.replyComplete h) he
  all_goals exact panel he

/-- Every step keeps the invariant. -/
theorem everyStepKeeps : EveryStepKeeps inv := by
  intro s t h ht
  unfold step at ht
  split at ht
  · cases ht
    exact h
  · exact k.exec (k.same (k.queue _ s) h) ht

end OpsKeep

end Sys2Proof.Machine

/-! # The configuration in force, and the entries to DARK

The clamps bring a record in range, and which operations leave the mode's owner and the entries to DARK as they are. -/

namespace Sys2Proof.Machine

/-! ### The clamps (R183) -/

theorem clampNat_le (x hi : Nat) : clampNat x 0 hi ≤ hi := (clampNat_within (Nat.zero_le hi) x).2

/-- The first pass brings every field but the linked ones in range, and the second leaves those alone. -/
theorem clampConfig_ok (c : Config) : ConfigOk (clampConfig c) := by
  have u1 : within 200 (clampNat c.u1 200 3000) 3000 := clampNat_within (by decide) _
  have u2 : within 300 (clampNat c.u2 300 5000) 5000 := clampNat_within (by decide) _
  have dsl : within 50 (clampNat c.dsl 50 1000) 1000 := clampNat_within (by decide) _
  have ff : within 50 (clampNat c.ff 50 1000) 1000 := clampNat_within (by decide) _
  have fc : within _ (clampNat c.fc _ 1000) 1000 := clampNat_within ff.2 _
  have dst := fun h => clampNat_within (lo := (clampConfig c).dsl + 50) (hi := (clampConfig c).u1) h c.dst
  have linked : (clampConfig c).dsl + 50 ≤ (clampConfig c).u1 := by
    simp only [clampConfig, clampLinked, clampFixed]
    unfold within at u1
    omega
  have linked_u2 : 300 ≤ (clampConfig c).u2 ∧ (clampConfig c).u2 ≤ 5000 ∧ (clampConfig c).u1 + 100 ≤ (clampConfig c).u2 := by
    simp only [clampConfig, clampLinked, clampFixed]
    unfold within at u1 u2
    omega
  have linked_dsl : 50 ≤ (clampConfig c).dsl ∧ (clampConfig c).dsl ≤ 1000 := by
    simp only [clampConfig, clampLinked, clampFixed]
    unfold within at u1 dsl
    omega
  exact
    { fcfg := clampNat_within (by decide) _, vmin := clampNat_within (by decide) _, k := clampNat_le _ _,
      na := clampNat_within (by decide) _, nl := clampNat_within (by decide) _, kp := clampNat_le _ _,
      ki := clampNat_le _ _, fover := clampNat_within (by decide) _, pb := clampNat_le _ _,
      vn := clampNat_within (by decide) _, hamlet := clampNat_within (by decide) _,
      ia := clampNat_within (by decide) _, nrep := clampNat_within (by decide) _, eq := clampNat_within (by decide) _,
      trd := clampNat_within (by decide) _, lc := clampNat_le _ _, reserve := clampNat_le _ _,
      th := clampNat_within (by decide) _, ts := clampNat_within (by decide) _, tb := clampNat_within (by decide) _,
      nf := clampNat_within (by decide) _, lr := clampNat_le _ _,
      rating := fun k => by cases k <;> exact clampNat_le _ 15000,
      cls := fun k => by cases k <;> exact clampNat_le _ 3,
      u1 := u1, u2 := ⟨linked_u2.1, linked_u2.2.1⟩, u2Linked := linked_u2.2.2, t1 := clampNat_within (by decide) _,
      t2 := clampNat_within (by decide) _, tq := clampNat_within (by decide) _, tr := clampNat_within (by decide) _,
      tce := clampNat_within (by decide) _, trel := clampNat_within (by decide) _,
      msp := clampNat_within (by decide) _, tsu := clampNat_within (by decide) _, dsl := linked_dsl,
      dslLinked := (dst linked).1, dst := (dst linked).2, ff := ff, fc := fc, rr := clampNat_within (by decide) _,
      nst := clampNat_within (by decide) _, nad := clampNat_within (by decide) _, step := clampNat_within (by decide) _,
      rbk := clampNat_within (by decide) _, nbk := clampNat_within (by decide) _, lst := clampNat_within (by decide) _,
      rrt := clampNat_within (by decide) _, tready := clampNat_within (by decide) _, ht := clampNat_le _ _,
      band := clampNat_le _ _, ng := clampNat_within (by decide) _, tgi := clampNat_within (by decide) _,
      lp := clampNat_within (by decide) _, tdm := clampNat_within (by decide) _, trw := clampNat_within (by decide) _,
      tsg := clampNat_within (by decide) _ }

/-- The defaults are in range: the clamps change nothing of them. -/
theorem defaultConfig_ok : ConfigOk defaultConfig := by
  have unchanged : clampConfig defaultConfig = defaultConfig := by decide
  exact unchanged ▸ clampConfig_ok defaultConfig

end Sys2Proof.Machine

/-! # The mode's owner, and the entries to DARK

Which operations leave the mode with its owner, and that only the Mode Controller hands an entry to DARK. -/

namespace Sys2Proof.Machine

/-! ### The mode -/

/-- The modes that belong to the Start Loader. -/
def Mode.held : Mode → Bool
  | .start => true
  | .halted => true
  | _ => false

@[simp] theorem Mode.held_start : Mode.held .start = true := rfl
@[simp] theorem Mode.held_halted : Mode.held .halted = true := rfl
@[simp] theorem Mode.held_dark : Mode.held .dark = false := rfl
@[simp] theorem Mode.held_recover : Mode.held .recover = false := rfl
@[simp] theorem Mode.held_stagger : Mode.held .stagger = false := rfl
@[simp] theorem Mode.held_run : Mode.held .run = false := rfl

theorem held_iff (s : State) : s.held ↔ s.mc.mode.held = true := by
  unfold State.held
  cases s.mc.mode <;> simp

@[simp] theorem enterDark_mode (counted : Bool) (s : State) : (enterDark counted s).mc.mode = .dark := rfl

@[simp] theorem enterStagger_mode (s : State) : (enterStagger s).mc.mode = .stagger := rfl

@[simp] theorem recallTimeout_mode (s : State) : (recallTimeout s).mc.mode = .stagger := rfl

@[simp] theorem enterRun_mode (s : State) : (enterRun s).mc.mode = .run := rfl

@[simp] theorem countDark_mode (s : State) : (countDark s).mc.mode = s.mc.mode := by
  unfold countDark
  dsimp only
  split <;> simp

@[simp] theorem startFails_mode (s : State) : (startFails s).mc.mode = .halted := rfl

@[simp] theorem startSucceeds_mode (c : Config) (s : State) : (startSucceeds c s).mc.mode = .dark := rfl

@[simp] theorem restartHalted_mode (s : State) : (restartHalted s).mc.mode = .start := rfl

@[simp] theorem restartRunning_mode (s : State) : (restartRunning s).mc.mode = .dark := rfl

@[simp] theorem ModeCtl.clearCounters_mode (m : ModeCtl) : m.clearCounters.mode = m.mode := rfl

/-! CLEAR, block by block (R188). -/

@[simp] theorem clearAll_meter (s : State) : (clearAll s).meter = s.meter.clearCounters := rfl
@[simp] theorem clearAll_gov (s : State) : (clearAll s).gov = s.gov.clearCounters := rfl
@[simp] theorem clearAll_tele (s : State) : (clearAll s).tele = s.tele.clearCounters := rfl
@[simp] theorem clearAll_table (s : State) : (clearAll s).table = s.table.clearCounters := rfl
@[simp] theorem clearAll_adm (s : State) : (clearAll s).adm = s.adm.clearCounters := rfl
@[simp] theorem clearAll_circ (s : State) : (clearAll s).circ = s.circ.clearCounters := rfl
@[simp] theorem clearAll_saw (s : State) : (clearAll s).saw = s.saw.clearCounters := rfl
@[simp] theorem clearAll_gate (s : State) : (clearAll s).gate = s.gate.clearCounters := rfl
@[simp] theorem clearAll_mc (s : State) : (clearAll s).mc = s.mc.clearCounters := rfl
@[simp] theorem clearAll_loader (s : State) : (clearAll s).loader = { s.loader with clampCount := 0 } := rfl
@[simp] theorem clearAll_panel (s : State) : (clearAll s).panel = { s.panel with overruns := 0 } := rfl

/-- A Line Record leaves the mode with its owner. -/
@[simp] theorem modeRecord_held (r : LineRecord) (s : State) : (modeRecord r s).mc.mode.held = s.mc.mode.held := by
  unfold modeRecord
  split
  case h_1 hm _ =>
    rw [enterRecover_mode, hm]
    split <;> rfl
  all_goals simp [*]

@[simp] theorem recallHeard_held (s : State) : (recallHeard s).mc.mode.held = s.mc.mode.held := by
  unfold recallHeard
  split <;> simp [*]

/-- The waits end in a mode on the line, and they stand in one. -/
@[simp] theorem modeTick_held (s : State) : (modeTick s).mc.mode.held = s.mc.mode.held := by
  unfold modeTick countRecallWait countStagger
  split
  case h_1 hm => simp
  case h_2 hm => (repeat' split) <;> simp [hm]
  case h_3 hm => (repeat' split) <;> simp [hm]
  case h_4 => rfl

/-! ### The entries to DARK are handed by the Mode Controller alone -/

/-! #### The channels, the meter and the governor -/

@[simp] theorem handRequest_dark (r : Request) (s : State) : (handRequest r s).handed.dark = s.handed.dark := by
  simp [handRequest]

@[simp] theorem handAnswer_dark (a : Answer) (s : State) : (handAnswer a s).handed.dark = s.handed.dark := by
  simp [handAnswer]

@[simp] theorem publish_dark (r : LineRecord) (s : State) : (publish r s).handed.dark = s.handed.dark := by
  simp [publish]

@[simp] theorem cycleEnd_dark (p : Option Nat) (s : State) : (cycleEnd p s).handed.dark = s.handed.dark := by
  simp [cycleEnd]

@[simp] theorem dropRecords_dark (s : State) : (dropRecords s).handed.dark = s.handed.dark := by
  simp [dropRecords]

@[simp] theorem startMeter_dark (f : Nat) (s : State) : (startMeter f s).handed.dark = s.handed.dark := by
  simp [startMeter]

@[simp] theorem reportCrossing_dark (s : State) : (reportCrossing s).handed.dark = s.handed.dark := by
  unfold reportCrossing
  (repeat' split) <;> simp

@[simp] theorem missingCrossing_dark (s : State) : (missingCrossing s).handed.dark = s.handed.dark := by
  unfold missingCrossing
  (repeat' split) <;> simp

@[simp] theorem takeGovernorRecord_dark (s : State) : (takeGovernorRecord s).handed.dark = s.handed.dark := by
  unfold takeGovernorRecord
  (repeat' split) <;> simp

@[simp] theorem startLine_dark (f : Nat) (s : State) : (startLine f s).handed.dark = s.handed.dark := by
  simp [startLine]

/-! #### The Telegram Controller and the Neighbour Table -/

@[simp] theorem composeStatus_dark (s : State) : (composeStatus s).handed.dark = s.handed.dark := by
  simp [composeStatus]

@[simp] theorem telegramRecoverEntry_dark (s : State) : (telegramRecoverEntry s).handed.dark = s.handed.dark := by
  unfold telegramRecoverEntry
  (repeat' split) <;> simp

@[simp] theorem countStatus_dark (s : State) : (countStatus s).handed.dark = s.handed.dark := by
  unfold countStatus
  (repeat' split) <;> simp

@[simp] theorem telegramTick_dark (s : State) : (telegramTick s).handed.dark = s.handed.dark := by
  simp only [telegramTick, Circ.all, List.foldl]
  split <;> simp

@[simp] theorem dispatchTelegram_dark (hamlet kind sender : Nat) (body : List Byte) (h : Handed) :
    (dispatchTelegram hamlet kind sender body h).dark = h.dark := by
  simp only [dispatchTelegram]
  (repeat' split) <;> rfl

@[simp] theorem receiveTelegram_dark (h b c : List Byte) (s : State) :
    (receiveTelegram h b c s).handed.dark = s.handed.dark := by
  simp only [receiveTelegram]
  (repeat' split) <;> simp

@[simp] theorem receiveByte_dark (b : Byte) (s : State) : (receiveByte b s).handed.dark = s.handed.dark := by
  unfold receiveByte
  (repeat' split) <;> simp

theorem foldl_dark {α : Type} (f : α → State → State) (h : ∀ x s, (f x s).handed.dark = s.handed.dark) (l : List α) :
    ∀ s, (l.foldl (fun t x => f x t) s).handed.dark = s.handed.dark := by
  induction l with
  | nil => exact fun _ => rfl
  | cons x rest ih => exact fun s => (ih _).trans (h x s)

@[simp] theorem receiveBytes_dark (bytes : List Byte) (s : State) :
    (receiveBytes bytes s).handed.dark = s.handed.dark := by
  unfold receiveBytes
  split
  case isTrue => exact foldl_dark _ receiveByte_dark bytes s
  case isFalse => rfl

@[simp] theorem hearStatus_dark (h : HeardStatus) (s : State) : (hearStatus h s).handed.dark = s.handed.dark := by
  unfold hearStatus
  (repeat' split) <;> simp

@[simp] theorem neighbourTick_dark (s : State) : (neighbourTick s).handed.dark = s.handed.dark := by
  simp [neighbourTick]

/-! #### The Admission Controller -/

@[simp] theorem deferClaim_dark (c : OwnClaim) (s : State) : (deferClaim c s).handed.dark = s.handed.dark := by
  rw [deferClaim_handed]

@[simp] theorem deferAll_dark (l : List OwnClaim) (s : State) : (deferAll l s).handed.dark = s.handed.dark := by
  induction l generalizing s with
  | nil => rfl
  | cons c rest ih => simp [deferAll, ih]

@[simp] theorem admitClaim_dark (c : OwnClaim) (s : State) : (admitClaim c s).handed.dark = s.handed.dark := by
  simp [admitClaim]

@[simp] theorem applyVerdicts_dark (l : List (OwnClaim × Bool)) (s : State) :
    (applyVerdicts l s).handed.dark = s.handed.dark := by
  induction l generalizing s with
  | nil => rfl
  | cons x rest ih => obtain ⟨c, _ | _⟩ := x <;> simp [applyVerdicts, ih]

@[simp] theorem decideGroup_dark (s : State) : (decideGroup s).handed.dark = s.handed.dark := by
  unfold decideGroup
  (repeat' split) <;> simp

@[simp] theorem sheddingRaised_dark (s : State) : (sheddingRaised s).handed.dark = s.handed.dark := by
  simp [sheddingRaised]

@[simp] theorem createClaim_dark (k : Circ) (a c : Nat) (r : Bool) (s : State) :
    (createClaim k a c r s).handed.dark = s.handed.dark := by
  unfold createClaim
  (repeat' split) <;> simp

@[simp] theorem testAgainst_dark (h : HeardEntry) (s : State) : (testAgainst h s).handed.dark = s.handed.dark := by
  simp [testAgainst]

@[simp] theorem hearClaim_dark (o t e a h : Nat) (s : State) : (hearClaim o t e a h s).handed.dark = s.handed.dark := by
  simp only [hearClaim]
  (repeat' split) <;> simp

@[simp] theorem countHoldoffs_dark (s : State) : (countHoldoffs s).handed.dark = s.handed.dark := by
  simp [countHoldoffs]

@[simp] theorem admissionTick_dark (s : State) : (admissionTick s).handed.dark = s.handed.dark := by
  simp [admissionTick]

/-! #### The Circuit Controller and the Saw Drive -/

@[simp] theorem toWaiting_dark (k : Circ) (r : Bool) (s : State) : (toWaiting k r s).handed.dark = s.handed.dark := by
  simp [toWaiting]

@[simp] theorem toOffWithdrawing_dark (k : Circ) (s : State) : (toOffWithdrawing k s).handed.dark = s.handed.dark := by
  simp [toOffWithdrawing]

@[simp] theorem raiseCircuit4_dark (s : State) : (raiseCircuit4 s).handed.dark = s.handed.dark := by
  unfold raiseCircuit4
  (repeat' split) <;> simp

@[simp] theorem withdrawCircuit4_dark (s : State) : (withdrawCircuit4 s).handed.dark = s.handed.dark := by
  unfold withdrawCircuit4
  (repeat' split) <;> simp

@[simp] theorem enterStopping_dark (s : State) : (enterStopping s).handed.dark = s.handed.dark := by
  simp only [enterStopping]
  (repeat' split) <;> simp

@[simp] theorem clutchAsserted_dark (s : State) : (clutchAsserted s).handed.dark = s.handed.dark := by
  unfold clutchAsserted
  (repeat' split) <;> simp

@[simp] theorem clutchDropped_dark (s : State) : (clutchDropped s).handed.dark = s.handed.dark := by
  unfold clutchDropped
  (repeat' split) <;> simp

@[simp] theorem stopPressed_dark (s : State) : (stopPressed s).handed.dark = s.handed.dark := by
  unfold stopPressed
  (repeat' split) <;> simp

@[simp] theorem startPressed_dark (s : State) : (startPressed s).handed.dark = s.handed.dark := by
  unfold startPressed
  (repeat' split) <;> simp

@[simp] theorem sawInputs_dark (p : Pins) (s : State) : (sawInputs p s).handed.dark = s.handed.dark := by
  simp only [sawInputs, onEvent]
  (repeat' split) <;> simp

@[simp] theorem countEngage_dark (r : Nat) (s : State) : (countEngage r s).handed.dark = s.handed.dark := by
  unfold countEngage
  (repeat' split) <;> simp

@[simp] theorem countSpinup_dark (r : Nat) (s : State) : (countSpinup r s).handed.dark = s.handed.dark := by
  unfold countSpinup
  (repeat' split) <;> simp

@[simp] theorem countReady_dark (r : Nat) (s : State) : (countReady r s).handed.dark = s.handed.dark := by
  unfold countReady
  (repeat' split) <;> simp

@[simp] theorem countSawTimer_dark (s : State) : (countSawTimer s).handed.dark = s.handed.dark := by
  unfold countSawTimer
  (repeat' split) <;> simp

@[simp] theorem sawTick_dark (p : Pins) (s : State) : (sawTick p s).handed.dark = s.handed.dark := by
  unfold sawTick
  (repeat' split) <;> simp

@[simp] theorem sawLineLost_dark (s : State) : (sawLineLost s).handed.dark = s.handed.dark := by
  unfold sawLineLost
  (repeat' split) <;> simp

@[simp] theorem sawRecord_dark (r : LineRecord) (s : State) : (sawRecord r s).handed.dark = s.handed.dark := by
  unfold sawRecord
  (repeat' split) <;> simp

@[simp] theorem sawShed_dark (s : State) : (sawShed s).handed.dark = s.handed.dark := by
  unfold sawShed
  (repeat' split) <;> simp

@[simp] theorem levelAsserted_dark (k : Circ) (s : State) : (levelAsserted k s).handed.dark = s.handed.dark := by
  unfold levelAsserted
  (repeat' split) <;> simp

@[simp] theorem levelDropped_dark (k : Circ) (s : State) : (levelDropped k s).handed.dark = s.handed.dark := by
  unfold levelDropped
  (repeat' split) <;> simp

@[simp] theorem edgePressed_dark (k : Circ) (s : State) : (edgePressed k s).handed.dark = s.handed.dark := by
  unfold edgePressed
  (repeat' split) <;> simp

@[simp] theorem demandEvent_dark (k : Circ) (b : Bool) (s : State) :
    (demandEvent k b s).handed.dark = s.handed.dark := by
  unfold demandEvent
  (repeat' split) <;> simp

@[simp] theorem takeDemand_dark (k : Circ) (d : Debouncer) (v : Bool) (s : State) :
    (takeDemand k d v s).handed.dark = s.handed.dark := by
  unfold takeDemand
  (repeat' split) <;> simp

@[simp] theorem demandStep_dark (p : Pins) (s : State) : (demandStep p s).handed.dark = s.handed.dark := by
  simp [demandStep]

@[simp] theorem pauseOut_dark (k : Circ) (s : State) : (pauseOut k s).handed.dark = s.handed.dark := by
  unfold pauseOut
  (repeat' split) <;> simp

@[simp] theorem countPause_dark (k : Circ) (s : State) : (countPause k s).handed.dark = s.handed.dark := by
  unfold countPause
  (repeat' split) <;> simp

@[simp] theorem pauseStep_dark (s : State) : (pauseStep s).handed.dark = s.handed.dark := by
  unfold pauseStep
  split
  case isTrue => exact foldl_dark _ countPause_dark Circ.switched s
  case isFalse => rfl

@[simp] theorem evaluateStages_dark (s : State) : (evaluateStages s).handed.dark = s.handed.dark := by
  simp [evaluateStages]

@[simp] theorem shedState_dark (k : Circ) (s : State) : (shedState k s).handed.dark = s.handed.dark := by
  unfold shedState
  (repeat' split) <;> simp

@[simp] theorem shedOne_dark (st : Stage) (s : State) : (shedOne st s).handed.dark = s.handed.dark := by
  unfold shedOne
  (repeat' split) <;> simp

@[simp] theorem stageStep_dark (st : Stage) (s : State) : (stageStep st s).handed.dark = s.handed.dark := by
  unfold stageStep
  (repeat' split) <;> simp

@[simp] theorem restoreCircuit_dark (s : State) (k : Circ) : (restoreCircuit s k).handed.dark = s.handed.dark := by
  simp only [restoreCircuit]
  (repeat' split) <;> simp

@[simp] theorem restoreAll_dark (s : State) : (restoreAll s).handed.dark = s.handed.dark := by
  exact foldl_dark (fun k t => restoreCircuit t k) (fun k t => restoreCircuit_dark t k) _ s

@[simp] theorem restoreStep_dark (s : State) : (restoreStep s).handed.dark = s.handed.dark := by
  unfold restoreStep
  (repeat' split) <;> simp

@[simp] theorem circuitTick_dark (p : Pins) (s : State) : (circuitTick p s).handed.dark = s.handed.dark := by
  simp [circuitTick]

@[simp] theorem claimAtRun_dark (s : State) (k : Circ) : (claimAtRun s k).handed.dark = s.handed.dark := by
  simp only [claimAtRun]
  (repeat' split) <;> simp

@[simp] theorem circuitRunEntry_dark (s : State) : (circuitRunEntry s).handed.dark = s.handed.dark := by
  simp only [circuitRunEntry, State.setCirc_handed]
  rw [foldl_dark (fun k t => claimAtRun t k) fun k t => claimAtRun_dark t k]
  simp

@[simp] theorem circuitRecord_dark (r : LineRecord) (s : State) : (circuitRecord r s).handed.dark = s.handed.dark := by
  simp only [circuitRecord]
  (repeat' split) <;> simp

/-! #### The Mode Controller and the Start Loader -/

@[simp] theorem enterRecover_dark (s : State) : (enterRecover s).handed.dark = s.handed.dark := by
  simp only [enterRecover]
  (repeat' split) <;> simp

@[simp] theorem enterRun_dark (s : State) : (enterRun s).handed.dark = s.handed.dark := by
  simp [enterRun]

@[simp] theorem countStagger_dark (s : State) : (countStagger s).handed.dark = s.handed.dark := by
  unfold countStagger
  (repeat' split) <;> simp

@[simp] theorem modeTick_dark (s : State) : (modeTick s).handed.dark = s.handed.dark := by
  unfold modeTick
  (repeat' split) <;> simp

@[simp] theorem restartSaw_dark (s : State) : (restartSaw s).handed.dark = s.handed.dark := by
  simp only [restartSaw]
  (repeat' split) <;> simp

@[simp] theorem restartBlocks_dark (s : State) : (restartBlocks s).handed.dark = s.handed.dark := by
  rw [restartBlocks_eq]
  simp

@[simp] theorem restartHalted_dark (s : State) : (restartHalted s).handed.dark = s.handed.dark := by
  simp [restartHalted]

@[simp] theorem startFails_dark (s : State) : (startFails s).handed.dark = s.handed.dark := by
  simp [startFails]

end Sys2Proof.Machine

/-! # The Neighbour Table stays ascending, bounded and aged right (O54)

Every operation on the table keeps three facts about its records: they ascend, they are 16 at most, and each is FRESH
below the age of 3 × Ia and gone at 8 × Ia. -/

namespace Sys2Proof.Machine

/-! ### One record -/

/-- A record's age is below 8 × Ia, and its condition follows its age (R75). -/
def Neighbour.AgeOk (ia : Nat) (n : Neighbour) : Prop := n.age < 8 * ia ∧ (n.condition = .fresh ↔ n.age < 3 * ia)

/-- The record that a STATUS writes is of age 0 and FRESH. -/
theorem HeardStatus.record_ageOk {ia : Nat} (h : HeardStatus) (hi : 0 < ia) : h.record.AgeOk ia :=
  ⟨by simp only [record]; omega, by simp only [record, true_iff]; omega⟩

/-- A tick ages a record by one, which the age's limit of 65,535 never stops, and makes it STALE at 3 × Ia. -/
theorem Neighbour.AgeOk.aged {ia : Nat} {n : Neighbour} (h : n.AgeOk ia) (hi : ia ≤ 250)
    (hlast : (n.aged ia).agedOut ia = false) : (n.aged ia).AgeOk ia := by
  obtain ⟨hage, hcond⟩ := h
  have hcount : satInc n.age = n.age + 1 := by simp only [satInc]; omega
  simp only [Neighbour.aged, Neighbour.agedOut, hcount, decide_eq_false_iff_not] at hlast ⊢
  refine ⟨by dsimp only; omega, ?_⟩
  dsimp only
  split
  case isTrue => simp; omega
  case isFalse => rw [hcond]; omega

/-! ### The records together -/

/-- The records ascend by station, are 16 at most, and each has the condition of its age. -/
structure RecordsOk (ia : Nat) (l : List Neighbour) : Prop where
  ascending : l.Pairwise fun x y => x.station < y.station
  atMost : l.length ≤ 16
  ages : ∀ n ∈ l, n.AgeOk ia

theorem RecordsOk.empty (ia : Nat) : RecordsOk ia [] := ⟨.nil, by simp, by simp⟩

theorem RecordsOk.filter {ia : Nat} {l : List Neighbour} (h : RecordsOk ia l) (p : Neighbour → Bool) :
    RecordsOk ia (l.filter p) :=
  ⟨h.ascending.filter p, (List.length_filter_le p l).trans h.atMost, fun n hn => h.ages n (List.mem_of_mem_filter hn)⟩

/-- A change of records that keeps their stations keeps their order. -/
theorem pairwise_map_station {l : List Neighbour} (h : l.Pairwise fun x y => x.station < y.station)
    (f : Neighbour → Neighbour) (hf : ∀ n ∈ l, (f n).station = n.station) :
    (l.map f).Pairwise fun x y => x.station < y.station :=
  List.pairwise_map.2 (h.imp_of_mem fun hx hy hxy => by rwa [hf _ hx, hf _ hy])

theorem RecordsOk.map {ia : Nat} {l : List Neighbour} (h : RecordsOk ia l) {f : Neighbour → Neighbour}
    (hf : ∀ n ∈ l, (f n).station = n.station) (ha : ∀ n ∈ l, (f n).AgeOk ia) : RecordsOk ia (l.map f) :=
  ⟨pairwise_map_station h.ascending f hf, by simpa using h.atMost, by simpa using ha⟩

/-- Stations ascend, so that no two records are of one station. -/
theorem RecordsOk.eq_of_station {ia : Nat} {l : List Neighbour} (h : RecordsOk ia l) {x y : Neighbour} (hx : x ∈ l)
    (hy : y ∈ l) (hxy : x.station = y.station) : x = y := by
  have hn : (l.map Neighbour.station).Nodup :=
    (List.pairwise_map.2 (h.ascending.imp fun hlt => Nat.ne_of_lt hlt))
  exact List.inj_on_of_nodup_map hn hx hy hxy

/-- A newcomer enters in order. -/
theorem insertRecord_ascending {r : Neighbour} {l : List Neighbour} (h : l.Pairwise fun x y => x.station < y.station)
    (hnew : ∀ n ∈ l, n.station ≠ r.station) : (insertRecord r l).Pairwise fun x y => x.station < y.station := by
  induction l with
  | nil => simp [insertRecord]
  | cons n ns ih =>
    obtain ⟨hn, hns⟩ := List.pairwise_cons.1 h
    unfold insertRecord
    split
    case isTrue hlt =>
      refine List.pairwise_cons.2 ⟨fun x hx => ?_, h⟩
      rcases List.mem_cons.1 hx with rfl | hx
      · exact hlt
      · exact hlt.trans (hn x hx)
    case isFalse hge =>
      have hlt : n.station < r.station := by
        have := hnew n (by simp)
        omega
      refine List.pairwise_cons.2 ⟨fun x hx => ?_, ih hns fun x hx => hnew x (by simp [hx])⟩
      rcases (mem_insertRecord r x ns).1 hx with rfl | hx
      · exact hlt
      · exact hn x hx

theorem RecordsOk.insert {ia : Nat} {l : List Neighbour} (h : RecordsOk ia l) {r : Neighbour} (hr : r.AgeOk ia)
    (hnew : ∀ n ∈ l, n.station ≠ r.station) (hroom : l.length < 16) : RecordsOk ia (insertRecord r l) := by
  refine ⟨insertRecord_ascending h.ascending hnew, ?_, fun n hn => ?_⟩
  · rw [length_insertRecord]
    omega
  · rcases (mem_insertRecord r n l).1 hn with rfl | hn
    · exact hr
    · exact h.ages n hn

theorem oldestStale_mem {l : List Neighbour} : ∀ {m : Neighbour}, oldestStale l = some m → m ∈ l := by
  induction l with
  | nil => simp [oldestStale]
  | cons n ns ih =>
    intro m hm
    unfold oldestStale olderStale at hm
    split at hm
    case h_1 =>
      split at hm
      case isTrue => simp_all
      case isFalse => cases hm
    case h_2 m' hm' =>
      have hmem := ih hm'
      (repeat' split at hm) <;> simp_all

/-- Hearing a STATUS refreshes a known record, or brings in a new one: into a table with room, or in the place of the
oldest STALE record. -/
theorem RecordsOk.hear {ia : Nat} {t : Table} (h : RecordsOk ia t.records) (hi : 0 < ia) (x : HeardStatus) :
    RecordsOk ia (t.hear x).1.records := by
  have hx := x.record_ageOk hi
  unfold Table.hear
  split
  case isTrue =>
    refine h.map (fun n _ => ?_) fun n hn => ?_ <;> split
    · exact Eq.symm ‹_›
    · rfl
    · exact hx
    · exact h.ages n hn
  case isFalse hnew =>
    have hnew : ∀ n ∈ t.records, n.station ≠ x.record.station := fun n hn he =>
      hnew ((holdsStation_iff _ _).2 ⟨n, hn, he⟩)
    split
    case isTrue hroom => exact h.insert hx hnew hroom
    case isFalse =>
      split
      case h_1 old hold =>
        refine (h.filter _).insert hx (fun n hn => hnew n (List.mem_of_mem_filter hn)) ?_
        have hlt : (removeStation old.station t.records).length < t.records.length :=
          List.length_filter_lt_length_iff_exists.2 ⟨old, oldestStale_mem hold, by simp⟩
        exact hlt.trans_le h.atMost
      case h_2 => exact h

/-! ### The table of a state -/

theorem TableOk.records {s : State} (h : TableOk s) : RecordsOk s.cfg.ia s.table.records :=
  ⟨h.ascending, h.atMost, h.ages⟩

theorem RecordsOk.tableOk {s : State} (h : RecordsOk s.cfg.ia s.table.records) (hc : ConfigOk s.cfg)
    (hh : s.held → s.table.records = []) : TableOk s :=
  ⟨hc, h.ascending, h.atMost, h.ages, hh⟩

/-- An empty table is in order, whatever the mode. -/
theorem tableOk_of_empty {s : State} (hc : ConfigOk s.cfg) (hr : s.table.records = []) : TableOk s :=
  RecordsOk.tableOk (hr ▸ .empty _) hc fun _ => hr

theorem hearStatus_ok {s : State} (h : TableOk s) (x : HeardStatus) : TableOk (hearStatus x s) := by
  unfold hearStatus
  split
  case isTrue hon =>
    have hi : 0 < s.cfg.ia := Nat.lt_of_lt_of_le (by decide) h.config.ia.1
    refine RecordsOk.tableOk (h.records.hear hi x) h.config fun hh => ?_
    rcases hh with hm | hm <;> exact absurd hon (by simp_all [Mode.online])
  case isFalse => exact h

theorem neighbourTick_ok {s : State} (h : TableOk s) : TableOk (neighbourTick s) := by
  refine RecordsOk.tableOk ⟨?_, ?_, fun n hn => ?_⟩ h.config fun hh => ?_
  · exact (pairwise_map_station h.ascending (Neighbour.aged s.cfg.ia) fun _ _ => rfl).filter _
  · exact (List.length_filter_le _ _).trans (by simpa using h.atMost)
  · obtain ⟨hm, hlast⟩ := List.mem_filter.1 hn
    obtain ⟨m, hmem, rfl⟩ := List.mem_map.1 hm
    exact Neighbour.AgeOk.aged (h.ages m hmem) h.config.ia.2 (by simpa using hlast)
  · simp [neighbourTick, h.held hh]

/-- The one record of a station that the next tick would make STALE is not the one that it would remove. -/
theorem neighbourStale_ok {s : State} {n : Nat} (h : TableOk s) (hdue : staleDue n s = true) :
    TableOk
      (s.setTable
        { s.table with records := s.table.records.map fun r => if r.station = n then r.aged s.cfg.ia else r }) := by
  obtain ⟨due, hfind, hdue⟩ := (Option.any_eq_true _ _).1 hdue
  simp only [Bool.and_eq_true, beq_iff_eq] at hdue
  refine RecordsOk.tableOk (h.records.map (fun r _ => ?_) fun r hr => ?_) h.config fun hh => ?_
  · split <;> rfl
  · split
    case isTrue hs =>
      have hmem := List.mem_of_find?_eq_some hfind
      have hstation : due.station = n := by simpa using List.find?_some hfind
      obtain rfl := h.records.eq_of_station hr hmem (hs.trans hstation.symm)
      refine Neighbour.AgeOk.aged (h.ages r hr) h.config.ia.2 ?_
      have := h.config.ia.1
      obtain ⟨-, hage⟩ := hdue
      exact decide_eq_false (by simp only [Neighbour.aged, satInc]; omega)
    case isFalse => exact h.ages r hr
  · simp [h.held hh]

theorem neighbourAgedOut_ok {s : State} (h : TableOk s) (n : Nat) :
    TableOk
      ((s.setTable { s.table with records := removeStation n s.table.records }).setHanded
        { s.handed with removed := s.handed.removed ++ [n] }) :=
  RecordsOk.tableOk (h.records.filter _) h.config fun hh => by simp [h.held hh, removeStation]

/-- Where the mode belongs to the Start Loader, the table is empty. -/
theorem TableOk.empty_of_mode {s : State} (h : TableOk s) {m : Mode} (hm : s.mc.mode = m) (hh : m.held = true) :
    s.table.records = [] :=
  h.held ((held_iff s).2 (by rw [hm]; exact hh))

theorem opsKeep_tableOk : OpsKeep TableOk fun s => (s.cfg, s.table.records, s.mc.mode.held) where
  same hv h := by
    simp only [Prod.mk.injEq] at hv
    obtain ⟨hc, hr, hm⟩ := hv
    refine RecordsOk.tableOk (hc ▸ hr ▸ h.records) (hc ▸ h.config) fun hh => hr ▸ h.held ?_
    exact (held_iff _).2 (hm ▸ (held_iff _).1 hh)
  reset := tableOk_of_empty defaultConfig_ok rfl
  hearStatus x _ h := .inr (hearStatus_ok h x)
  neighbourTick _ h := .inr (neighbourTick_ok h)
  neighbourStale _ _ hdue h := .inr (neighbourStale_ok h hdue)
  neighbourAgedOut n _ _ h := .inr (neighbourAgedOut_ok h n)
  neighbourDark _ _ h := .inr (tableOk_of_empty h.config rfl)
  startFails _ hm h := .inr (tableOk_of_empty defaultConfig_ok (h.empty_of_mode hm rfl))
  startSucceeds d _ _ hm h := .inr (tableOk_of_empty (clampConfig_ok d) (h.empty_of_mode hm rfl))
  clearAll _ _ := .inl (by simp [Table.clearCounters])
  restartHalted _ _ h :=
    .inr (tableOk_of_empty (by simpa using h.config) (by simp [restartHalted, restartBlocks_eq, Table.emptied]))
  restartRunning _ _ _ h :=
    .inr (tableOk_of_empty (by simpa using h.config) (by simp [restartRunning, restartBlocks_eq, Table.emptied]))

/-- Settles O54: every operation on the table keeps its records ascending, bounded and aged right. -/
theorem everyStepKeepsTheNeighbourTable : Obligations.EveryStepKeepsTheNeighbourTable := opsKeep_tableOk.everyStepKeeps

end Sys2Proof.Machine

/-! # RUN is left by an entry to DARK only

The activity of three blocks stands in RUN, or until they take the entry to DARK that ended it. -/

namespace Sys2Proof.Machine

/-- The mode is RUN, or the block, by its flag, has an entry to DARK still to take. -/
def RunOrDark (flag : DarkEntries → Bool) (s : State) : Prop := s.mc.mode = .run ∨ flag s.handed.dark = true

section
variable {flag : DarkEntries → Bool}

theorem RunOrDark.of_eq {s t : State} (h : RunOrDark flag s) (hm : t.mc.mode = s.mc.mode)
    (hd : flag t.handed.dark = flag s.handed.dark) : RunOrDark flag t := by
  unfold RunOrDark
  rwa [hm, hd]

theorem RunOrDark.enterDark (counted : Bool) (s : State) (hf : flag DarkEntries.all = true) :
    RunOrDark flag (enterDark counted s) := .inr hf

theorem RunOrDark.modeTick {s : State} (h : RunOrDark flag s) : RunOrDark flag (modeTick s) := by
  rcases h with hm | hd
  · exact .inl (by simp [Machine.modeTick, hm])
  · exact .inr (by simpa using hd)

theorem RunOrDark.modeRecord {s : State} (h : RunOrDark flag s) (r : LineRecord) (hf : flag DarkEntries.all = true) :
    RunOrDark flag (modeRecord r s) := by
  unfold Machine.modeRecord
  split
  case h_1 hm _ => exact .inr (by simpa [RunOrDark, hm] using h)
  case h_5 => exact h
  all_goals exact .enterDark _ _ hf

theorem RunOrDark.recallHeard {s : State} (h : RunOrDark flag s) : RunOrDark flag (recallHeard s) := by
  unfold Machine.recallHeard
  split
  case h_1 hm => exact .inr (by simpa [RunOrDark, hm] using h)
  case h_2 => exact h

theorem RunOrDark.recallTimeout {s : State} (h : RunOrDark flag s) (hm : s.mc.mode = .recover) :
    RunOrDark flag (recallTimeout s) := .inr (by simpa [RunOrDark, hm] using h)

end

end Sys2Proof.Machine

/-! # Gate Trim's counts stay bounded and its pulses off their limits (O59) -/

namespace Sys2Proof.Machine

/-! ### The gate alone -/

/-- What Gate Trim keeps of its own state: at rest while inactive, its counts within Ng and not both above 0, and no
pulse against its limit. -/
structure Gate.Ok (ng : Nat) (g : Gate) : Prop where
  inactive : g.active = false → g.state = .rest ∧ g.high = 0 ∧ g.low = 0
  counts : g.high ≤ ng ∧ g.low ≤ ng ∧ (g.high = 0 ∨ g.low = 0)
  raising : g.state.raises = true → g.openLimit.level = false
  lowering : g.state.lowers = true → g.closedLimit.level = false
  since : g.sinceLast ≤ 65535

namespace Gate.Ok
variable {ng : Nat} {g : Gate}

/-- A gate at rest with its counts at 0 is in order. -/
theorem of_rest (hs : g.state = .rest) (hh : g.high = 0) (hl : g.low = 0) (ht : g.sinceLast ≤ 65535) : g.Ok ng :=
  ⟨fun _ => ⟨hs, hh, hl⟩, by omega, by simp [hs, TrimState.raises], by simp [hs, TrimState.lowers], ht⟩

theorem rest (h : g.Ok ng) : g.rest.Ok ng :=
  ⟨fun ha => ⟨rfl, (h.inactive ha).2⟩, h.counts, by simp [Gate.rest, TrimState.raises],
    by simp [Gate.rest, TrimState.lowers], h.since⟩

theorem goDark (h : g.Ok ng) : g.goDark.Ok ng := of_rest rfl rfl rfl h.since

theorem restarted : g.restarted.Ok ng := of_rest rfl rfl rfl (Nat.le_refl 65535)

/-- The bounds of an inactive gate do not depend on Ng. -/
theorem of_inactive (h : g.Ok ng) (ha : g.active = false) {n : Nat} : g.Ok n :=
  of_rest (h.inactive ha).1 (h.inactive ha).2.1 (h.inactive ha).2.2 h.since

theorem activated (h : g.Ok ng) : Gate.Ok ng { g with active := true } :=
  ⟨by simp, h.counts, h.raising, h.lowering, h.since⟩

/-- The limit in the pulse's direction stands deasserted, or ends the pulse as it asserts (R167). -/
theorem takeLimits (h : g.Ok ng) (p : Pins) : (g.takeLimits p).Ok ng := by
  have still : ∀ {d : Debouncer} {v : Bool}, d.level = false → ¬d.asserts v = true → (d.sample v).level = false := by
    intro d v hd ha
    simpa [Debouncer.asserts, hd] using ha
  unfold Gate.takeLimits
  split
  case h_1 r hs =>
    split
    case isTrue => exact ⟨fun ha => ⟨rfl, (h.inactive ha).2⟩, h.counts, nofun, nofun, h.since⟩
    case isFalse ha =>
      exact ⟨h.inactive, h.counts, fun _ => still (h.raising (by rw [hs]; rfl)) ha,
        fun hl => by simp [Gate.sampleLimits, hs, TrimState.lowers] at hl, h.since⟩
  case h_2 r hs =>
    split
    case isTrue => exact ⟨fun ha => ⟨rfl, (h.inactive ha).2⟩, h.counts, nofun, nofun, h.since⟩
    case isFalse ha =>
      exact ⟨h.inactive, h.counts, fun hl => by simp [Gate.sampleLimits, hs, TrimState.raises] at hl,
        fun _ => still (h.lowering (by rw [hs]; rfl)) ha, h.since⟩
  case h_3 hs =>
    exact ⟨h.inactive, h.counts, fun hl => by simp [Gate.sampleLimits, hs, TrimState.raises] at hl,
      fun hl => by simp [Gate.sampleLimits, hs, TrimState.lowers] at hl, h.since⟩

theorem countSince (h : g.Ok ng) : g.countSince.Ok ng :=
  ⟨h.inactive, h.counts, h.raising, h.lowering, satInc_le _⟩

/-- A counted pulse goes on in its direction, or ends. -/
theorem countPulse (h : g.Ok ng) : g.countPulse.Ok ng := by
  unfold Gate.countPulse
  split
  case h_1 r hs =>
    split
    case isTrue => exact h.rest
    case isFalse =>
      exact ⟨fun ha => absurd (h.inactive ha).1 (by simp [hs]), h.counts,
        fun _ => h.raising (by rw [hs]; rfl), nofun, h.since⟩
  case h_2 r hs =>
    split
    case isTrue => exact h.rest
    case isFalse =>
      exact ⟨fun ha => absurd (h.inactive ha).1 (by simp [hs]), h.counts, nofun,
        fun _ => h.lowering (by rw [hs]; rfl), h.since⟩
  case h_3 => exact h

/-- A pulse starts while the gate is active and its limit stands deasserted. -/
theorem startRaise (ha : g.active = true) (hl : g.openLimit.level = false) (lp : Nat) : (g.startRaise lp).Ok ng :=
  ⟨fun hi => absurd ha (by simp [show g.active = false from hi]), by simp [Gate.startRaise], fun _ => hl, nofun,
    Nat.zero_le _⟩

theorem startLower (ha : g.active = true) (hl : g.closedLimit.level = false) (lp : Nat) : (g.startLower lp).Ok ng :=
  ⟨fun hi => absurd ha (by simp [show g.active = false from hi]), by simp [Gate.startLower], nofun, fun _ => hl,
    Nat.zero_le _⟩

theorem clearCounts (h : g.Ok ng) : g.clearCounts.Ok ng :=
  ⟨fun ha => ⟨(h.inactive ha).1, rfl, rfl⟩, by simp [Gate.clearCounts], h.raising, h.lowering, h.since⟩

/-- The counts of an active gate are updated against the band: at most one of them is above 0, and none above Ng. -/
theorem judge (h : g.Ok ng) (ha : g.active = true) (cfg : Config) (hn : cfg.ng = ng) (x : Option Nat) :
    (g.judge cfg x).Ok ng := by
  have active : ∀ {p : Prop}, g.active = false → p := fun hi => absurd ha (by simp [hi])
  unfold Gate.judge Gate.updateCounts
  split
  case h_1 =>
    split
    case isTrue => exact ⟨active, by simp [hn], h.raising, h.lowering, h.since⟩
    case isFalse =>
      split
      case isTrue => exact ⟨active, by simp [hn], h.raising, h.lowering, h.since⟩
      case isFalse => exact h.clearCounts
  case h_2 => exact h.clearCounts

end Gate.Ok

@[simp] theorem Gate.judge_active (cfg : Config) (x : Option Nat) (g : Gate) : (g.judge cfg x).active = g.active := by
  unfold Gate.judge Gate.updateCounts
  (repeat' split) <;> rfl

@[simp] theorem Gate.takeLimits_active (p : Pins) (g : Gate) : (g.takeLimits p).active = g.active := by
  unfold Gate.takeLimits
  (repeat' split) <;> rfl

@[simp] theorem Gate.countPulse_active (g : Gate) : g.countPulse.active = g.active := by
  unfold Gate.countPulse
  (repeat' split) <;> rfl

/-! ### The gate of a state -/

theorem GateOk.gate {s : State} (h : GateOk s) : s.gate.Ok s.cfg.ng :=
  ⟨h.inactive, h.counts, h.raising, h.lowering, h.since⟩

theorem GateOk.of_gate {s : State} (h : s.gate.Ok s.cfg.ng)
    (ha : s.gate.active = true → RunOrDark DarkEntries.gate s ∧ s.cfg.gateFitted = true)
    (hh : s.held → s.gate.active = false) : GateOk s :=
  ⟨h.inactive, ha, hh, h.counts, h.raising, h.lowering, h.since⟩

/-- A step of the gate that keeps its activity. -/
theorem GateOk.set {s : State} (h : GateOk s) {g : Gate} (hg : g.Ok s.cfg.ng) (ha : g.active = s.gate.active) :
    GateOk (s.setGate g) :=
  .of_gate hg (fun hx => h.active (ha ▸ hx)) fun hx => ha.trans (h.held hx)

/-- A gate that is not active is in order in every mode. -/
theorem GateOk.of_inactive {s : State} (h : s.gate.Ok s.cfg.ng) (ha : s.gate.active = false) : GateOk s :=
  .of_gate h (fun hx => absurd hx (by simp [ha])) fun _ => ha

theorem GateOk.of_unchanged {s t : State} (hg : t.gate = s.gate) (h : GateOk s) (ha : s.gate.active = false) :
    GateOk t :=
  .of_inactive (hg ▸ h.gate.of_inactive ha) (hg ▸ ha)

/-- A gate that a RESTART has reset. -/
theorem GateOk.of_restarted {s : State} {g : Gate} (hg : s.gate = g.restarted) : GateOk s :=
  .of_inactive (hg ▸ .restarted) (hg ▸ rfl)

/-- A step of the Mode Controller. -/
theorem GateOk.of_mode {s t : State} (h : GateOk s) (hg : t.gate = s.gate) (hc : t.cfg = s.cfg)
    (hm : t.mc.mode.held = s.mc.mode.held)
    (hr : RunOrDark DarkEntries.gate s → RunOrDark DarkEntries.gate t) : GateOk t := by
  refine .of_gate (hg ▸ hc ▸ h.gate) (fun ha => ?_) fun hh => hg ▸ h.held ?_
  · obtain ⟨hrun, hfit⟩ := h.active (hg ▸ ha)
    exact ⟨hr hrun, hc ▸ hfit⟩
  · exact (held_iff s).2 (hm ▸ (held_iff t).1 hh)

theorem gateTick_ok {s : State} (h : GateOk s) (p : Pins) : GateOk (gateTick p s) := by
  have counted := h.set ((h.gate.takeLimits p).countSince.countPulse) (by simp [Gate.countSince])
  unfold gateTick sheddingRaise
  split
  case isTrue hr =>
    simp only [Bool.and_eq_true, Bool.not_eq_true'] at hr
    obtain ⟨⟨⟨hactive, -⟩, -⟩, hlimit⟩ := hr
    exact counted.set (.startRaise hactive hlimit _) rfl
  case isFalse => exact counted

theorem tryPulse_ok {s : State} (h : GateOk s) (ha : s.gate.active = true) : GateOk (tryPulse s) := by
  unfold tryPulse
  split
  case isTrue =>
    split
    case isTrue hl =>
      simp only [lowerAllowed, Bool.and_eq_true, Bool.not_eq_true'] at hl
      obtain ⟨⟨-, hlimit⟩, -⟩ := hl
      exact h.set (.startLower ha hlimit _) rfl
    case isFalse =>
      split
      case isTrue hr =>
        simp only [raiseAllowed, Bool.and_eq_true, Bool.not_eq_true'] at hr
        exact h.set (.startRaise ha hr.2 _) rfl
      case isFalse => exact h
  case isFalse => exact h

theorem gateEvaluate_ok {s : State} (h : GateOk s) (e : EvaluationEvent) : GateOk (gateEvaluate e s) := by
  unfold gateEvaluate
  split
  case isTrue hg =>
    obtain ⟨ha, -⟩ := Bool.and_eq_true_iff.1 hg
    split
    case h_1 => exact h.set h.gate.clearCounts rfl
    case h_2 =>
      have judged := fun x => h.gate.judge ha s.cfg rfl x
      refine tryPulse_ok (h.set ⟨?_, ?_, ?_, ?_, ?_⟩ (by simp)) (by simpa using ha)
      · exact (judged _).inactive
      · exact (judged _).counts
      · exact (judged _).raising
      · exact (judged _).lowering
      · exact (judged _).since
  case isFalse => exact h

theorem opsKeep_gateOk :
    OpsKeep GateOk fun s => (s.cfg, s.gate.clearCounters, s.mc.mode, s.handed.dark.gate) where
  same {s t} hv h := by
    simp only [Prod.mk.injEq] at hv
    obtain ⟨hc, hg, hm, hd⟩ := hv
    have gate : (t.gate.clearCounters).Ok t.cfg.ng := hg ▸ hc ▸ ⟨h.inactive, h.counts, h.raising, h.lowering, h.since⟩
    have active : t.gate.active = s.gate.active := show t.gate.clearCounters.active = _ from hg ▸ rfl
    refine .of_gate ⟨gate.inactive, gate.counts, gate.raising, gate.lowering, gate.since⟩ (fun ha => ?_) fun hh => ?_
    · obtain ⟨hrun, hfit⟩ := h.active (active ▸ ha)
      exact ⟨RunOrDark.of_eq hrun hm hd, hc ▸ hfit⟩
    · exact active.trans (h.held ((held_iff s).2 (hm ▸ (held_iff t).1 hh)))
  reset := .of_inactive (.of_rest rfl rfl rfl (by decide)) rfl
  gateTick p _ h := .inr (gateTick_ok h p)
  gateDark _ _ h := .inr (.of_inactive h.gate.goDark rfl)
  gateRun s hf hm h := .inr (.of_gate h.gate.activated (fun _ => ⟨.inl hm, hf⟩) fun hh => by
    rw [held_iff, State.setGate_mc, hm] at hh; cases hh)
  gateEvaluate e _ h := .inr (gateEvaluate_ok h e)
  pulseEnd _ h := .inr (h.set h.gate.rest rfl)
  modeTick s h := .inr (h.of_mode (by simp) (by simp) (by simp) .modeTick)
  modeRecord r s h := .inr (h.of_mode (by simp) (by simp) (by simp) fun hr => hr.modeRecord r rfl)
  recallHeard s h := .inr (h.of_mode (by simp) (by simp) (by simp) .recallHeard)
  recallTimeout s hm h := .inr (h.of_mode (by simp) (by simp) (by simp [hm]) fun hr => hr.recallTimeout hm)
  enterRun s hm h := .inr (h.of_mode (by simp) (by simp) (by simp [hm]) fun _ => .inl rfl)
  startFails s hm h := .inr (.of_unchanged (by simp) h (h.held (.inl hm)))
  startSucceeds _ _ s hm h := .inr (.of_unchanged (by simp) h (h.held (.inl hm)))
  clearAll _ _ := .inl (by simp [Gate.clearCounters])
  restartHalted s _ _ := .inr (.of_restarted (g := s.gate) (by simp [restartHalted, restartBlocks_eq]))
  restartRunning s _ _ _ := .inr (.of_restarted (g := s.gate) (by simp [restartRunning, restartBlocks_eq]))

/-- Settles O59: every operation on the gate keeps its counts bounded and its pulses off their limits. -/
theorem everyStepKeepsTheGate : Obligations.EveryStepKeepsTheGate := opsKeep_gateOk.everyStepKeeps

end Sys2Proof.Machine

/-! # The feed command stays what the saw's state allows (O58) -/

namespace Sys2Proof.Machine

/-! ### The feed and the base feed of a saw -/

/-- The base feed lies within Ff and Fc, and the feed command is what the state of the saw allows (R137, R146). -/
structure Saw.FeedOk (c : Config) (w : Saw) : Prop where
  base : within c.ff w.baseFeed c.fc
  cutting : w.state = .cutting → 0 ≤ w.feed ∧ w.feed ≤ w.baseFeed
  backoff : ∀ n, w.state = .backoff n → w.feed = -(c.rbk : Int)
  returning : w.state = .returning → w.feed = -(c.rrt : Int)
  still : w.state ≠ .cutting → (∀ n, w.state ≠ .backoff n) → w.state ≠ .returning → w.feed = 0

/-- The states in which the feed moves back. -/
def SawState.movesBack : SawState → Bool
  | .backoff _ => true
  | .returning => true
  | _ => false

namespace Saw.FeedOk
variable {c : Config} {w : Saw}

/-- A feed of 0 is allowed in every state in which the feed does not move back. -/
theorem of_zero (hb : within c.ff w.baseFeed c.fc) (hf : w.feed = 0) (hs : w.state.movesBack = false) : w.FeedOk c :=
  ⟨hb, fun _ => by omega, fun n hn => by simp [hn, SawState.movesBack] at hs,
    fun hr => by simp [hr, SawState.movesBack] at hs, fun _ _ _ => hf⟩

/-- Only the state, the feed and the base feed are read. -/
theorem of_eq {v : Saw} (h : w.FeedOk c) (hs : v.state = w.state) (hf : v.feed = w.feed)
    (hb : v.baseFeed = w.baseFeed) : v.FeedOk c := by
  obtain ⟨base, cutting, backoff, returning, still⟩ := h
  exact ⟨hb ▸ base, hs ▸ hf ▸ hb ▸ cutting, hs ▸ hf ▸ backoff, hs ▸ hf ▸ returning, hs ▸ hf ▸ still⟩

/-- The feed is 0 in a state in which the blade neither cuts nor moves back. -/
theorem zero_of (h : w.FeedOk c) (hc : w.state ≠ .cutting) (hb : w.state.movesBack = false) : w.feed = 0 :=
  h.still hc (fun n hn => by simp [hn, SawState.movesBack] at hb) fun hr => by simp [hr, SawState.movesBack] at hb

end Saw.FeedOk

theorem adaptedFeed_within {c : Config} {fb : Nat} (h : within c.ff fb c.fc) (full low : Bool) :
    within c.ff (adaptedFeed c full low fb) c.fc := by
  unfold within adaptedFeed at *
  (repeat' split) <;> omega

theorem feedFraction_le (c : Config) (m : Int) : feedFraction c m ≤ 1000 := by
  unfold feedFraction
  split
  case isTrue => exact le_rfl
  case isFalse hlow =>
    split
    case isTrue => exact Nat.zero_le _
    case isFalse hpos =>
      have hdiv : Int.tdiv (1000 * m) ((c.dst : Int) - c.dsl) ≤ 1000 := by
        rw [Int.tdiv_eq_ediv_of_nonneg (by omega)]
        exact Int.ediv_le_of_le_mul (by omega) (by omega)
      omega

/-- The target is a part of the base feed. -/
theorem feedTarget_le (fb : Nat) {q : Nat} (h : q ≤ 1000) : fb * q / 1000 ≤ fb :=
  Nat.div_le_of_le_mul (by rw [Nat.mul_comm]; exact Nat.mul_le_mul_right fb h)

theorem moveFeed_within {rr ft : Nat} {feed : Int} (h : 0 ≤ feed) :
    0 ≤ moveFeed rr feed ft ∧ moveFeed rr feed ft ≤ ft := by
  unfold moveFeed
  split <;> omega

/-! ### The transitions of the saw -/

/-- The saw of a state is in order. -/
def feedOk (s : State) : Prop := s.saw.FeedOk s.cfg

section
variable {s : State} (h : feedOk s)
include h

/-- An operation that leaves the saw and the configuration alone. -/
theorem feedOk.of_frame {t : State} (hw : t.saw = s.saw) (hc : t.cfg = s.cfg) : feedOk t := by
  unfold feedOk
  rw [hw, hc]
  exact h

theorem enterIdle_feedOk : feedOk (enterIdle s) := .of_zero h.base rfl rfl

theorem enterFault_feedOk (code : FaultCode) : feedOk (enterFault code s) := .of_zero h.base rfl rfl

theorem enterReady_feedOk : feedOk (enterReady s) := .of_zero h.base rfl rfl

theorem enterSpinup_feedOk (newPass : Bool) : feedOk (enterSpinup newPass s) := by
  refine .of_zero ?_ rfl rfl
  simp only [enterSpinup, State.setSaw_saw, State.setSaw_cfg]
  have hb := h.base
  split
  · exact ⟨le_rfl, hb.1.trans hb.2⟩
  · exact hb

theorem withdrawCircuit4_feedOk : feedOk (withdrawCircuit4 s) := feedOk.of_frame h (by simp) (by simp)

theorem enterStopping_feedOk : feedOk (enterStopping s) := by
  unfold feedOk
  rw [enterStopping_saw]
  refine .of_zero (by simpa [Saw.cleared] using h.base) rfl ?_
  dsimp only
  split <;> rfl

theorem enterReturning_feedOk : feedOk (enterReturning s) := by
  unfold feedOk
  rw [enterReturning_saw]
  by_cases hl : s.saw.returnLimit.level = true
  · exact .of_zero (by simpa [Saw.cleared] using h.base) (by simp [hl]) (by simp [hl, SawState.movesBack])
  · exact ⟨by simpa [Saw.cleared] using h.base, by simp [hl], by simp [hl], by simp [hl], by simp [hl]⟩

theorem enterCutting_feedOk : feedOk (enterCutting s) := by
  have cutting : feedOk (s.setSaw { s.saw.cleared with state := .cutting, feed := 0, stallRun := 0 }) :=
    .of_zero h.base rfl rfl
  unfold enterCutting
  dsimp only
  split
  · exact enterReturning_feedOk cutting
  · exact cutting

theorem endBackoff_feedOk : feedOk (endBackoff s) := by
  unfold endBackoff
  split
  · exact enterReturning_feedOk h
  · exact enterSpinup_feedOk h false

theorem enterBackoff_feedOk : feedOk (enterBackoff s) := by
  have hb := h.base
  unfold enterBackoff
  dsimp only
  generalize ht : s.setSaw _ = t
  have backoff : feedOk t := by
    subst ht
    refine ⟨?_, nofun, fun _ _ => rfl, nofun, fun _ hn => absurd rfl (hn _)⟩
    simp only [State.setSaw_saw, State.setSaw_cfg, within] at hb ⊢
    omega
  split
  · exact endBackoff_feedOk backoff
  · exact backoff

theorem sampleSaw_feedOk (p : Pins) : feedOk (sampleSaw p s) := h.of_eq rfl rfl rfl

theorem clutchAsserted_feedOk : feedOk (clutchAsserted s) := by
  unfold clutchAsserted
  split
  · exact enterFault_feedOk h _
  · exact enterFault_feedOk (withdrawCircuit4_feedOk h) _
  · exact enterSpinup_feedOk h true
  · exact h

theorem clutchDropped_feedOk : feedOk (clutchDropped s) := by
  unfold clutchDropped
  split
  case h_6 => exact enterIdle_feedOk h
  case h_7 => exact h
  all_goals exact enterStopping_feedOk h

theorem returnAsserted_feedOk : feedOk (returnAsserted s) := by
  unfold returnAsserted
  split
  · exact endBackoff_feedOk h
  · exact enterReady_feedOk h
  · exact h

theorem forwardAsserted_feedOk : feedOk (forwardAsserted s) := by
  unfold forwardAsserted
  split
  · exact enterReturning_feedOk h
  · exact h

theorem stopPressed_feedOk : feedOk (stopPressed s) := by
  unfold stopPressed
  split
  case h_1 => exact enterIdle_feedOk (withdrawCircuit4_feedOk h)
  case h_8 =>
    split
    · exact h
    · exact enterIdle_feedOk h
  case h_9 => exact h
  all_goals exact enterStopping_feedOk h

/-- START in IDLE claims the clutch with the feed at 0, which it is there already. -/
theorem startPressed_feedOk : feedOk (startPressed s) := by
  unfold startPressed
  split
  case h_1 hs =>
    have zero : s.saw.feed = 0 := h.zero_of (by simp [hs]) (by simp [hs, SawState.movesBack])
    split
    · exact h.of_eq rfl rfl rfl
    · have claiming : feedOk (s.setSaw { s.saw with state := .claiming }) := .of_zero h.base zero rfl
      exact feedOk.of_frame claiming (by simp) (by simp)
  case h_2 => exact enterSpinup_feedOk h true
  case h_3 => exact h

theorem onEvent_feedOk {f : State → State} (hf : feedOk s → feedOk (f s)) (b : Bool) : feedOk (onEvent b f s) := by
  unfold onEvent
  split
  · exact hf h
  · exact h

theorem sawInputs_feedOk (p : Pins) : feedOk (sawInputs p s) :=
  have h₀ := sampleSaw_feedOk h p
  have h₁ := onEvent_feedOk h₀ clutchAsserted_feedOk _
  have h₂ := onEvent_feedOk h₁ clutchDropped_feedOk _
  have h₃ := onEvent_feedOk h₂ returnAsserted_feedOk _
  have h₄ := onEvent_feedOk h₃ forwardAsserted_feedOk _
  have h₅ := onEvent_feedOk h₄ stopPressed_feedOk _
  onEvent_feedOk h₅ startPressed_feedOk _

theorem testIdleClutch_feedOk : feedOk (testIdleClutch s) := by
  unfold testIdleClutch
  split
  · exact enterFault_feedOk h _
  · exact h

/-- A timer that goes on counting leaves the feed at 0. -/
theorem setState_feedOk {st : SawState} (hc : s.saw.state ≠ .cutting) (hb : s.saw.state.movesBack = false)
    (hst : st.movesBack = false) : feedOk (s.setSaw { s.saw with state := st }) :=
  .of_zero h.base (h.zero_of hc hb) hst

theorem countEngage_feedOk {r : Nat} (hs : s.saw.state = .engaging r) : feedOk (countEngage r s) := by
  unfold countEngage
  split
  · exact enterFault_feedOk (withdrawCircuit4_feedOk h) _
  · exact setState_feedOk h (by simp [hs]) (by rw [hs]; rfl) rfl

theorem countSpinup_feedOk {r : Nat} (hs : s.saw.state = .spinup r) : feedOk (countSpinup r s) := by
  unfold countSpinup
  split
  · exact enterStopping_feedOk h
  · exact setState_feedOk h (by simp [hs]) (by rw [hs]; rfl) rfl

theorem countReady_feedOk {r : Nat} (hs : s.saw.state = .ready r) : feedOk (countReady r s) := by
  unfold countReady
  split
  · exact enterStopping_feedOk h
  · exact setState_feedOk h (by simp [hs]) (by rw [hs]; rfl) rfl

theorem countRelease_feedOk {r : Nat} (hs : s.saw.state = .stopping r) : feedOk (countRelease r s) := by
  unfold countRelease
  split
  · exact enterFault_feedOk h _
  · exact setState_feedOk h (by simp [hs]) (by rw [hs]; rfl) rfl

theorem countSawTimer_feedOk : feedOk (countSawTimer s) := by
  unfold countSawTimer
  split
  case h_1 hs => exact countEngage_feedOk h hs
  case h_2 hs => exact countSpinup_feedOk h hs
  case h_3 hs => exact countReady_feedOk h hs
  case h_4 hs => exact countRelease_feedOk h hs
  case h_5 => exact h

theorem sawTick_feedOk (p : Pins) : feedOk (sawTick p s) := by
  unfold sawTick
  split
  · exact countSawTimer_feedOk (testIdleClutch_feedOk (sawInputs_feedOk h p))
  · exact sampleSaw_feedOk h p

theorem sawLineLost_feedOk : feedOk (sawLineLost s) := by
  unfold sawLineLost
  split
  case h_1 => exact enterIdle_feedOk (withdrawCircuit4_feedOk h)
  case h_8 => exact h
  all_goals exact enterStopping_feedOk h

/-- A cycle end in CUTTING moves the feed within the base feed it has adapted. -/
theorem cuttingCycle_feedOk (hs : s.saw.state = .cutting) (filtered : Nat) : feedOk (cuttingCycle filtered s) := by
  unfold cuttingCycle
  dsimp only
  generalize sawMargin s.cfg s.gov.setPoint filtered = m
  generalize hw : s.saw.addFraction s.cfg (feedFraction s.cfg m) = w
  have added : w.state = .cutting ∧ 0 ≤ w.feed ∧ within s.cfg.ff w.baseFeed s.cfg.fc := by
    subst hw
    unfold Saw.addFraction
    dsimp only
    split
    · exact ⟨hs, (h.cutting hs).1, adaptedFeed_within h.base _ _⟩
    · exact ⟨hs, (h.cutting hs).1, h.base⟩
  obtain ⟨hstate, hfeed, hbase⟩ := added
  generalize (if m ≤ 0 then _ else _ : Nat) = run
  have cutting : feedOk (s.setSaw { w.regulateFeed s.cfg (feedFraction s.cfg m) with stallRun := run }) := by
    have hmove := moveFeed_within (rr := s.cfg.rr) (ft := w.baseFeed * feedFraction s.cfg m / 1000) hfeed
    have htarget := feedTarget_le w.baseFeed (feedFraction_le s.cfg m)
    refine ⟨hbase, fun _ => ⟨hmove.1, hmove.2.trans (Int.ofNat_le.2 htarget)⟩, ?_, ?_, ?_⟩ <;>
      simp [Saw.regulateFeed, hstate]
  split
  · exact enterBackoff_feedOk cutting
  · exact cutting

theorem backoffCycle_feedOk {r : Nat} (hs : s.saw.state = .backoff r) : feedOk (backoffCycle r s) := by
  unfold backoffCycle
  split
  · exact endBackoff_feedOk h
  · exact ⟨h.base, nofun, fun _ _ => h.backoff r hs, nofun, fun _ hn => absurd rfl (hn _)⟩

theorem sawRecord_feedOk (r : LineRecord) : feedOk (sawRecord r s) := by
  unfold sawRecord
  split
  · exact h
  · split
    · exact sawLineLost_feedOk h
    · split
      · split
        · exact enterCutting_feedOk h
        · exact h
      case h_2 hs => exact cuttingCycle_feedOk h hs _
      case h_3 hs => exact backoffCycle_feedOk h hs
      · exact h

theorem adaptNow_feedOk (hs : s.saw.state = .cutting) : feedOk (s.setSaw (s.saw.adaptNow s.cfg)) := by
  have hb := adaptedFeed_within h.base s.saw.adaptFull s.saw.adaptLow
  have hc := (h.cutting hs).1
  refine ⟨hb, fun _ => ?_, ?_, ?_, ?_⟩
  · simp only [State.setSaw_saw, Saw.adaptNow, Saw.completeInterval]
    omega
  all_goals simp [Saw.adaptNow, Saw.completeInterval, hs]

theorem sawAdmitted_feedOk : feedOk (sawAdmitted s) := by
  unfold sawAdmitted
  split
  case h_1 hs => exact setState_feedOk h (by simp [hs]) (by rw [hs]; rfl) rfl
  case h_2 => exact h

theorem sawRefused_feedOk : feedOk (sawRefused s) := by
  unfold sawRefused
  split
  · exact .of_zero h.base rfl rfl
  · exact h

theorem sawShed_feedOk : feedOk (sawShed s) := by
  unfold sawShed
  split
  · exact enterStopping_feedOk (h.of_eq rfl rfl rfl)
  · exact h

theorem shedOne_feedOk (stage : Stage) : feedOk (shedOne stage s) := by
  unfold shedOne
  split
  · exact h
  · unfold shedState
    split
    · exact sawShed_feedOk (feedOk.of_frame h (by simp) (by simp))
    · exact feedOk.of_frame h (by simp) (by simp)

theorem stageStep_feedOk (stage : Stage) : feedOk (stageStep stage s) := by
  have timed : ∀ n, feedOk (setTimer stage n s) := fun n => feedOk.of_frame h (by simp) (by simp)
  unfold stageStep
  split
  · split
    · exact shedOne_feedOk (timed 0) stage
    · exact timed _
  · exact timed 0

theorem circuitTick_feedOk (p : Pins) : feedOk (circuitTick p s) := by
  have begun : feedOk (pauseStep (demandStep p s)) := feedOk.of_frame h (by simp) (by simp)
  have staged := stageStep_feedOk (stageStep_feedOk begun .stage2) .stage1
  exact feedOk.of_frame staged (by simp [circuitTick]) (by simp)

theorem takeAdmitted_feedOk (k : Circ) : feedOk (takeAdmitted k s) := by
  unfold takeAdmitted
  split
  · split
    · exact sawAdmitted_feedOk (feedOk.of_frame h (by simp) (by simp))
    · exact feedOk.of_frame h (by simp) (by simp)
  · exact h

theorem takeRefused_feedOk (k : Circ) : feedOk (takeRefused k s) := by
  unfold takeRefused
  split
  · split
    · exact sawRefused_feedOk (feedOk.of_frame h (by simp) (by simp))
    · exact feedOk.of_frame h (by simp) (by simp)
  · exact h

end

/-! ### A saw in IDLE is not moved by the circuits -/

theorem shedOne_saw (stage : Stage) (s : State) :
    (shedOne stage s).saw = s.saw ∨ s.saw.state.asksClutch = true := by
  unfold shedOne
  split
  · exact .inl rfl
  · unfold shedState sawShed
    (repeat' split) <;> simp_all

theorem stageStep_saw (stage : Stage) (s : State) :
    (stageStep stage s).saw = s.saw ∨ s.saw.state.asksClutch = true := by
  unfold stageStep
  (repeat' split)
  · simpa using shedOne_saw stage (setTimer stage 0 s)
  all_goals exact .inl (by simp)

/-- The circuits move the saw at a tick only where it asks for the clutch. -/
theorem circuitTick_saw (p : Pins) (s : State) :
    (circuitTick p s).saw = s.saw ∨ s.saw.state.asksClutch = true := by
  rcases stageStep_saw .stage2 (pauseStep (demandStep p s)) with h₂ | h₂
  · rcases stageStep_saw .stage1 (stageStep .stage2 (pauseStep (demandStep p s))) with h₁ | h₁
    · exact .inl (by simpa [circuitTick, h₁] using h₂)
    · exact .inr (by simpa [h₂] using h₁)
  · exact .inr (by simpa using h₂)

theorem takeAdmitted_saw (k : Circ) (s : State) : (takeAdmitted k s).saw = s.saw ∨ s.saw.state = .claiming := by
  unfold takeAdmitted sawAdmitted
  (repeat' split) <;> simp_all

theorem takeRefused_saw (k : Circ) (s : State) : (takeRefused k s).saw = s.saw ∨ s.saw.state = .claiming := by
  unfold takeRefused sawRefused
  (repeat' split) <;> simp_all

theorem not_held_of_sawWorks {s : State} (h : s.sawWorks = true) : ¬s.held := by
  simp only [State.sawWorks, Bool.and_eq_true, bne_iff_ne] at h
  exact fun hh => hh.elim h.1.2 h.2

/-! ### The saw of a state -/

theorem SawOk.feed {s : State} (h : SawOk s) : feedOk s :=
  ⟨h.base, h.cutting, h.backoff, h.returning, h.still⟩

theorem SawOk.of_feed {s : State} (h : feedOk s) (hc : ConfigOk s.cfg) (hh : s.held → s.saw.state = .idle) : SawOk s :=
  ⟨hc, h.base, h.cutting, h.backoff, h.returning, h.still, hh⟩

/-- An operation of the drive at work. -/
theorem SawOk.of_works {s t : State} (h : SawOk s) (hw : s.sawWorks = true) (hf : feedOk t) (hc : t.cfg = s.cfg)
    (hm : t.mc = s.mc) : SawOk t :=
  .of_feed hf (hc ▸ h.config) fun hh => absurd (by rw [State.held, ← hm]; exact hh) (not_held_of_sawWorks hw)

/-- An operation that moves the saw only out of a state other than IDLE. -/
theorem SawOk.of_moves {s t : State} (h : SawOk s) (hf : feedOk t) (hc : t.cfg = s.cfg) (hm : t.mc = s.mc)
    (hs : t.saw = s.saw ∨ s.saw.state ≠ .idle) : SawOk t := by
  refine .of_feed hf (hc ▸ h.config) fun hh => ?_
  have idle := h.held (by rw [State.held, ← hm]; exact hh)
  rcases hs with hs | hs
  · rw [hs, idle]
  · exact absurd idle hs

theorem ne_idle_of_asksClutch {st : SawState} (h : st.asksClutch = true) : st ≠ .idle := by
  rintro rfl
  cases h

theorem sawTick_ok {s : State} (h : SawOk s) (p : Pins) : SawOk (sawTick p s) := by
  by_cases hw : s.sawWorks = true
  · exact h.of_works hw (sawTick_feedOk h.feed p) (by simp) (by simp)
  · refine .of_feed (sawTick_feedOk h.feed p) (by simpa using h.config) fun hh => ?_
    have idle := h.held (by simpa [State.held] using hh)
    simpa [sawTick, hw, sampleSaw] using idle

theorem sawRecord_ok {s : State} (h : SawOk s) (r : LineRecord) : SawOk (sawRecord r s) := by
  by_cases hw : s.sawWorks = true
  · exact h.of_works hw (sawRecord_feedOk h.feed r) (by simp) (by simp)
  · simpa [sawRecord, hw] using h

/-- At a start the feed is 0 and the base feed Ff, in IDLE. -/
theorem SawOk.of_start {s : State} (hc : ConfigOk s.cfg) (hs : s.saw.state = .idle) (hf : s.saw.feed = 0)
    (hb : s.saw.baseFeed = s.cfg.ff) : SawOk s := by
  refine .of_feed (.of_zero ?_ hf (by rw [hs]; rfl)) hc fun _ => hs
  rw [hb]
  exact ⟨le_rfl, hc.fc.1⟩

theorem SawOk.of_restarted {s : State} {w : Saw} (hc : ConfigOk s.cfg) (hw : s.saw = w.restarted s.cfg.ff) : SawOk s :=
  .of_start hc (by rw [hw]; rfl) (by rw [hw]; rfl) (by rw [hw]; rfl)

theorem SawOk.idle_of_mode {s : State} (h : SawOk s) {m : Mode} (hm : s.mc.mode = m) (hh : m.held = true) :
    s.saw.state = .idle ∧ s.saw.feed = 0 := by
  have idle := h.held ((held_iff s).2 (by rw [hm]; exact hh))
  exact ⟨idle, h.feed.zero_of (by simp [idle]) (by rw [idle]; rfl)⟩

theorem opsKeep_sawOk : OpsKeep SawOk fun s => (s.cfg, s.saw.clearCounters, s.mc.mode.held) where
  same {s t} hv h := by
    simp only [Prod.mk.injEq] at hv
    obtain ⟨hc, hw, hm⟩ := hv
    have state : t.saw.state = s.saw.state := show t.saw.clearCounters.state = _ from hw ▸ rfl
    refine .of_feed ?_ (hc ▸ h.config) fun hh => state.trans (h.held ((held_iff s).2 (hm ▸ (held_iff t).1 hh)))
    unfold feedOk
    rw [hc]
    exact h.feed.of_eq state (show t.saw.clearCounters.feed = _ from hw ▸ rfl)
      (show t.saw.clearCounters.baseFeed = _ from hw ▸ rfl)
  reset := .of_start defaultConfig_ok rfl rfl rfl
  circuitTick p s h := .inr <| h.of_moves (circuitTick_feedOk h.feed p) (by simp) (by simp)
    ((circuitTick_saw p s).imp_right ne_idle_of_asksClutch)
  sawTick p _ h := .inr (sawTick_ok h p)
  sawRecord r _ h := .inr (sawRecord_ok h r)
  sawLineLost _ hw h := .inr (h.of_works hw (sawLineLost_feedOk h.feed) (by simp) (by simp))
  takeAdmitted k s h := .inr <| h.of_moves (takeAdmitted_feedOk h.feed k) (by simp) (by simp)
    ((takeAdmitted_saw k s).imp_right fun hs => by simp [hs])
  takeRefused k s h := .inr <| h.of_moves (takeRefused_feedOk h.feed k) (by simp) (by simp)
    ((takeRefused_saw k s).imp_right fun hs => by simp [hs])
  stageShed st s h := .inr <| h.of_moves (shedOne_feedOk (feedOk.of_frame h.feed (by simp) (by simp)) st) (by simp)
    (by simp) ((by simpa using shedOne_saw st (setTimer st 0 s) : _ ∨ _).imp_right ne_idle_of_asksClutch)
  countEngage _ hw hs h := .inr (h.of_works hw (countEngage_feedOk h.feed hs) (by simp) (by simp))
  countSpinup _ hw hs h := .inr (h.of_works hw (countSpinup_feedOk h.feed hs) (by simp) (by simp))
  countReady _ hw hs h := .inr (h.of_works hw (countReady_feedOk h.feed hs) (by simp) (by simp))
  countRelease _ hw hs h := .inr (h.of_works hw (countRelease_feedOk h.feed hs) (by simp) (by simp))
  stall _ hw _ h := .inr (h.of_works hw (enterBackoff_feedOk (h.feed.of_eq rfl rfl rfl)) (by simp) (by simp))
  adaptNow _ hw hs h := .inr (h.of_works hw (adaptNow_feedOk h.feed hs) (by simp) (by simp))
  backoffEnd _ hw _ h := .inr (h.of_works hw (endBackoff_feedOk h.feed) (by simp) (by simp))
  startFails s hm h :=
    have idle := h.idle_of_mode hm rfl
    .inr (.of_start defaultConfig_ok idle.1 idle.2 rfl)
  startSucceeds d _ _ hm h :=
    have idle := h.idle_of_mode hm rfl
    .inr (.of_start (clampConfig_ok d) idle.1 idle.2 rfl)
  clearAll _ _ := .inl (by simp [Saw.clearCounters])
  restartHalted s _ h :=
    .inr (.of_restarted (w := s.saw) (by simpa using h.config) (by simp [restartHalted, restartBlocks_eq]))
  restartRunning s _ _ h :=
    .inr (.of_restarted (w := s.saw) (by simpa using h.config) (by simp [restartRunning, restartBlocks_eq]))

/-- Settles O58: every transition of the saw sets the feed to what its state allows, and a cycle end in CUTTING keeps it
within the base feed. -/
theorem everyStepKeepsTheFeed : Obligations.EveryStepKeepsTheFeed := opsKeep_sawOk.everyStepKeeps

end Sys2Proof.Machine

/-! # Circuits are in use only in the active span, and circuit 4 with the saw; the rotation lists (O57) -/

namespace Sys2Proof.Machine

/-! ### Rules of the circuit table -/

@[simp] theorem setCircuitState_active (k : Circ) (st : CircuitState) (s : State) :
    (setCircuitState k st s).circ.active = s.circ.active := rfl

@[simp] theorem toWaiting_active (k : Circ) (r : Bool) (s : State) :
    (toWaiting k r s).circ.active = s.circ.active := rfl

@[simp] theorem toOffWithdrawing_active (k : Circ) (s : State) :
    (toOffWithdrawing k s).circ.active = s.circ.active := rfl

theorem toWaiting_circuitState_self (k : Circ) (r : Bool) (s : State) : (toWaiting k r s).circuitState k = .waiting :=
  setCircuitState_circuitState_self k .waiting s

theorem toWaiting_circuitState_of_ne {j k : Circ} (h : j ≠ k) (r : Bool) (s : State) :
    (toWaiting k r s).circuitState j = s.circuitState j := setCircuitState_circuitState_of_ne h .waiting s

/-- The withdrawal of circuit 4 reads the circuits only. -/
theorem withdrawCircuit4_setSaw_circ (s : State) (w : Saw) :
    (withdrawCircuit4 (s.setSaw w)).circ = (withdrawCircuit4 s).circ := by
  unfold withdrawCircuit4
  rw [show (s.setSaw w).circuitState .c4 = s.circuitState .c4 from rfl, State.setSaw_circ]
  cases s.circuitState .c4 <;> cases s.circ.active <;> rfl

theorem enterStopping_circ (s : State) : (enterStopping s).circ = (withdrawCircuit4 s).circ := by
  unfold enterStopping
  dsimp only
  split <;> simp [withdrawCircuit4_setSaw_circ]

/-! ### The entries to states that ask for the clutch (R137) -/

theorem enterReturning_asks (s : State) : (enterReturning s).saw.state.asksClutch = true := by
  rw [enterReturning_saw]
  dsimp only
  split <;> rfl

theorem enterCutting_asks (s : State) : (enterCutting s).saw.state.asksClutch = true := by
  unfold enterCutting
  dsimp only
  split
  · exact enterReturning_asks _
  · rfl

theorem endBackoff_asks (s : State) : (endBackoff s).saw.state.asksClutch = true := by
  unfold endBackoff
  split
  · exact enterReturning_asks _
  · rfl

theorem enterBackoff_asks (s : State) : (enterBackoff s).saw.state.asksClutch = true := by
  unfold enterBackoff
  dsimp only
  split
  · exact endBackoff_asks _
  · rfl

theorem cuttingCycle_asks (f : Nat) {s : State} (h : s.saw.state = .cutting) :
    (cuttingCycle f s).saw.state.asksClutch = true := by
  have added : ∀ q, (s.saw.addFraction s.cfg q).state = .cutting := fun q => by
    unfold Saw.addFraction
    dsimp only
    split <;> exact h
  unfold cuttingCycle
  dsimp only
  generalize sawMargin s.cfg s.gov.setPoint f = m
  generalize feedFraction s.cfg m = q
  generalize hw : (s.saw.addFraction s.cfg q).regulateFeed s.cfg q = w
  have state : w.state = .cutting := by
    subst hw
    exact added q
  generalize (if m ≤ 0 then _ else _ : Nat) = run
  split
  · exact enterBackoff_asks _
  · simp [state, SawState.asksClutch]

theorem backoffCycle_asks (r : Nat) (s : State) : (backoffCycle r s).saw.state.asksClutch = true := by
  unfold backoffCycle
  split
  · exact endBackoff_asks _
  · rfl

/-! ### What keeps the circuits in order -/

namespace CircuitsOk
variable {s t : State}

/-- An operation on other parts. -/
theorem of_eq (h : CircuitsOk s) (ht : t.circ.table = s.circ.table) (ha : t.circ.active = s.circ.active)
    (hs : t.saw.state = s.saw.state) (hm : t.mc.mode = s.mc.mode)
    (hd : t.handed.dark.circuit = s.handed.dark.circuit) : CircuitsOk t := by
  obtain ⟨inactive, active, on, waiting, shed, paused, mark⟩ := h
  have state : ∀ k, t.circuitState k = s.circuitState k := fun k => by simp only [State.circuitState, ht]
  constructor
  · exact fun hi k => (state k).trans (inactive (ha ▸ hi) k)
  · exact fun hi => by rw [hm, hd]; exact active (ha ▸ hi)
  · rwa [state, hs]
  · rwa [state, hs]
  · rwa [state]
  · simpa only [state] using paused
  · rwa [ht]

/-- The saw moves between states that ask for the clutch, or while circuit 4 is OFF. -/
theorem of_saw (h : CircuitsOk s) (hc : t.circ = s.circ) (hm : t.mc.mode = s.mc.mode)
    (hd : t.handed.dark.circuit = s.handed.dark.circuit)
    (hs : (s.saw.state.asksClutch = true ∧ t.saw.state.asksClutch = true) ∨ s.circuitState .c4 = .off) :
    CircuitsOk t := by
  obtain ⟨inactive, active, on, waiting, shed, paused, mark⟩ := h
  have state : ∀ k, t.circuitState k = s.circuitState k := fun k => by simp only [State.circuitState, hc]
  refine ⟨?_, ?_, fun ho => ?_, fun hw => ?_, ?_, ?_, ?_⟩
  · simpa only [hc, state] using inactive
  · rwa [hc, hm, hd]
  · rw [state] at ho
    rcases hs with hs | hs
    · exact hs.2
    · exact absurd (ho.symm.trans hs) nofun
  · rw [state] at hw
    rcases hs with hs | hs
    · exact absurd hs.1 (by simp [waiting hw, SawState.asksClutch])
    · exact absurd (hw.symm.trans hs) nofun
  · rwa [state]
  · simpa only [state] using paused
  · rwa [hc]

/-- In a state that neither claims nor asks for the clutch, circuit 4 is OFF. -/
theorem c4_off (h : CircuitsOk s) (hc : s.saw.state ≠ .claiming) (ha : s.saw.state.asksClutch = false) :
    s.circuitState .c4 = .off := by
  cases hk : s.circuitState .c4 with
  | off => rfl
  | waiting => exact absurd (h.sawWaiting hk) hc
  | on => exact absurd (h.sawOn hk) (by simp [ha])
  | shed => exact absurd hk h.sawNotShed
  | paused n => exact absurd hk (h.sawNotPaused n)

/-- A switched circuit changes its state in the active span. -/
theorem setSwitched (h : CircuitsOk s) {k : Circ} (hk : k ≠ .c4) (ha : s.circ.active = true) (st : CircuitState) :
    CircuitsOk (setCircuitState k st s) := by
  obtain ⟨-, active, on, waiting, shed, paused, mark⟩ := h
  have c4 := setCircuitState_circuitState_of_ne hk.symm st s
  refine ⟨fun hi => absurd ha (by simp [show s.circ.active = false from hi]), active, ?_, ?_, ?_, ?_, ?_⟩
  · rw [c4]; exact on
  · rw [c4]; exact waiting
  · rw [c4]; exact shed
  · simpa only [c4] using paused
  · simpa [setCircuitState, five_get_set_of_ne _ hk.symm] using mark

/-- Circuit 4 takes a state that the saw allows, in the active span or OFF. -/
theorem setC4 (h : CircuitsOk s) {st : CircuitState} (hst : st = .off ∨ s.circ.active = true)
    (ho : st = .on → s.saw.state.asksClutch = true) (hw : st = .waiting → s.saw.state = .claiming) (hs : st ≠ .shed)
    (hp : ∀ n, st ≠ .paused n) : CircuitsOk (setCircuitState .c4 st s) := by
  obtain ⟨inactive, active, -, -, -, -, mark⟩ := h
  have c4 := setCircuitState_circuitState_self .c4 st s
  refine ⟨fun hi k => ?_, active, ?_, ?_, ?_, ?_, mark⟩
  · have hi : s.circ.active = false := hi
    by_cases hk : k = .c4
    · rw [hk, c4]
      exact hst.resolve_right (by simp [hi])
    · rw [setCircuitState_circuitState_of_ne hk]
      exact inactive hi k
  · rw [c4]; exact ho
  · rw [c4]; exact hw
  · rw [c4]; exact hs
  · simpa only [c4] using hp

theorem toWaiting (h : CircuitsOk s) {k : Circ} (hk : k ≠ .c4) (ha : s.circ.active = true) (r : Bool) :
    CircuitsOk (toWaiting k r s) := (h.setSwitched hk ha .waiting).of_eq rfl rfl rfl rfl rfl

theorem toOff (h : CircuitsOk s) {k : Circ} (hk : k ≠ .c4) (ha : s.circ.active = true) :
    CircuitsOk (toOffWithdrawing k s) := (h.setSwitched hk ha .off).of_eq rfl rfl rfl rfl rfl

theorem c4ToOff (h : CircuitsOk s) : CircuitsOk (toOffWithdrawing .c4 s) :=
  (h.setC4 (st := .off) (.inl rfl) nofun nofun nofun nofun).of_eq rfl rfl rfl rfl rfl

/-- The withdrawal of circuit 4 leaves it OFF. -/
theorem withdraw (h : CircuitsOk s) :
    CircuitsOk (withdrawCircuit4 s) ∧ (withdrawCircuit4 s).circuitState .c4 = .off := by
  rw [withdrawCircuit4_eq]
  split
  case isTrue => exact ⟨h.c4ToOff, setCircuitState_circuitState_self .c4 .off s⟩
  case isFalse hn =>
    refine ⟨h, ?_⟩
    cases ha : s.circ.active with
    | false => exact h.inactive ha .c4
    | true =>
      cases hk : s.circuitState .c4 with
      | off => rfl
      | waiting => exact absurd ⟨ha, .inl hk⟩ hn
      | on => exact absurd ⟨ha, .inr hk⟩ hn
      | shed => exact absurd hk h.sawNotShed
      | paused n => exact absurd hk (h.sawNotPaused n)

/-- After the withdrawal of circuit 4 the saw may take any state. -/
theorem of_withdrawn (h : CircuitsOk s) (hc : t.circ = (withdrawCircuit4 s).circ) (hm : t.mc.mode = s.mc.mode)
    (hd : t.handed.dark.circuit = s.handed.dark.circuit) : CircuitsOk t :=
  h.withdraw.1.of_saw hc (by simpa using hm) (by simpa using hd) (.inr h.withdraw.2)

/-! ### The transitions of the saw -/

theorem enterStopping (h : CircuitsOk s) : CircuitsOk (enterStopping s) :=
  h.of_withdrawn (enterStopping_circ s) (by simp) (by simp)

/-- A move among the states that ask for the clutch. -/
theorem asking (h : CircuitsOk s) (hc : t.circ = s.circ) (hm : t.mc = s.mc) (hd : t.handed = s.handed)
    (hs : s.saw.state.asksClutch = true) (ht : t.saw.state.asksClutch = true) : CircuitsOk t :=
  h.of_saw hc (by rw [hm]) (by rw [hd]) (.inl ⟨hs, ht⟩)

/-- A move out of a state in which circuit 4 is OFF. -/
theorem resting (h : CircuitsOk s) (hc : t.circ = s.circ) (hm : t.mc = s.mc) (hd : t.handed = s.handed)
    (hs : s.circuitState .c4 = .off) : CircuitsOk t :=
  h.of_saw hc (by rw [hm]) (by rw [hd]) (.inr hs)

theorem sampleSaw (h : CircuitsOk s) (p : Pins) : CircuitsOk (sampleSaw p s) := h.of_eq rfl rfl rfl rfl rfl

theorem clutchAsserted (h : CircuitsOk s) : CircuitsOk (clutchAsserted s) := by
  unfold Machine.clutchAsserted
  split
  case h_1 hs => exact h.resting (by simp) (by simp) (by simp) (h.c4_off (by simp [hs]) (by rw [hs]; rfl))
  case h_2 hs => exact h.of_withdrawn (by simp) (by simp) (by simp)
  case h_3 hs => exact h.asking (by simp) (by simp) (by simp) (by rw [hs]; rfl) rfl
  case h_4 => exact h

theorem clutchDropped (h : CircuitsOk s) : CircuitsOk (clutchDropped s) := by
  unfold Machine.clutchDropped
  split
  case h_6 hs => exact h.resting (by simp) (by simp) (by simp) (h.c4_off (by simp [hs]) (by rw [hs]; rfl))
  case h_7 => exact h
  all_goals exact h.enterStopping

theorem returnAsserted (h : CircuitsOk s) : CircuitsOk (returnAsserted s) := by
  unfold Machine.returnAsserted
  split
  case h_1 hs => exact h.asking (by simp) (by simp) (by simp) (by rw [hs]; rfl) (endBackoff_asks s)
  case h_2 hs => exact h.asking (by simp) (by simp) (by simp) (by rw [hs]; rfl) rfl
  case h_3 => exact h

theorem forwardAsserted (h : CircuitsOk s) : CircuitsOk (forwardAsserted s) := by
  unfold Machine.forwardAsserted
  split
  case h_1 hs => exact h.asking (by simp) (by simp) (by simp) (by rw [hs]; rfl) (enterReturning_asks s)
  case h_2 => exact h

theorem stopPressed (h : CircuitsOk s) : CircuitsOk (stopPressed s) := by
  unfold Machine.stopPressed
  split
  case h_1 hs => exact h.of_withdrawn (by simp) (by simp) (by simp)
  case h_8 hs =>
    split
    · exact h
    · exact h.resting (by simp) (by simp) (by simp) (h.c4_off (by simp [hs]) (by rw [hs]; rfl))
  case h_9 => exact h
  all_goals exact h.enterStopping

/-- START in IDLE takes circuit 4 to WAITING and the saw to CLAIMING together, in the active span (R121, R139). -/
theorem startPressed (h : CircuitsOk s) : CircuitsOk (startPressed s) := by
  unfold Machine.startPressed
  split
  case h_1 hs =>
    have off := h.c4_off (by simp [hs]) (by rw [hs]; rfl)
    split
    case isTrue => exact h.of_eq rfl rfl rfl rfl rfl
    case isFalse hr =>
      simp only [raiseRefused, Bool.or_eq_true, Bool.not_eq_true', not_or] at hr
      obtain ⟨⟨hactive, -⟩, -⟩ := hr
      have claiming : CircuitsOk (s.setSaw { s.saw with state := .claiming }) := h.resting rfl rfl rfl off
      unfold raiseCircuit4
      rw [show (s.setSaw { s.saw with state := .claiming }).circuitState .c4 = .off from off]
      refine (claiming.setC4 (st := .waiting) (.inr ?_) nofun (fun _ => rfl) nofun nofun).of_eq rfl rfl rfl rfl rfl
      simpa using hactive
  case h_2 hs => exact h.asking (by simp) (by simp) (by simp) (by rw [hs]; rfl) rfl
  case h_3 => exact h

theorem onEvent {f : State → State} (h : CircuitsOk s) (hf : CircuitsOk s → CircuitsOk (f s)) (b : Bool) :
    CircuitsOk (onEvent b f s) := by
  unfold Machine.onEvent
  split
  · exact hf h
  · exact h

theorem sawInputs (h : CircuitsOk s) (p : Pins) : CircuitsOk (sawInputs p s) :=
  have h₀ := h.sampleSaw p
  have h₁ := h₀.onEvent clutchAsserted _
  have h₂ := h₁.onEvent clutchDropped _
  have h₃ := h₂.onEvent returnAsserted _
  have h₄ := h₃.onEvent forwardAsserted _
  have h₅ := h₄.onEvent stopPressed _
  h₅.onEvent startPressed _

theorem testIdleClutch (h : CircuitsOk s) : CircuitsOk (testIdleClutch s) := by
  unfold Machine.testIdleClutch
  split
  case isTrue hs => exact h.resting (by simp) (by simp) (by simp) (h.c4_off (by simp [hs.1]) (by rw [hs.1]; rfl))
  case isFalse => exact h

theorem countEngage (h : CircuitsOk s) {r : Nat} (hs : s.saw.state = .engaging r) : CircuitsOk (countEngage r s) := by
  unfold Machine.countEngage
  split
  · exact h.of_withdrawn (by simp) (by simp) (by simp)
  · exact h.asking rfl rfl rfl (by rw [hs]; rfl) rfl

theorem countSpinup (h : CircuitsOk s) {r : Nat} (hs : s.saw.state = .spinup r) : CircuitsOk (countSpinup r s) := by
  unfold Machine.countSpinup
  split
  · exact h.enterStopping
  · exact h.asking rfl rfl rfl (by rw [hs]; rfl) rfl

theorem countReady (h : CircuitsOk s) {r : Nat} (hs : s.saw.state = .ready r) : CircuitsOk (countReady r s) := by
  unfold Machine.countReady
  split
  · exact h.enterStopping
  · exact h.asking rfl rfl rfl (by rw [hs]; rfl) rfl

theorem countRelease (h : CircuitsOk s) {r : Nat} (hs : s.saw.state = .stopping r) : CircuitsOk (countRelease r s) := by
  have off := h.c4_off (by simp [hs]) (by rw [hs]; rfl)
  unfold Machine.countRelease
  split <;> exact h.resting (by simp) (by simp) (by simp) off

theorem countSawTimer (h : CircuitsOk s) : CircuitsOk (countSawTimer s) := by
  unfold Machine.countSawTimer
  split
  case h_1 hs => exact h.countEngage hs
  case h_2 hs => exact h.countSpinup hs
  case h_3 hs => exact h.countReady hs
  case h_4 hs => exact h.countRelease hs
  case h_5 => exact h

theorem sawTick (h : CircuitsOk s) (p : Pins) : CircuitsOk (sawTick p s) := by
  unfold Machine.sawTick
  split
  · exact (h.sawInputs p).testIdleClutch.countSawTimer
  · exact h.sampleSaw p

theorem sawLineLost (h : CircuitsOk s) : CircuitsOk (sawLineLost s) := by
  unfold Machine.sawLineLost
  split
  case h_1 => exact h.of_withdrawn (by simp) (by simp) (by simp)
  case h_8 => exact h
  all_goals exact h.enterStopping

theorem sawRecord (h : CircuitsOk s) (r : LineRecord) : CircuitsOk (sawRecord r s) := by
  unfold Machine.sawRecord
  split
  · exact h
  · split
    · exact h.sawLineLost
    · split
      case h_1 hs =>
        split
        · exact h.asking (by simp) (by simp) (by simp) (by rw [hs]; rfl) (enterCutting_asks s)
        · exact h
      case h_2 hs => exact h.asking (by simp) (by simp) (by simp) (by rw [hs]; rfl) (cuttingCycle_asks _ hs)
      case h_3 hs => exact h.asking (by simp) (by simp) (by simp) (by rw [hs]; rfl) (backoffCycle_asks _ s)
      case h_4 => exact h

/-! ### The circuits at a tick -/

theorem demandEvent (h : CircuitsOk s) {k : Circ} (hk : k ≠ .c4) (b : Bool) : CircuitsOk (demandEvent k b s) := by
  have marked : CircuitsOk (setMark k false s) := by
    obtain ⟨inactive, active, on, waiting, shed, paused, mark⟩ := h
    have state : ∀ j, (setMark k false s).circuitState j = s.circuitState j := fun j => by
      by_cases hj : j = k
      · subst hj; simp [setMark, State.circuitState]
      · simp [setMark, State.circuitState, five_get_set_of_ne _ hj]
    refine ⟨fun hi j => (state j).trans (inactive hi j), active, ?_, ?_, ?_, ?_, ?_⟩
    · rw [state]; exact on
    · rw [state]; exact waiting
    · rw [state]; exact shed
    · simpa only [state] using paused
    · simpa [setMark, five_get_set_of_ne _ hk.symm] using mark
  unfold Machine.demandEvent levelAsserted levelDropped edgePressed
  split
  · exact h
  · split
    case h_4 => exact h
    case h_3 =>
      split
      case isTrue ha =>
        split
        · exact h.toWaiting hk ha false
        · exact h.toOff hk ha
        · exact h.toOff hk ha
        · exact h.setSwitched hk ha .off
        · exact h
      case isFalse => exact marked
    case h_1 =>
      split
      case isTrue ha =>
        split
        · exact h.toWaiting hk ha false
        · exact h
      case isFalse => exact h
    case h_2 =>
      split
      case isTrue ha =>
        split
        · exact h.toOff hk ha
        · exact h.toOff hk ha
        · exact h.setSwitched hk ha .off
        · exact h
      case isFalse => exact h

theorem takeDemand (h : CircuitsOk s) {k : Circ} (hk : k ≠ .c4) (d : Debouncer) (v : Bool) :
    CircuitsOk (takeDemand k d v s) := by
  unfold Machine.takeDemand
  (repeat' split)
  · exact h.demandEvent hk true
  · exact h.demandEvent hk false
  · exact h

theorem demandStep (h : CircuitsOk s) (p : Pins) : CircuitsOk (demandStep p s) :=
  have h₀ : CircuitsOk (sampleDemand p s) := h.of_eq rfl rfl rfl rfl rfl
  have h₁ := h₀.takeDemand (k := .c0) nofun _ _
  have h₂ := h₁.takeDemand (k := .c1) nofun _ _
  have h₃ := h₂.takeDemand (k := .c2) nofun _ _
  h₃.takeDemand (k := .c3) nofun _ _

theorem pauseOut (h : CircuitsOk s) {k : Circ} (hk : k ≠ .c4) (ha : s.circ.active = true) :
    CircuitsOk (pauseOut k s) := by
  unfold Machine.pauseOut
  split
  · exact h.toWaiting hk ha false
  · exact h.setSwitched hk ha .off

/-- Only a switched circuit pauses, and only in the active span. -/
theorem of_paused (h : CircuitsOk s) {k : Circ} {r : Nat} (hs : s.circuitState k = .paused r) :
    k ≠ .c4 ∧ s.circ.active = true := by
  constructor
  · rintro rfl
    exact h.sawNotPaused r hs
  · rw [← Bool.not_eq_false]
    exact fun hi => absurd ((h.inactive hi k).symm.trans hs) nofun

theorem countPause (h : CircuitsOk s) (k : Circ) : CircuitsOk (countPause k s) := by
  unfold Machine.countPause
  split
  case h_1 r hs =>
    obtain ⟨hk, ha⟩ := h.of_paused hs
    split
    · exact h.pauseOut hk ha
    · exact h.setSwitched hk ha _
  case h_2 => exact h

theorem fold {f : State → Circ → State} (hf : ∀ {s} k, CircuitsOk s → CircuitsOk (f s k)) (l : List Circ) :
    ∀ {s}, CircuitsOk s → CircuitsOk (l.foldl f s) := by
  induction l with
  | nil => exact id
  | cons k rest ih => exact fun h => ih (hf k h)

theorem pauseStep (h : CircuitsOk s) : CircuitsOk (pauseStep s) := by
  unfold Machine.pauseStep
  split
  · exact fold (fun k h => h.countPause k) _ h
  · exact h

/-- A circuit that is ON stands in the active span. -/
theorem active_of_ne_off (h : CircuitsOk s) {k : Circ} (hs : s.circuitState k ≠ .off) : s.circ.active = true := by
  rw [← Bool.not_eq_false]
  exact fun hi => hs (h.inactive hi k)

theorem shedOne (h : CircuitsOk s) (stage : Stage) : CircuitsOk (shedOne stage s) := by
  unfold Machine.shedOne
  split
  case h_1 => exact h
  case h_2 cls k hk =>
    obtain ⟨-, on, -⟩ := chooseShed_spec hk
    have ha := h.active_of_ne_off (k := k) (by simp [on])
    generalize ht : s.setCirc _ = t
    have counted : CircuitsOk t := by
      subst ht
      cases stage <;> exact h.of_eq rfl rfl rfl rfl rfl
    have hta : t.circ.active = true := by
      subst ht
      cases stage <;> exact ha
    unfold shedState
    split
    case h_1 =>
      unfold sawShed
      split
      · refine CircuitsOk.enterStopping (counted.c4ToOff.of_eq ?_ ?_ ?_ ?_ ?_) <;> rfl
      · exact counted.c4ToOff
    case h_2 hne => exact (counted.setSwitched hne hta .shed).of_eq rfl rfl rfl rfl rfl

theorem setTimer (h : CircuitsOk s) (stage : Stage) (n : Nat) : CircuitsOk (setTimer stage n s) := by
  cases stage <;> exact h.of_eq rfl rfl rfl rfl rfl

theorem stageStep (h : CircuitsOk s) (stage : Stage) : CircuitsOk (stageStep stage s) := by
  unfold Machine.stageStep
  (repeat' split)
  · exact (h.setTimer stage 0).shedOne stage
  all_goals exact h.setTimer stage _

theorem restoreCircuit (h : CircuitsOk s) (k : Circ) : CircuitsOk (restoreCircuit s k) := by
  unfold Machine.restoreCircuit
  split
  case isTrue hs =>
    have hk : k ≠ .c4 := by rintro rfl; exact h.sawNotShed hs
    exact (h.toWaiting hk (h.active_of_ne_off (k := k) (by simp [hs])) true).of_eq rfl rfl rfl rfl rfl
  case isFalse => exact h

theorem restoreAll (h : CircuitsOk s) : CircuitsOk (restoreAll s) :=
  (fold (fun k h => h.restoreCircuit k) _ h).of_eq rfl rfl rfl rfl rfl

theorem restoreStep (h : CircuitsOk s) : CircuitsOk (restoreStep s) := by
  unfold Machine.restoreStep
  (repeat' split)
  · exact h.restoreAll
  all_goals exact h.of_eq rfl rfl rfl rfl rfl

theorem circuitTick (h : CircuitsOk s) (p : Pins) : CircuitsOk (circuitTick p s) :=
  (((h.demandStep p).pauseStep.stageStep .stage2).stageStep .stage1).restoreStep

/-! ### The active span -/

/-- Every circuit OFF and the span ended. -/
theorem of_off (hs : ∀ k, s.circuitState k = .off) (ha : s.circ.active = false)
    (hm : (s.circ.table.get .c4).mark = false) : CircuitsOk s :=
  ⟨fun _ => hs, fun h => absurd h (by simp [ha]), by simp [hs], by simp [hs], by simp [hs], by simp [hs], hm⟩

theorem endSpan (h : CircuitsOk s) : CircuitsOk (s.setCirc s.circ.endSpan) := by
  refine .of_off (fun k => ?_) rfl h.sawNotMarked
  have loss : ∀ c : Circuit, c.atLoss.state = .off := fun c => by unfold Circuit.atLoss; split <;> rfl
  cases k with
  | c4 => rfl
  | _ => exact loss _

theorem evaluateStages (h : CircuitsOk s) : CircuitsOk (evaluateStages s) := h.of_eq rfl rfl rfl rfl rfl

theorem circuitRecord (h : CircuitsOk s) (r : LineRecord) : CircuitsOk (circuitRecord r s) := by
  unfold Machine.circuitRecord
  dsimp only
  generalize ht : s.setCirc _ = t
  have kept : CircuitsOk t := by
    subst ht
    exact h.of_eq rfl rfl rfl rfl rfl
  (repeat' split)
  · exact kept.endSpan
  · exact kept
  · exact kept.evaluateStages

theorem clearMarks (h : CircuitsOk s) : CircuitsOk (s.setCirc s.circ.clearMarks) := by
  obtain ⟨inactive, active, on, waiting, shed, paused, -⟩ := h
  have state : ∀ k, (s.setCirc s.circ.clearMarks).circuitState k = s.circuitState k := fun k => by cases k <;> rfl
  refine ⟨fun hi k => (state k).trans (inactive hi k), active, ?_, ?_, ?_, ?_, rfl⟩
  · rw [state]; exact on
  · rw [state]; exact waiting
  · rw [state]; exact shed
  · simpa only [state] using paused

/-- The claims at the entry to RUN are of switched circuits. -/
theorem claimsAtRun (l : List Circ) (hl : .c4 ∉ l) :
    ∀ {s}, CircuitsOk s → s.circ.active = true → CircuitsOk (l.foldl claimAtRun s) := by
  induction l with
  | nil => exact fun h _ => h
  | cons k rest ih =>
    intro s h ha
    have hk : k ≠ .c4 := fun hk => hl (by simp [hk])
    refine ih (fun hr => hl (by simp [hr])) ?_ ?_ <;> unfold claimAtRun <;> split
    · exact h.toWaiting hk ha _
    · exact h
    · exact ha
    · exact ha

theorem circuitRunEntry (h : CircuitsOk s) (hm : s.mc.mode = .run) : CircuitsOk (circuitRunEntry s) := by
  have active : CircuitsOk (s.setCirc { s.circ with active := true }) :=
    ⟨nofun, fun _ => .inl hm, h.sawOn, h.sawWaiting, h.sawNotShed, h.sawNotPaused, h.sawNotMarked⟩
  refine (claimsAtRun _ ?_ active.evaluateStages rfl).clearMarks
  simp [runOrder, Circ.switched]

theorem takeAdmitted (h : CircuitsOk s) (k : Circ) : CircuitsOk (takeAdmitted k s) := by
  unfold Machine.takeAdmitted
  split
  case isTrue hg =>
    simp only [Bool.and_eq_true, beq_iff_eq] at hg
    obtain ⟨ha, hw⟩ := hg
    split
    case h_1 =>
      have claiming := h.sawWaiting hw
      unfold sawAdmitted
      rw [show (setCircuitState .c4 .on s).saw.state = .claiming from claiming]
      dsimp only
      have engaging : CircuitsOk ((setCircuitState .c4 .off s).setSaw { s.saw with state := .engaging s.cfg.tce }) :=
        (h.setC4 (st := .off) (.inl rfl) nofun nofun nofun nofun).resting rfl rfl rfl
          (setCircuitState_circuitState_self .c4 .off s)
      have on := engaging.setC4 (st := .on) (.inr ha) (fun _ => rfl) nofun nofun nofun
      exact on.of_eq (by simp [setCircuitState]) rfl rfl rfl rfl
    case h_2 hk => exact h.setSwitched hk ha .on
  case isFalse => exact h

theorem takeRefused (h : CircuitsOk s) (k : Circ) : CircuitsOk (takeRefused k s) := by
  unfold Machine.takeRefused
  split
  case isTrue hg =>
    simp only [Bool.and_eq_true, beq_iff_eq] at hg
    split
    case h_1 =>
      have off := h.setC4 (st := .off) (.inl rfl) nofun nofun nofun nofun
      unfold sawRefused
      split
      · exact off.resting rfl rfl rfl (setCircuitState_circuitState_self .c4 .off s)
      · exact off
    case h_2 hk => exact h.setSwitched hk hg.1 _
  case isFalse => exact h

/-- A step of the Mode Controller. -/
theorem of_mode (h : CircuitsOk s) (hc : t.circ = s.circ) (hs : t.saw.state = s.saw.state)
    (hr : RunOrDark DarkEntries.circuit s → RunOrDark DarkEntries.circuit t) : CircuitsOk t := by
  obtain ⟨inactive, active, on, waiting, shed, paused, mark⟩ := h
  have state : ∀ k, t.circuitState k = s.circuitState k := fun k => by simp only [State.circuitState, hc]
  constructor
  · exact fun hi k => (state k).trans (inactive (hc ▸ hi) k)
  · exact fun ha => hr (active (hc ▸ ha))
  · rwa [state, hs]
  · rwa [state, hs]
  · rwa [state]
  · simpa only [state] using paused
  · rwa [hc]

theorem countDark (h : CircuitsOk s) : CircuitsOk (countDark s) := by
  have counted : CircuitsOk (s.setMc { s.mc with darkDuration := satInc s.mc.darkDuration }) :=
    h.of_eq rfl rfl rfl rfl rfl
  unfold Machine.countDark
  dsimp only
  split
  · exact counted.clearMarks
  · exact counted

theorem modeTick (h : CircuitsOk s) : CircuitsOk (modeTick s) := by
  by_cases hm : s.mc.mode = .dark
  · unfold Machine.modeTick
    rw [hm]
    exact h.countDark
  · refine h.of_mode ?_ (by simp) .modeTick
    unfold Machine.modeTick
    split
    · exact absurd ‹_› hm
    all_goals simp

theorem of_restarted {c : Circuits} (hc : s.circ = c.restarted) : CircuitsOk s :=
  .of_off (fun k => by rw [State.circuitState, hc]; cases k <;> rfl) (by rw [hc]; rfl) (by rw [hc]; rfl)

theorem inactive_of_mode (h : CircuitsOk s) (hm : s.mc.mode ≠ .run) (hd : s.handed.dark.circuit = false) :
    s.circ.active = false := by
  rw [← Bool.not_eq_true]
  exact fun ha => (h.active ha).elim hm (by simp [hd])

end CircuitsOk

end Sys2Proof.Machine

/-! # The rotation lists (O57) -/

namespace Sys2Proof.Machine

/-! ### The rotation lists are turned by a shed only -/

/-- What a shed, a restore and a CLEAR change of the Circuit Controller, and nothing else does: the rotation lists and
the event counters. -/
def Circuits.standing (c : Circuits) : Four (List Circ) × List Nat := (c.rotation, [c.sheds1, c.sheds2, c.restores])

theorem Circuits.rotation_of_standing {c d : Circuits} (h : d.standing = c.standing) : d.rotation = c.rotation :=
  congrArg Prod.fst h

theorem foldl_standing {α : Type} (f : α → State → State) (h : ∀ x s, (f x s).circ.standing = s.circ.standing)
    (l : List α) : ∀ s, (l.foldl (fun t x => f x t) s).circ.standing = s.circ.standing := by
  induction l with
  | nil => exact fun _ => rfl
  | cons x rest ih => exact fun s => (ih _).trans (h x s)

@[simp] theorem Circuits.restarted_standing (c : Circuits) : c.restarted.standing = c.standing := rfl

@[simp] theorem Circuits.endSpan_standing (c : Circuits) : c.endSpan.standing = c.standing := rfl

@[simp] theorem Circuits.clearMarks_standing (c : Circuits) : c.clearMarks.standing = c.standing := rfl

@[simp] theorem setCircuitState_standing (k : Circ) (st : CircuitState) (s : State) :
    (setCircuitState k st s).circ.standing = s.circ.standing := rfl

@[simp] theorem setMark_standing (k : Circ) (m : Bool) (s : State) :
    (setMark k m s).circ.standing = s.circ.standing := rfl

@[simp] theorem toWaiting_standing (k : Circ) (r : Bool) (s : State) :
    (toWaiting k r s).circ.standing = s.circ.standing := rfl

@[simp] theorem toOffWithdrawing_standing (k : Circ) (s : State) :
    (toOffWithdrawing k s).circ.standing = s.circ.standing := rfl

@[simp] theorem raiseCircuit4_standing (s : State) : (raiseCircuit4 s).circ.standing = s.circ.standing := by
  unfold raiseCircuit4
  (repeat' split) <;> simp

@[simp] theorem withdrawCircuit4_standing (s : State) : (withdrawCircuit4 s).circ.standing = s.circ.standing := by
  unfold withdrawCircuit4
  (repeat' split) <;> simp

@[simp] theorem enterStopping_standing (s : State) : (enterStopping s).circ.standing = s.circ.standing := by
  rw [enterStopping_circ]
  simp

@[simp] theorem clutchAsserted_standing (s : State) : (clutchAsserted s).circ.standing = s.circ.standing := by
  unfold clutchAsserted
  (repeat' split) <;> simp

@[simp] theorem clutchDropped_standing (s : State) : (clutchDropped s).circ.standing = s.circ.standing := by
  unfold clutchDropped
  (repeat' split) <;> simp

@[simp] theorem stopPressed_standing (s : State) : (stopPressed s).circ.standing = s.circ.standing := by
  unfold stopPressed
  (repeat' split) <;> simp

@[simp] theorem startPressed_standing (s : State) : (startPressed s).circ.standing = s.circ.standing := by
  unfold startPressed
  (repeat' split) <;> simp

@[simp] theorem sawInputs_standing (p : Pins) (s : State) : (sawInputs p s).circ.standing = s.circ.standing := by
  simp only [sawInputs, onEvent]
  (repeat' split) <;> simp

@[simp] theorem countEngage_standing (r : Nat) (s : State) : (countEngage r s).circ.standing = s.circ.standing := by
  unfold countEngage
  (repeat' split) <;> simp

@[simp] theorem countSpinup_standing (r : Nat) (s : State) : (countSpinup r s).circ.standing = s.circ.standing := by
  unfold countSpinup
  (repeat' split) <;> simp

@[simp] theorem countReady_standing (r : Nat) (s : State) : (countReady r s).circ.standing = s.circ.standing := by
  unfold countReady
  (repeat' split) <;> simp

@[simp] theorem countSawTimer_standing (s : State) : (countSawTimer s).circ.standing = s.circ.standing := by
  unfold countSawTimer
  (repeat' split) <;> simp

@[simp] theorem sawTick_standing (p : Pins) (s : State) : (sawTick p s).circ.standing = s.circ.standing := by
  unfold sawTick
  (repeat' split) <;> simp

@[simp] theorem sawLineLost_standing (s : State) : (sawLineLost s).circ.standing = s.circ.standing := by
  unfold sawLineLost
  (repeat' split) <;> simp

@[simp] theorem sawRecord_standing (r : LineRecord) (s : State) : (sawRecord r s).circ.standing = s.circ.standing := by
  unfold sawRecord
  (repeat' split) <;> simp

@[simp] theorem sawShed_standing (s : State) : (sawShed s).circ.standing = s.circ.standing := by
  unfold sawShed
  (repeat' split) <;> simp

@[simp] theorem levelAsserted_standing (k : Circ) (s : State) :
    (levelAsserted k s).circ.standing = s.circ.standing := by
  unfold levelAsserted
  (repeat' split) <;> simp

@[simp] theorem levelDropped_standing (k : Circ) (s : State) : (levelDropped k s).circ.standing = s.circ.standing := by
  unfold levelDropped
  (repeat' split) <;> simp

@[simp] theorem edgePressed_standing (k : Circ) (s : State) : (edgePressed k s).circ.standing = s.circ.standing := by
  unfold edgePressed
  (repeat' split) <;> simp

@[simp] theorem demandEvent_standing (k : Circ) (b : Bool) (s : State) :
    (demandEvent k b s).circ.standing = s.circ.standing := by
  unfold demandEvent
  (repeat' split) <;> simp

@[simp] theorem takeDemand_standing (k : Circ) (d : Debouncer) (v : Bool) (s : State) :
    (takeDemand k d v s).circ.standing = s.circ.standing := by
  unfold takeDemand
  (repeat' split) <;> simp

@[simp] theorem sampleDemand_standing (p : Pins) (s : State) : (sampleDemand p s).circ.standing = s.circ.standing := rfl

@[simp] theorem demandStep_standing (p : Pins) (s : State) : (demandStep p s).circ.standing = s.circ.standing := by
  simp [demandStep]

@[simp] theorem pauseOut_standing (k : Circ) (s : State) : (pauseOut k s).circ.standing = s.circ.standing := by
  unfold pauseOut
  (repeat' split) <;> simp

@[simp] theorem countPause_standing (k : Circ) (s : State) : (countPause k s).circ.standing = s.circ.standing := by
  unfold countPause
  (repeat' split) <;> simp

@[simp] theorem pauseStep_standing (s : State) : (pauseStep s).circ.standing = s.circ.standing := by
  unfold pauseStep
  split
  case isTrue => exact foldl_standing _ countPause_standing Circ.switched s
  case isFalse => rfl

@[simp] theorem evaluateStages_standing (s : State) : (evaluateStages s).circ.standing = s.circ.standing := rfl

@[simp] theorem setTimer_standing (st : Stage) (n : Nat) (s : State) :
    (setTimer st n s).circ.standing = s.circ.standing := by
  cases st <;> rfl

@[simp] theorem shedState_standing (k : Circ) (s : State) : (shedState k s).circ.standing = s.circ.standing := by
  unfold shedState
  (repeat' split) <;> simp

@[simp] theorem claimAtRun_standing (s : State) (k : Circ) : (claimAtRun s k).circ.standing = s.circ.standing := by
  simp only [claimAtRun]
  (repeat' split) <;> simp

@[simp] theorem circuitRunEntry_standing (s : State) : (circuitRunEntry s).circ.standing = s.circ.standing := by
  exact foldl_standing (fun k t => claimAtRun t k) (fun k t => claimAtRun_standing t k) _ _

@[simp] theorem circuitRecord_standing (r : LineRecord) (s : State) :
    (circuitRecord r s).circ.standing = s.circ.standing := by
  simp only [circuitRecord]
  (repeat' split) <;> rfl

@[simp] theorem takeAdmitted_standing (k : Circ) (s : State) : (takeAdmitted k s).circ.standing = s.circ.standing := by
  unfold takeAdmitted
  (repeat' split) <;> simp

@[simp] theorem takeRefused_standing (k : Circ) (s : State) : (takeRefused k s).circ.standing = s.circ.standing := by
  unfold takeRefused
  (repeat' split) <;> simp

@[simp] theorem countDark_standing (s : State) : (countDark s).circ.standing = s.circ.standing := by
  simp only [countDark]
  (repeat' split) <;> simp

@[simp] theorem modeTick_standing (s : State) : (modeTick s).circ.standing = s.circ.standing := by
  unfold modeTick
  (repeat' split) <;> simp

/-! ### A restore leaves the rotation lists alone -/

@[simp] theorem setTimer_rotation (st : Stage) (n : Nat) (s : State) :
    (setTimer st n s).circ.rotation = s.circ.rotation :=
  Circuits.rotation_of_standing (setTimer_standing st n s)

@[simp] theorem Circuits.clearCounters_rotation (c : Circuits) : c.clearCounters.rotation = c.rotation := rfl

@[simp] theorem restoreCircuit_rotation (s : State) (k : Circ) :
    (restoreCircuit s k).circ.rotation = s.circ.rotation := by
  simp only [restoreCircuit]
  split <;> rfl

@[simp] theorem restoreAll_rotation (s : State) : (restoreAll s).circ.rotation = s.circ.rotation := by
  have fold : ∀ (l : List Circ) (t : State), (l.foldl restoreCircuit t).circ.rotation = t.circ.rotation := by
    intro l
    induction l with
    | nil => exact fun _ => rfl
    | cons k rest ih => exact fun t => (ih _).trans (restoreCircuit_rotation t k)
  exact fold _ s

@[simp] theorem restoreStep_rotation (s : State) : (restoreStep s).circ.rotation = s.circ.rotation := by
  unfold restoreStep
  (repeat' split) <;> simp

/-! ### Turning a list -/

theorem four_get_set_of_ne {α : Type} (v : Four α) {m n : Nat} (h : m ≠ n) (hm : m ≤ 3) (hn : n ≤ 3) (x : α) :
    (v.set n x).get m = v.get m := by
  rcases m with _ | _ | _ | _ | m <;> rcases n with _ | _ | _ | _ | n <;> first | rfl | omega

theorem mem_rotate {k : Circ} {l : List Circ} (h : k ∈ l) (j : Circ) : j ∈ rotate k l ↔ j ∈ l := by
  unfold rotate
  by_cases hj : j = k <;> simp [hj, h]

theorem rotate_nodup {k : Circ} {l : List Circ} (h : l.Nodup) : (rotate k l).Nodup := by
  unfold rotate
  exact List.nodup_append.2 ⟨h.filter _, List.nodup_singleton k, by simp⟩

/-- The lists hold each index once, in the list of its class. -/
def ListsByClass (cls : Five Nat) (v : Four (List Circ)) : Prop :=
  ∀ n, n ≤ 3 → (v.get n).Nodup ∧ ∀ k, k ∈ v.get n ↔ cls.get k = n

theorem ListsByClass.rotated {cls : Five Nat} {v : Four (List Circ)} (h : ListsByClass cls v) {n : Nat} {k : Circ}
    (hn : n ≤ 3) (hk : k ∈ v.get n) : ListsByClass cls (v.set n (rotate k (v.get n))) := by
  intro m hm
  by_cases hmn : m = n
  · subst hmn
    rw [four_get_set_self]
    exact ⟨rotate_nodup (h m hm).1, fun j => (mem_rotate hk j).trans ((h m hm).2 j)⟩
  · rw [four_get_set_of_ne v hmn hm hn]
    exact h m hm

/-- The lists that a START builds hold each index once, in the list of its class. -/
theorem buildRotation_byClass {cfg : Config} {c : Circuits} (h : c.rotation = ⟨[], [], [], []⟩) :
    ListsByClass cfg.cls (c.buildRotation cfg).rotation := by
  have built : (c.buildRotation cfg).rotation =
      ⟨rotationList cfg 0, rotationList cfg 1, rotationList cfg 2, rotationList cfg 3⟩ := by
    simp [Circuits.buildRotation, Circuits.rotationBuilt, h]
  have list : ∀ n, (rotationList cfg n).Nodup ∧ ∀ k, k ∈ rotationList cfg n ↔ cfg.cls.get k = n := fun n =>
    ⟨List.Nodup.filter _ (by decide), fun k => by cases k <;> simp [rotationList, Circ.all]⟩
  rw [built]
  intro n hn
  rcases n with _ | _ | _ | _ | n
  · exact list 0
  · exact list 1
  · exact list 2
  · exact list 3
  · omega

theorem shedClasses_le {stage : Stage} {n : Nat} (h : n ∈ shedClasses stage) : 1 ≤ n ∧ n ≤ 3 := by
  cases stage <;> simp [shedClasses] at h <;> omega

/-- A shed turns the list of one class, at a circuit of that list. -/
theorem shedOne_rotation (stage : Stage) (s : State) :
    (shedOne stage s).circ.rotation = s.circ.rotation ∨
      ∃ n k, n ≤ 3 ∧ k ∈ s.circ.rotation.get n ∧
        (shedOne stage s).circ.rotation = s.circ.rotation.set n (rotate k (s.circ.rotation.get n)) := by
  unfold shedOne
  split
  case h_1 => exact .inl rfl
  case h_2 n k hk =>
    obtain ⟨hn, -, hmem⟩ := chooseShed_spec hk
    refine .inr ⟨n, k, (shedClasses_le hn).2, hmem, ?_⟩
    rw [Circuits.rotation_of_standing (shedState_standing k _)]
    cases stage <;> rfl

/-- The rotation lists of a state are what the mode's owner allows. -/
def rotationOf (held : Bool) (cls : Five Nat) (v : Four (List Circ)) : Prop :=
  (held = true → v = ⟨[], [], [], []⟩) ∧ (held = false → ListsByClass cls v)

theorem rotationOf.shed {held : Bool} {s : State} (h : rotationOf held s.cfg.cls s.circ.rotation) (stage : Stage) :
    rotationOf held s.cfg.cls (shedOne stage s).circ.rotation := by
  rcases shedOne_rotation stage s with hr | ⟨n, k, hn, hk, hr⟩
  · rwa [hr]
  · refine ⟨fun hh => ?_, fun hh => hr ▸ (h.2 hh).rotated hn hk⟩
    rw [h.1 hh] at hk
    rcases n with _ | _ | _ | _ <;> cases hk

theorem rotationOf.stage {held : Bool} {s : State} (h : rotationOf held s.cfg.cls s.circ.rotation) (stage : Stage) :
    rotationOf held s.cfg.cls (stageStep stage s).circ.rotation := by
  unfold stageStep
  (repeat' split)
  · have := rotationOf.shed (held := held) (s := setTimer stage 0 s) (by simpa using h) stage
    simpa using this
  all_goals simpa using h

theorem rotationOf.tick {held : Bool} {s : State} (h : rotationOf held s.cfg.cls s.circ.rotation) (p : Pins) :
    rotationOf held s.cfg.cls (circuitTick p s).circ.rotation := by
  have h₂ := rotationOf.stage (held := held) (s := pauseStep (demandStep p s)) (by
    rw [Circuits.rotation_of_standing ((pauseStep_standing _).trans (demandStep_standing p s))]
    simpa using h) .stage2
  have h₁ := rotationOf.stage (held := held) (s := stageStep .stage2 (pauseStep (demandStep p s)))
    (by simpa using h₂) .stage1
  simpa [circuitTick] using h₁

/-! ### The lists of a state -/

theorem rotationOk_iff (s : State) :
    RotationOk s ↔ ConfigOk s.cfg ∧ rotationOf s.mc.mode.held s.cfg.cls s.circ.rotation := by
  constructor
  · rintro ⟨config, held, built⟩
    exact ⟨config, fun h => held ((held_iff s).2 h), fun h => built fun hh => by simp [(held_iff s).1 hh] at h⟩
  · rintro ⟨config, held, built⟩
    exact ⟨config, fun h => held ((held_iff s).1 h), fun h => built (by simpa [held_iff] using h)⟩

theorem opsKeep_rotationOk : OpsKeep RotationOk fun s => (s.cfg, s.circ.standing, s.mc.mode.held) where
  same hv h := by
    simp only [Prod.mk.injEq] at hv
    obtain ⟨hc, hr, hm⟩ := hv
    rw [rotationOk_iff] at h ⊢
    rwa [hc, Circuits.rotation_of_standing hr, hm]
  reset := (rotationOk_iff _).2 ⟨defaultConfig_ok, fun _ => rfl, nofun⟩
  circuitTick p s h := by
    obtain ⟨hc, hr⟩ := (rotationOk_iff s).1 h
    exact .inr ((rotationOk_iff _).2 ⟨by simpa using hc, by simpa using hr.tick p⟩)
  stageShed st s h := by
    obtain ⟨hc, hr⟩ := (rotationOk_iff s).1 h
    have := rotationOf.shed (held := s.mc.mode.held) (s := setTimer st 0 s) (by simpa using hr) st
    exact .inr ((rotationOk_iff _).2 ⟨by simpa using hc, by simpa using this⟩)
  startFails s hm h := by
    have empty := h.held (.inl hm)
    exact .inr ((rotationOk_iff _).2 ⟨defaultConfig_ok, fun _ => by simpa using empty, nofun⟩)
  startSucceeds d x s hm h := by
    have empty := h.held (.inl hm)
    refine .inr ((rotationOk_iff _).2 ⟨clampConfig_ok d, nofun, fun _ => ?_⟩)
    exact buildRotation_byClass (c := s.circ) empty
  restoreAll s _ h := .inr ((rotationOk_iff _).2 (by simpa using (rotationOk_iff s).1 h))
  clearAll s h := .inr ((rotationOk_iff _).2 (by simpa using (rotationOk_iff s).1 h))
  restartHalted s hm h := by
    have empty := h.held (.inr hm)
    refine .inr ((rotationOk_iff _).2 ⟨by simpa using h.config, fun _ => ?_, nofun⟩)
    simpa [restartHalted, restartBlocks_eq, Circuits.restarted, Circuits.quiet] using empty
  restartRunning s h₁ h₂ h := by
    have built : ListsByClass s.cfg.cls s.circ.rotation := h.built fun hh => hh.elim h₁ h₂
    refine .inr ((rotationOk_iff _).2 ⟨by simpa using h.config, nofun, fun _ => ?_⟩)
    simpa [restartRunning, restartBlocks_eq, Circuits.restarted, Circuits.quiet] using built

/-! ### The circuits of a state -/

theorem opsKeep_circuitsOk :
    OpsKeep CircuitsOk fun s =>
      (s.circ.table, s.circ.active, s.saw.state, s.mc.mode, s.handed.dark.circuit) where
  same hv h := by
    simp only [Prod.mk.injEq] at hv
    obtain ⟨ht, ha, hs, hm, hd⟩ := hv
    exact h.of_eq ht ha hs hm hd
  reset := .of_off (fun k => by cases k <;> rfl) rfl rfl
  circuitTick p _ h := .inr (h.circuitTick p)
  sawTick p _ h := .inr (h.sawTick p)
  modeTick _ h := .inr h.modeTick
  circuitRecord r _ h := .inr (h.circuitRecord r)
  sawRecord r _ h := .inr (h.sawRecord r)
  modeRecord r _ h := .inr (h.of_mode (by simp) (by simp) fun hr => hr.modeRecord r rfl)
  circuitDark s _ _ h := .inr (.of_off (h.endSpan.inactive rfl) rfl h.sawNotMarked)
  circuitDarkInactive s _ ha h :=
    .inr (.of_off (h.inactive ha) ha h.sawNotMarked)
  sawLineLost _ _ h := .inr h.sawLineLost
  circuitRun _ hm h := .inr (h.circuitRunEntry hm)
  takeAdmitted k _ h := .inr (h.takeAdmitted k)
  takeRefused k _ h := .inr (h.takeRefused k)
  pauseOut k _ _ hs h := .inr (h.pauseOut (h.of_paused hs).1 (h.of_paused hs).2)
  stageShed st _ h := .inr ((h.setTimer st 0).shedOne st)
  restoreAll _ _ h := .inr h.restoreAll
  countEngage _ _ hs h := .inr (h.countEngage hs)
  countSpinup _ _ hs h := .inr (h.countSpinup hs)
  countReady _ _ hs h := .inr (h.countReady hs)
  countRelease _ _ hs h := .inr (h.countRelease hs)
  stall s _ hs h := .inr (h.asking (by simp) (by simp) (by simp) (by rw [hs]; rfl) (enterBackoff_asks _))
  adaptNow s _ hs h :=
    .inr (h.asking (by simp) (by simp) (by simp) (by rw [hs]; rfl) (by simp [Saw.adaptNow, Saw.completeInterval, hs,
      SawState.asksClutch]))
  backoffEnd s _ hs h := .inr (h.asking (by simp) (by simp) (by simp) (by rw [hs]; rfl) (endBackoff_asks _))
  recallHeard _ h := .inr (h.of_mode (by simp) (by simp) .recallHeard)
  recallTimeout _ hm h := .inr (h.of_mode (by simp) (by simp) fun hr => hr.recallTimeout hm)
  enterRun _ _ h := .inr (h.of_mode (by simp) (by simp) fun _ => .inl rfl)
  countDark _ _ h := .inr h.countDark
  startFails _ hm h := .inr (h.of_mode (by simp) rfl fun hr => .inr (by simpa [RunOrDark, hm] using hr))
  startSucceeds d x s hm h := by
    refine .inr (.of_eq (s := enterDark false s) (h.of_mode rfl rfl fun _ => .inr rfl) ?_ ?_ rfl rfl rfl) <;>
    · simp only [startSucceeds, Circuits.buildRotation]
      split <;> rfl
  clearAll s h := .inr (h.of_eq (by simp [Circuits.clearCounters]) (by simp [Circuits.clearCounters])
    (by simp [Saw.clearCounters]) (by simp) (by simp))
  restartHalted s _ _ := .inr (.of_restarted (c := s.circ) (by simp [restartHalted, restartBlocks_eq]))
  restartRunning s _ _ _ := .inr (.of_restarted (c := s.circ) (by simp [restartRunning, restartBlocks_eq]))

/-- Settles O57: every operation keeps the circuits with the active span and circuit 4 with the saw, and the rotation
lists are built once and then only turned. -/
theorem everyStepKeepsTheCircuits : Obligations.EveryStepKeepsTheCircuits :=
  ⟨opsKeep_circuitsOk.everyStepKeeps, opsKeep_rotationOk.everyStepKeeps⟩

end Sys2Proof.Machine

/-! # The claim list keeps its keys distinct and its commitment within Lc (O55) -/

namespace Sys2Proof.Machine

/-! ### The lists by operation -/

@[simp] theorem setOwn_own (own : List OwnClaim) (s : State) : (setOwn own s).adm.own = own := rfl
@[simp] theorem setOwn_heard (own : List OwnClaim) (s : State) : (setOwn own s).adm.heard = s.adm.heard := rfl
@[simp] theorem setHeard_own (heard : List HeardEntry) (s : State) : (setHeard heard s).adm.own = s.adm.own := rfl
@[simp] theorem setHeard_heard (heard : List HeardEntry) (s : State) : (setHeard heard s).adm.heard = heard := rfl
@[simp] theorem removeOwn_own (k : Circ) (s : State) :
    (removeOwn k s).adm.own = s.adm.own.filter fun c => c.circuit != k := rfl
@[simp] theorem removeOwn_heard (k : Circ) (s : State) : (removeOwn k s).adm.heard = s.adm.heard := rfl
@[simp] theorem changeOwn_own (k : Circ) (f : OwnClaim → OwnClaim) (s : State) :
    (changeOwn k f s).adm.own = s.adm.own.map fun c => if c.circuit = k then f c else c := rfl
@[simp] theorem changeOwn_heard (k : Circ) (f : OwnClaim → OwnClaim) (s : State) :
    (changeOwn k f s).adm.heard = s.adm.heard := rfl

@[simp] theorem settleOut_own (k : Circ) (s : State) :
    (settleOut k s).adm.own = s.adm.own.filter fun c => c.circuit != k := by simp [settleOut]

@[simp] theorem settleOutAll_heard (l : List OwnClaim) (s : State) : (settleOutAll l s).adm.heard = s.adm.heard := by
  induction l generalizing s with
  | nil => rfl
  | cons c rest ih => simp [settleOutAll, ih, settleOut]

@[simp] theorem admitClaim_own (c : OwnClaim) (s : State) :
    (admitClaim c s).adm.own =
      s.adm.own.map fun d => if d.circuit = c.circuit then { d with state := .settling s.cfg.ts } else d := by
  simp [admitClaim]

@[simp] theorem admitClaim_heard (c : OwnClaim) (s : State) : (admitClaim c s).adm.heard = s.adm.heard := by
  simp [admitClaim]

@[simp] theorem enterHoldoff_own (c : OwnClaim) (s : State) :
    (enterHoldoff c s).adm.own =
      s.adm.own.map fun d => if d.circuit = c.circuit then { d with state := .holdoff s.cfg.th } else d := by
  simp [enterHoldoff]

@[simp] theorem enterHoldoff_heard (c : OwnClaim) (s : State) : (enterHoldoff c s).adm.heard = s.adm.heard := by
  simp [enterHoldoff]

/-! ### The own claims (R86, R87, R92, R101) -/

/-- The claim counts in the commitment sum (R92). -/
def OwnClaim.committed (c : OwnClaim) : Bool := c.inHoldoff || c.inSettling

/-- What a claim adds to the commitment sum. -/
def OwnClaim.weight (c : OwnClaim) : Nat := if c.committed then c.amount else 0

theorem commitment_eq (a : Admission) : a.commitment = (a.own.map OwnClaim.weight).sum := by
  unfold Admission.commitment
  induction a.own with
  | nil => rfl
  | cons c rest ih =>
    by_cases hc : c.committed = true <;> simp_all [OwnClaim.weight, OwnClaim.committed]

/-- The effective class is not above the class, and the retries stop at 255 (R101). -/
def OwnClaim.ClassOk (c : OwnClaim) : Prop := c.effective ≤ c.cls ∧ c.retries ≤ 255

/-- The own claims: one for a circuit, their classes, and the commitment within Lc. -/
structure OwnOk (lc : Nat) (own : List OwnClaim) : Prop where
  nodup : (own.map OwnClaim.circuit).Nodup
  classes : ∀ c ∈ own, c.ClassOk
  commitment : (own.map OwnClaim.weight).sum ≤ lc

/-- What a change of a claim may do: it keeps the circuit and adds nothing to the commitment. -/
structure OwnClaim.Reduces (c d : OwnClaim) : Prop where
  circuit : d.circuit = c.circuit
  class_ok : d.ClassOk
  weight : d.weight ≤ c.weight

theorem OwnClaim.ClassOk.reduces {c : OwnClaim} (h : c.ClassOk) : c.Reduces c := ⟨rfl, h, le_rfl⟩

/-- Claims that keep their circuits keep them in order, where some are removed. -/
theorem circuits_filterMap {own : List OwnClaim} {f : OwnClaim → Option OwnClaim}
    (hf : ∀ c ∈ own, ∀ d, f c = some d → d.circuit = c.circuit) :
    ((own.filterMap f).map OwnClaim.circuit).Sublist (own.map OwnClaim.circuit) := by
  induction own with
  | nil => simp
  | cons c rest ih =>
    have hrest := ih fun c hc => hf c (List.mem_cons_of_mem _ hc)
    cases hd : f c with
    | none => simpa [hd] using hrest.cons _
    | some d => simpa [hd, hf c (by simp) d hd] using hrest

namespace OwnOk
variable {lc : Nat} {own : List OwnClaim}

theorem empty (lc : Nat) : OwnOk lc [] := ⟨List.nodup_nil, by simp, Nat.zero_le _⟩

theorem eq_of_circuit (h : OwnOk lc own) {c d : OwnClaim} (hc : c ∈ own) (hd : d ∈ own) (hcd : c.circuit = d.circuit) :
    c = d := List.inj_on_of_nodup_map h.nodup hc hd hcd

theorem perm (h : OwnOk lc own) {l : List OwnClaim} (hp : own.Perm l) : OwnOk lc l :=
  ⟨(hp.map _).nodup_iff.1 h.nodup, fun c hc => h.classes c (hp.mem_iff.2 hc),
    (hp.map OwnClaim.weight).sum_eq ▸ h.commitment⟩

/-- Claims are removed, and changed without a gain in commitment. -/
theorem filterMap (h : OwnOk lc own) {f : OwnClaim → Option OwnClaim}
    (hf : ∀ c ∈ own, ∀ d, f c = some d → c.Reduces d) : OwnOk lc (own.filterMap f) := by
  have weights : ((own.filterMap f).map OwnClaim.weight).sum ≤ (own.map OwnClaim.weight).sum := by
    have hw : ∀ c ∈ own, ∀ d, f c = some d → d.weight ≤ c.weight := fun c hc d hd => (hf c hc d hd).weight
    clear h hf
    induction own with
    | nil => simp
    | cons c rest ih =>
      have hrest := ih fun c hc => hw c (List.mem_cons_of_mem _ hc)
      cases hd : f c with
      | none => simpa [hd] using hrest.trans (Nat.le_add_left _ _)
      | some d => simpa [hd] using Nat.add_le_add (hw c (by simp) d hd) hrest
  refine ⟨h.nodup.sublist (circuits_filterMap fun c hc d hd => (hf c hc d hd).circuit), fun d hd => ?_,
    weights.trans h.commitment⟩
  obtain ⟨c, hc, hcd⟩ := List.mem_filterMap.1 hd
  exact (hf c hc d hcd).class_ok

theorem map (h : OwnOk lc own) {f : OwnClaim → OwnClaim} (hf : ∀ c ∈ own, c.Reduces (f c)) : OwnOk lc (own.map f) := by
  rw [← List.filterMap_eq_map]
  exact h.filterMap fun c hc d hd => by cases hd; exact hf c hc

theorem filter (h : OwnOk lc own) (p : OwnClaim → Bool) : OwnOk lc (own.filter p) := by
  rw [← List.filterMap_eq_filter]
  refine h.filterMap fun c hc d hd => ?_
  obtain ⟨rfl, -⟩ := Option.guard_eq_some_iff.1 hd
  exact (h.classes _ hc).reduces

/-- Claims change their states, to no state that counts anew. -/
theorem mapState (h : OwnOk lc own) {f : OwnClaim → OwnClaim} (hs : ∀ c ∈ own, f c = { c with state := (f c).state })
    (hw : ∀ c ∈ own, (f c).committed = true → c.committed = true) : OwnOk lc (own.map f) :=
  h.map fun c hc => by
    have hfc := hs c hc
    refine ⟨by rw [hfc], by rw [hfc]; exact h.classes c hc, ?_⟩
    have hamount : (f c).amount = c.amount := by rw [hfc]
    unfold OwnClaim.weight
    by_cases hd : (f c).committed = true
    · rw [if_pos hd, if_pos (hw c hc hd), hamount]
    · rw [if_neg hd]
      exact Nat.zero_le _

/-- The amount of a circuit's claim, as a sum over a list in which it stands once. -/
theorem sum_of_circuit {c : OwnClaim} (hn : (own.map OwnClaim.circuit).Nodup) (hc : c ∈ own) :
    (own.map fun d => if d.circuit = c.circuit then d.amount else 0).sum = c.amount := by
  have others : ∀ l : List OwnClaim, c.circuit ∉ l.map OwnClaim.circuit →
      (l.map fun d => if d.circuit = c.circuit then d.amount else 0).sum = 0 := by
    intro l hl
    refine List.sum_eq_zero fun x hx => ?_
    obtain ⟨d, hd, rfl⟩ := List.mem_map.1 hx
    exact if_neg fun he => hl (List.mem_map.2 ⟨d, hd, he⟩)
  induction own with
  | nil => cases hc
  | cons d rest ih =>
    obtain ⟨hd, hrest⟩ := List.nodup_cons.1 hn
    rcases List.mem_cons.1 hc with rfl | hc
    · simp [others rest hd]
    · have hne : d.circuit ≠ c.circuit := fun he => hd (List.mem_map.2 ⟨c, hc, he.symm⟩)
      simp [hne, ih hrest hc]

/-- A claim of the list enters HOLDOFF where its amount still fits (R92, R93). -/
theorem enterHoldoff (h : OwnOk lc own) {c : OwnClaim} (hc : c ∈ own) (th : Nat)
    (hfit : (own.map OwnClaim.weight).sum + c.amount ≤ lc) :
    OwnOk lc (own.map fun d => if d.circuit = c.circuit then { d with state := .holdoff th } else d) := by
  refine ⟨?_, fun d hd => ?_, ?_⟩
  · have circuits : ∀ d ∈ own,
        (if d.circuit = c.circuit then { d with state := .holdoff th } else d : OwnClaim).circuit = d.circuit :=
      fun d _ => by split <;> rfl
    have same := List.map_congr_left circuits
    rw [List.map_map]
    exact same ▸ h.nodup
  · obtain ⟨e, he, rfl⟩ := List.mem_map.1 hd
    split <;> exact h.classes e he
  · have each : ∀ d ∈ own,
        (if d.circuit = c.circuit then { d with state := .holdoff th } else d : OwnClaim).weight ≤
          d.weight + if d.circuit = c.circuit then d.amount else 0 := by
      intro d _
      split
      · exact Nat.le_add_left _ _
      · exact Nat.le_add_right _ _
    rw [List.map_map]
    calc _ ≤ (own.map fun d => d.weight + if d.circuit = c.circuit then d.amount else 0).sum := List.sum_le_sum each
      _ = (own.map OwnClaim.weight).sum + c.amount := by rw [List.sum_map_add, sum_of_circuit h.nodup hc]
      _ ≤ lc := hfit

/-- A new claim is QUEUED and adds nothing to the commitment (R91). -/
theorem append_new (h : OwnOk lc own) {k : Circ} (hk : ∀ c ∈ own, c.circuit ≠ k) (amount cls : Nat) (restore : Bool) :
    OwnOk lc (own ++ [newClaim k amount cls restore]) := by
  refine ⟨?_, fun c hc => ?_, ?_⟩
  · simpa [List.nodup_append, newClaim, h.nodup] using hk
  · rcases List.mem_append.1 hc with hc | hc
    · exact h.classes c hc
    · obtain rfl := List.mem_singleton.1 hc
      exact ⟨le_rfl, Nat.zero_le _⟩
  · simpa [newClaim, OwnClaim.weight, OwnClaim.committed, OwnClaim.inHoldoff, OwnClaim.inSettling] using h.commitment

end OwnOk

theorem deferral_classOk {c : OwnClaim} (h : c.ClassOk) (cfg : Config) : (c.deferral cfg).ClassOk := by
  refine ⟨?_, Nat.min_le_left _ _⟩
  simp only [OwnClaim.deferral, promoted]
  have := h.1
  split <;> omega

/-- A deferred claim adds nothing to the commitment. -/
theorem deferral_weight (c : OwnClaim) (cfg : Config) : (c.deferral cfg).weight = 0 := rfl

theorem deferOf_reduces {cfg : Config} {c o d : OwnClaim} (hc : c.ClassOk) (ho : o.ClassOk)
    (hd : deferOf cfg c o = some d) : o.Reduces d := by
  unfold deferOf at hd
  split at hd
  case isTrue he =>
    split at hd
    · cases hd
    · cases hd
      exact ⟨he.symm, deferral_classOk hc cfg, Nat.zero_le _⟩
  case isFalse =>
    cases hd
    exact ho.reduces

/-- Claims rejoin the queue at its end: the list is rearranged, and the claims change from DEFERRED to QUEUED. -/
theorem rejoin_perm (own : List OwnClaim) :
    (own.map fun c => if c.state = .deferred 0 then { c with state := .queued } else c).Perm (rejoin own) := by
  unfold rejoin
  induction own with
  | nil => exact .refl _
  | cons c rest ih =>
    by_cases hc : c.state = .deferred 0
    · simpa [hc] using (ih.cons _).trans List.perm_middle.symm
    · simpa [hc] using ih.cons c

theorem OwnOk.rejoin {lc : Nat} {own : List OwnClaim} (h : OwnOk lc own) : OwnOk lc (rejoin own) :=
  OwnOk.perm (h.mapState (fun c _ => by split <;> rfl) fun c _ => by split <;> simp [OwnClaim.committed,
    OwnClaim.inHoldoff, OwnClaim.inSettling]) (rejoin_perm own)

/-! ### The heard claims (R88) -/

/-- The heard claims: one for an owner and tag, seven at most, each with a hold still to run. -/
structure HeardOk (heard : List HeardEntry) : Prop where
  nodup : (heard.map fun h => (h.owner, h.tag)).Nodup
  atMost : heard.length ≤ 7
  holds : ∀ h ∈ heard, 1 ≤ h.hold

namespace HeardOk
variable {heard : List HeardEntry}

theorem empty : HeardOk [] := ⟨List.nodup_nil, by simp, by simp⟩

theorem filter (h : HeardOk heard) (p : HeardEntry → Bool) : HeardOk (heard.filter p) :=
  ⟨h.nodup.sublist (List.filter_sublist.map _), (List.length_filter_le _ _).trans h.atMost,
    fun x hx => h.holds x (List.mem_of_mem_filter hx)⟩

/-- An entry is refreshed by another of its key. -/
theorem refresh (h : HeardOk heard) (e : HeardEntry) (he : 1 ≤ e.hold) :
    HeardOk (heard.map fun x => if x.hasKey e.owner e.tag then e else x) := by
  refine ⟨?_, by simpa using h.atMost, fun x hx => ?_⟩
  · rw [List.map_map, List.map_congr_left (g := fun x => (x.owner, x.tag))]
    · exact h.nodup
    · intro x _
      simp only [Function.comp, HeardEntry.hasKey, Bool.and_eq_true, beq_iff_eq]
      split
      case isTrue hk => rw [hk.1, hk.2]
      case isFalse => rfl
  · obtain ⟨y, hy, rfl⟩ := List.mem_map.1 hx
    split
    · exact he
    · exact h.holds y hy

theorem append (h : HeardOk heard) {e : HeardEntry} (he : 1 ≤ e.hold) (hroom : heard.length < 7)
    (hnew : heard.any (HeardEntry.hasKey e.owner e.tag) = false) : HeardOk (heard ++ [e]) := by
  refine ⟨?_, by simp; omega, fun x hx => ?_⟩
  · simp only [List.any_eq_false, HeardEntry.hasKey, Bool.and_eq_true, beq_iff_eq, not_and] at hnew
    simpa [List.nodup_append, h.nodup] using hnew
  · rcases List.mem_append.1 hx with hx | hx
    · exact h.holds x hx
    · rwa [List.mem_singleton.1 hx]

theorem counted (h : HeardOk heard) :
    HeardOk ((heard.map fun x => { x with hold := x.hold - 1 }).filter fun x => x.hold != 0) := by
  refine ⟨?_, (List.length_filter_le _ _).trans (by simpa using h.atMost), fun x hx => ?_⟩
  · refine List.Nodup.sublist (List.filter_sublist.map _) ?_
    rw [List.map_map]
    exact h.nodup
  · have := (List.mem_filter.1 hx).2
    simp only [bne_iff_ne] at this
    omega

end HeardOk

/-! ### The claim list of a state -/

namespace ClaimsOk
variable {s t : State}

theorem ownOk (h : ClaimsOk s) : OwnOk s.cfg.lc s.adm.own :=
  ⟨h.own, h.classes, commitment_eq s.adm ▸ h.commitment⟩

theorem heardOk (h : ClaimsOk s) : HeardOk s.adm.heard := ⟨h.heard, h.heardAtMost, h.holds⟩

theorem of_lists (ho : OwnOk s.cfg.lc s.adm.own) (hh : HeardOk s.adm.heard)
    (hr : s.adm.own ≠ [] → RunOrDark DarkEntries.admission s) (held : s.held → s.adm.own = []) : ClaimsOk s :=
  ⟨ho.nodup, hh.nodup, hh.atMost, hh.holds, ho.classes, commitment_eq s.adm ▸ ho.commitment, hr, held⟩

/-- A list without own claims is in order in every mode and under every record. -/
theorem of_empty (ho : s.adm.own = []) (hh : HeardOk s.adm.heard) : ClaimsOk s :=
  .of_lists (ho ▸ .empty _) hh (fun hne => absurd ho hne) fun _ => ho

/-- An operation that brings no own claim into an empty list, with the mode and the entry to DARK as they were. -/
theorem of_own (h : ClaimsOk s) (ho : OwnOk t.cfg.lc t.adm.own) (hh : HeardOk t.adm.heard)
    (hne : s.adm.own = [] → t.adm.own = []) (hm : t.mc.mode = s.mc.mode)
    (hd : t.handed.dark.admission = s.handed.dark.admission) : ClaimsOk t := by
  refine .of_lists ho hh (fun hn => ?_) fun hheld => hne (h.held ?_)
  · exact RunOrDark.of_eq (h.run fun he => hn (hne he)) hm hd
  · rw [State.held, ← hm]
    exact hheld

theorem of_eq (h : ClaimsOk s) (hc : t.cfg = s.cfg) (ho : t.adm.own = s.adm.own) (hh : t.adm.heard = s.adm.heard)
    (hm : t.mc.mode = s.mc.mode) (hd : t.handed.dark.admission = s.handed.dark.admission) : ClaimsOk t :=
  h.of_own (by rw [hc, ho]; exact h.ownOk) (by rw [hh]; exact h.heardOk) (fun he => ho.trans he) hm hd

theorem settleTx (h : ClaimsOk s) : ClaimsOk (settleTx s) := h.of_eq rfl rfl rfl rfl rfl

theorem setOwn (h : ClaimsOk s) {own : List OwnClaim} (ho : OwnOk s.cfg.lc own) (hne : s.adm.own = [] → own = []) :
    ClaimsOk (setOwn own s) := h.of_own ho h.heardOk hne rfl rfl

theorem setHeard (h : ClaimsOk s) {heard : List HeardEntry} (hh : HeardOk heard) : ClaimsOk (setHeard heard s) :=
  h.of_own h.ownOk hh id rfl rfl

theorem settleOutAll (h : ClaimsOk s) (l : List OwnClaim) : ClaimsOk (settleOutAll l s) := by
  refine h.of_own ?_ (by simpa using h.heardOk) (fun he => ?_) (by simp) (by simp)
  · rw [settleOutAll_own]
    simpa using h.ownOk.filter _
  · rw [settleOutAll_own, he]
    rfl

theorem deferClaim (h : ClaimsOk s) {c : OwnClaim} (hc : c.ClassOk) : ClaimsOk (deferClaim c s) := by
  refine h.of_own ?_ ?_ (fun he => ?_) (by simp) (by simp)
  · rw [deferClaim_own, deferClaim_cfg]
    exact h.ownOk.filterMap fun o ho d hd => deferOf_reduces hc (h.classes o ho) hd
  · rw [deferClaim_heard]
    exact h.heardOk
  · rw [deferClaim_own, he]
    rfl

theorem deferAll (l : List OwnClaim) :
    ∀ {s : State}, ClaimsOk s → (∀ c ∈ l, c.ClassOk) → ClaimsOk (deferAll l s) := by
  induction l with
  | nil => exact fun h _ => h
  | cons c rest ih =>
    exact fun h hl => ih (h.deferClaim (hl c (by simp))) fun d hd => hl d (by simp [hd])

theorem deferFiltered (h : ClaimsOk s) (p : OwnClaim → Bool) : ClaimsOk (Machine.deferAll (s.adm.own.filter p) s) :=
  deferAll _ h fun c hc => h.classes c (List.mem_of_mem_filter hc)

/-- A claim that counts already in the commitment is admitted. -/
theorem admitClaim (h : ClaimsOk s) {c : OwnClaim} (hc : ∀ o ∈ s.adm.own, o.circuit = c.circuit → o.committed = true) :
    ClaimsOk (admitClaim c s) := by
  refine h.of_own ?_ (by simpa using h.heardOk) (fun he => by simp [he]) (by simp) (by simp)
  simp only [admitClaim_own, admitClaim_frame]
  refine h.ownOk.mapState (fun o _ => by split <;> rfl) fun o ho hcom => ?_
  split at hcom
  case isTrue he => exact hc o ho he
  case isFalse => exact hcom

/-- The group's claims count in the commitment, until each is decided in its turn. -/
theorem applyVerdicts (l : List (OwnClaim × Bool)) :
    ∀ {s : State}, ClaimsOk s → (l.map fun x => x.1.circuit).Nodup → (∀ x ∈ l, x.1.ClassOk) →
      (∀ x ∈ l, ∀ o ∈ s.adm.own, o.circuit = x.1.circuit → o.committed = true) → ClaimsOk (applyVerdicts l s) := by
  induction l with
  | nil => exact fun h _ _ _ => h
  | cons x rest ih =>
    intro s h hn hclass hcom
    obtain ⟨hx, hrest⟩ := List.nodup_cons.1 hn
    have hclass' : ∀ y ∈ rest, y.1.ClassOk := fun y hy => hclass y (by simp [hy])
    have other : ∀ y ∈ rest, y.1.circuit ≠ x.1.circuit := fun y hy he => hx (List.mem_map.2 ⟨y, hy, he⟩)
    obtain ⟨c, _ | _⟩ := x
    · refine ih (h.deferClaim (hclass (c, false) (by simp))) hrest hclass' fun y hy o ho he => ?_
      rw [deferClaim_own] at ho
      obtain ⟨p, hp, hd⟩ := List.mem_filterMap.1 ho
      unfold deferOf at hd
      split at hd
      case isTrue hpc =>
        split at hd
        · cases hd
        · cases hd
          exact absurd he.symm (other y hy)
      case isFalse =>
        cases hd
        exact hcom y (by simp [hy]) o hp he
    · refine ih (h.admitClaim (hcom (c, true) (by simp))) hrest hclass' fun y hy o ho he => ?_
      rw [admitClaim_own] at ho
      obtain ⟨p, hp, rfl⟩ := List.mem_map.1 ho
      by_cases hpc : p.circuit = c.circuit
      · rw [if_pos hpc]
        rfl
      · rw [if_neg hpc] at he ⊢
        exact hcom y (by simp [hy]) p hp he

theorem decideGroup (h : ClaimsOk s) : ClaimsOk (decideGroup s) := by
  unfold Machine.decideGroup
  split
  · refine applyVerdicts _ h ?_ ?_ ?_
    · rw [List.map_map]
      exact h.own.sublist (List.filter_sublist.map _)
    · intro x hx
      obtain ⟨c, hc, rfl⟩ := List.mem_map.1 hx
      exact h.classes c (List.mem_of_mem_filter hc)
    · intro x hx o ho he
      obtain ⟨c, hc, rfl⟩ := List.mem_map.1 hx
      obtain ⟨hc, hstate⟩ := List.mem_filter.1 hc
      rw [h.ownOk.eq_of_circuit ho hc he]
      simp only [beq_iff_eq] at hstate
      simp [OwnClaim.committed, OwnClaim.inHoldoff, hstate]
  · exact h.settleOutAll _

theorem sheddingRaised (h : ClaimsOk s) : ClaimsOk (sheddingRaised s) := (h.deferFiltered _).settleTx

theorem testAgainst (h : ClaimsOk s) (e : HeardEntry) : ClaimsOk (testAgainst e s) := (h.deferFiltered _).settleTx

theorem hearClaim (h : ClaimsOk s) (owner tag effective amount hold : Nat) :
    ClaimsOk (hearClaim owner tag effective amount hold s) := by
  unfold Machine.hearClaim
  dsimp only
  split
  · exact h
  · split
    · exact h.setHeard (h.heardOk.filter _)
    case isFalse hhold =>
      have hhold : 1 ≤ hold := Nat.one_le_iff_ne_zero.2 hhold
      split
      · exact (h.setHeard (h.heardOk.refresh ⟨owner, tag, amount, effective, hold⟩ hhold)).testAgainst _
      case isFalse hkey =>
        split
        case isTrue hroom =>
          exact (h.setHeard (h.heardOk.append (e := ⟨owner, tag, amount, effective, hold⟩) hhold hroom
            (by simpa using hkey))).testAgainst _
        case isFalse => exact h.of_eq rfl rfl rfl rfl rfl

theorem hearRelease (h : ClaimsOk s) (owner tag : Nat) : ClaimsOk (hearRelease owner tag s) := by
  unfold Machine.hearRelease
  split
  · exact h.setHeard (h.heardOk.filter _)
  · exact h

theorem createClaim (h : ClaimsOk s) (k : Circ) (amount cls : Nat) (restore : Bool) :
    ClaimsOk (createClaim k amount cls restore s) := by
  unfold Machine.createClaim
  split
  · exact h
  case isFalse hm =>
    have hrun : s.mc.mode = .run := by simpa using hm
    split
    · exact h
    case isFalse hnone =>
      split
      · exact h.of_eq rfl rfl rfl rfl rfl
      · refine .of_lists (h.ownOk.append_new (fun c hc he => hnone ?_) amount cls restore) h.heardOk
          (fun _ => .inl hrun) fun hh => ?_
        · exact List.find?_isSome.2 ⟨c, hc, by simpa using he⟩
        · simp [State.held, hrun] at hh

theorem withdrawClaim (h : ClaimsOk s) (k : Circ) : ClaimsOk (withdrawClaim k s) := by
  have removed : ClaimsOk (removeOwn k s) := h.setOwn (h.ownOk.filter _) fun he => by simp [he]
  unfold Machine.withdrawClaim
  split
  · exact h
  · split
    · exact removed.of_eq (by simp) (by simp) (by simp) (by simp) (by simp)
    · exact removed

/-! ### The tick work (R95) -/

theorem countHolds (h : ClaimsOk s) : ClaimsOk (countHolds s) := h.setHeard h.heardOk.counted

theorem countSettles (h : ClaimsOk s) : ClaimsOk (countSettles s) := by
  refine settleOutAll (h.setOwn (h.ownOk.mapState (fun c _ => ?_) fun c _ => ?_) fun he => by simp [he]) _
  · unfold OwnClaim.settleCounted
    split <;> rfl
  · unfold OwnClaim.settleCounted
    split
    · simp [OwnClaim.committed, OwnClaim.inSettling, *]
    · exact id

theorem countBackoffs (h : ClaimsOk s) : ClaimsOk (countBackoffs s) := by
  refine h.setOwn (OwnOk.rejoin (h.ownOk.mapState (fun c _ => ?_) fun c _ => ?_)) fun he => by simp [he, rejoin]
  · unfold OwnClaim.backoffCounted
    split <;> rfl
  · unfold OwnClaim.backoffCounted
    split
    · simp [OwnClaim.committed, OwnClaim.inHoldoff, OwnClaim.inSettling]
    · exact id

theorem countHoldoffs (h : ClaimsOk s) : ClaimsOk (countHoldoffs s) := by
  refine decideGroup (h.setOwn (h.ownOk.mapState (fun c _ => ?_) fun c _ => ?_) fun he => by simp [he])
  · unfold OwnClaim.holdoffCounted
    split <;> rfl
  · unfold OwnClaim.holdoffCounted
    split
    · simp [OwnClaim.committed, OwnClaim.inHoldoff, *]
    · exact id

theorem advanceQueue (fuel : Nat) : ∀ {s : State}, ClaimsOk s → ClaimsOk (advanceQueue fuel s) := by
  induction fuel with
  | zero => exact id
  | succ fuel ih =>
    intro s h
    unfold Machine.advanceQueue
    split
    · exact h
    case h_2 c hc =>
      split
      case isTrue hmay =>
        have hmem : c ∈ s.adm.own := List.mem_of_find?_eq_some hc
        simp only [mayAdvance, Bool.and_eq_true, decide_eq_true_eq] at hmay
        refine ih (h.of_own ?_ (by simpa using h.heardOk) (fun he => by simp [he] at hmem) (by simp) (by simp))
        simpa using h.ownOk.enterHoldoff hmem _ (commitment_eq s.adm ▸ hmay.2)
      case isFalse => exact h

theorem admissionTick (h : ClaimsOk s) : ClaimsOk (admissionTick s) :=
  (advanceQueue _ h.countHolds.countSettles.countBackoffs.countHoldoffs).settleTx

/-- A step of the Mode Controller. -/
theorem of_mode (h : ClaimsOk s) (hc : t.cfg = s.cfg) (ha : t.adm = s.adm)
    (hm : t.mc.mode.held = s.mc.mode.held)
    (hr : RunOrDark DarkEntries.admission s → RunOrDark DarkEntries.admission t) : ClaimsOk t := by
  refine .of_lists (by rw [hc, ha]; exact h.ownOk) (by rw [ha]; exact h.heardOk) (fun hne => ?_) fun hh => ?_
  · exact hr (h.run (ha ▸ hne))
  · rw [ha]
    exact h.held ((held_iff s).2 (hm ▸ (held_iff t).1 hh))

end ClaimsOk

theorem opsKeep_claimsOk :
    OpsKeep ClaimsOk fun s => (s.cfg, s.adm.own, s.adm.heard, s.mc.mode, s.handed.dark.admission) where
  same hv h := by
    simp only [Prod.mk.injEq] at hv
    obtain ⟨hc, ho, hh, hm, hd⟩ := hv
    exact h.of_eq hc ho hh hm hd
  reset := .of_empty rfl .empty
  admissionTick _ h := .inr h.admissionTick
  modeTick _ h := .inr (h.of_mode (by simp) (by simp) (by simp) .modeTick)
  modeRecord r _ h := .inr (h.of_mode (by simp) (by simp) (by simp) fun hr => hr.modeRecord r rfl)
  admissionDark _ _ _ := .inr (.of_empty rfl .empty)
  forgetStation _ _ h := .inr (h.setHeard (h.heardOk.filter _))
  sheddingRaised _ h := .inr h.sheddingRaised
  hearClaim owner tag effective amount hold _ h := .inr (h.hearClaim owner tag effective amount hold)
  hearRelease owner tag _ h := .inr (h.hearRelease owner tag)
  createClaim k amount cls restore _ h := .inr (h.createClaim k amount cls restore)
  withdrawClaim k _ h := .inr (h.withdrawClaim k)
  holdoffExpiry _ h := by
    refine .inr (ClaimsOk.settleTx (ClaimsOk.decideGroup (h.setOwn (h.ownOk.mapState (fun c _ => ?_) fun c _ => ?_)
      fun he => by simp [he])))
    · split <;> rfl
    · split <;> simp [OwnClaim.committed, OwnClaim.inHoldoff, *]
  backoffExpiry _ _ h := by
    refine .inr
      (h.setOwn (OwnOk.rejoin (h.ownOk.mapState (fun c _ => ?_) fun c _ => ?_)) fun he => by simp [he, rejoin])
    · split <;> rfl
    · split <;> simp [OwnClaim.committed, OwnClaim.inHoldoff, OwnClaim.inSettling]
  settleExpiry k s h :=
    .inr (.of_own h (by simpa using h.ownOk.filter _) (by simpa [settleOut] using h.heardOk) (fun he => by simp [he])
      (by simp) (by simp))
  holdExpiry _ _ _ h := .inr (h.setHeard (h.heardOk.filter _))
  recallHeard _ h := .inr (h.of_mode (by simp) (by simp) (by simp) .recallHeard)
  recallTimeout _ hm h := .inr (h.of_mode (by simp) (by simp) (by simp [hm]) fun hr => hr.recallTimeout hm)
  enterRun _ hm h := .inr (h.of_mode (by simp) (by simp) (by simp [hm]) fun _ => .inl rfl)
  startFails s hm h := .inr (.of_empty (by simpa using h.held (.inl hm)) (by simpa using h.heardOk))
  startSucceeds _ _ s hm h := .inr (.of_empty (by simpa using h.held (.inl hm)) (by simpa using h.heardOk))
  clearAll _ _ := .inl (by simp [Admission.clearCounters])
  restartHalted _ _ _ := .inr (.of_empty (by simp [restartHalted, restartBlocks_eq, Admission.emptied])
    (by simpa [restartHalted, restartBlocks_eq, Admission.emptied] using .empty))
  restartRunning _ _ _ _ := .inr (.of_empty (by simp [restartRunning, restartBlocks_eq, Admission.emptied])
    (by simpa [restartRunning, restartBlocks_eq, Admission.emptied] using .empty))

/-- Settles O55: claims leave the commitment or keep their part in it, and one enters it only where its amount fits. -/
theorem everyStepKeepsTheClaims : Obligations.EveryStepKeepsTheClaims := opsKeep_claimsOk.everyStepKeeps

end Sys2Proof.Machine

/-! # The transmit queue, the schedules and the transmitter agree (O56)

The agreement is split in two. `Telegram.QueueOk` says what the list, the schedules and the telegram on the air have
to do with each other, and every operation on the queue keeps it. `Telegram.Settled` says that the transmitter waits exactly
where an entry waits for it; an operation on the queue may break it, and the end of the event restores it (R51). -/

namespace Sys2Proof.Machine

/-! ### The queue and the schedules of a Telegram Controller -/

/-- The list, the schedules and what is on the air agree; `mayRepeat` says for which tags a CLAIM schedule may stand. -/
structure Telegram.QueueOk (mayRepeat : Circ → Prop) (t : Telegram) : Prop where
  oneCopy : (t.list.map Copy.tag).Nodup
  claimCopy : ∀ k, Copy.claim k ∈ t.list → ∃ n, t.claimSchedules.get k = some ⟨n, none⟩
  releaseCopy : ∀ k, Copy.release k ∈ t.list → ∃ n, t.releaseSchedules.get k = some ⟨n, none⟩
  oneSchedule : ∀ k, t.claimSchedules.get k = none ∨ t.releaseSchedules.get k = none
  forClaim : ∀ k, t.claimSchedules.get k ≠ none → mayRepeat k
  claimOnAir : ∀ k b d, t.tx = .sending ⟨.claim k true, b, d⟩ →
    Copy.claim k ∉ t.list ∧ ∃ n, t.claimSchedules.get k = some ⟨n, none⟩
  releaseOnAir : ∀ k b d, t.tx = .sending ⟨.release k true, b, d⟩ →
    Copy.release k ∉ t.list ∧ ∃ n, t.releaseSchedules.get k = some ⟨n, none⟩
  gap : t.tx = .gap → t.carrier = false
  waiting : t.tx = .carrierWait → t.carrier = true
  sending : t.tx.isSending = true → t.rx = .closed

/-- The transmitter is idle where no entry waits, and waits where one does (R51). -/
structure Telegram.Settled (t : Telegram) : Prop where
  idle : t.tx = .idle → t.queued = false
  gap : t.tx = .gap → t.queued = true
  waiting : t.tx = .carrierWait → t.queued = true

/-- What the agreement reads of a Telegram Controller. -/
def Telegram.line (t : Telegram) :=
  (t.slot, t.list, t.claimSchedules, t.releaseSchedules, t.tx, t.carrier, t.rx)

theorem Telegram.line_eq_iff {t u : Telegram} :
    u.line = t.line ↔ u.slot = t.slot ∧ u.list = t.list ∧ u.claimSchedules = t.claimSchedules ∧
      u.releaseSchedules = t.releaseSchedules ∧ u.tx = t.tx ∧ u.carrier = t.carrier ∧ u.rx = t.rx := by
  simp [Telegram.line]

theorem Telegram.Settled.of_line {t u : Telegram} (h : t.Settled) (hu : u.line = t.line) : u.Settled := by
  obtain ⟨hslot, hlist, -, -, htx, -, -⟩ := Telegram.line_eq_iff.1 hu
  obtain ⟨idle, gap, waiting⟩ := h
  have hq : u.queued = t.queued := by simp only [Telegram.queued, hslot, hlist]
  exact ⟨by rwa [htx, hq], by rwa [htx, hq], by rwa [htx, hq]⟩

namespace Telegram.QueueOk
variable {p q : Circ → Prop} {t u : Telegram}

/-- The slot, the timers and the counters are not read, and the tags of the schedules may repeat under a wider rule. -/
theorem of_eq (h : t.QueueOk p) (hlist : u.list = t.list) (hc : u.claimSchedules = t.claimSchedules)
    (hr : u.releaseSchedules = t.releaseSchedules) (htx : u.tx = t.tx) (hcar : u.carrier = t.carrier)
    (hrx : t.tx.isSending = true → u.rx = t.rx) : u.QueueOk p := by
  obtain ⟨oneCopy, claimCopy, releaseCopy, oneSchedule, forClaim, claimOnAir, releaseOnAir, gap, waiting, sending⟩ := h
  constructor
  · rwa [hlist]
  · rwa [hlist, hc]
  · rwa [hlist, hr]
  · rwa [hc, hr]
  · rwa [hc]
  · rwa [htx, hlist, hc]
  · rwa [htx, hlist, hr]
  · rwa [htx, hcar]
  · rwa [htx, hcar]
  · rw [htx]
    exact fun hs => (hrx hs).trans (sending hs)

theorem of_line (h : t.QueueOk p) (hu : u.line = t.line) : u.QueueOk p := by
  obtain ⟨-, hlist, hc, hr, htx, hcar, hrx⟩ := Telegram.line_eq_iff.1 hu
  exact h.of_eq hlist hc hr htx hcar fun _ => hrx

theorem mono (h : t.QueueOk p) (hpq : ∀ k, t.claimSchedules.get k ≠ none → p k → q k) : t.QueueOk q :=
  { h with forClaim := fun k hk => hpq k hk (h.forClaim k hk) }

/-- The transmitter takes a new state that sends nothing. -/
theorem setTx (h : t.QueueOk p) {tx : TxState} (hs : tx.isSending = false) (hlist : u.list = t.list)
    (hc : u.claimSchedules = t.claimSchedules) (hr : u.releaseSchedules = t.releaseSchedules) (htx : u.tx = tx)
    (hg : tx = .gap → u.carrier = false) (hw : tx = .carrierWait → u.carrier = true) : u.QueueOk p := by
  subst htx
  obtain ⟨oneCopy, claimCopy, releaseCopy, oneSchedule, forClaim, -, -, -, -, -⟩ := h
  refine ⟨by rwa [hlist], by rwa [hlist, hc], by rwa [hlist, hr], by rwa [hc, hr], by rwa [hc], ?_, ?_, hg, hw, ?_⟩
  · exact fun k b d he => by simp [he, TxState.isSending] at hs
  · exact fun k b d he => by simp [he, TxState.isSending] at hs
  · exact fun he => by simp [he] at hs

/-- The end of an event (R51). -/
theorem settle (h : t.QueueOk p) : t.settle.QueueOk p ∧ t.settle.Settled := by
  unfold Telegram.settle Telegram.startGap
  split
  case h_1 hx =>
    split
    case isTrue hq =>
      split
      case isTrue hcar =>
        exact ⟨h.setTx (tx := .carrierWait) rfl rfl rfl rfl rfl nofun fun _ => hcar, nofun, nofun, fun _ => hq⟩
      case isFalse hcar =>
        exact ⟨h.setTx (tx := .gap) rfl rfl rfl rfl rfl (fun _ => by simpa using hcar) nofun, nofun, fun _ => hq, nofun⟩
    case isFalse hq => exact ⟨h, fun _ => by simpa using hq, by simp [hx], by simp [hx]⟩
  case h_2 hx =>
    split
    case isTrue hq => exact ⟨h, by simp [hx], fun _ => hq, by simp [hx]⟩
    case isFalse hq =>
      exact ⟨h.setTx (tx := .idle) rfl rfl rfl rfl rfl nofun nofun, fun _ => eq_false_of_ne_true hq, nofun, nofun⟩
  case h_3 hx =>
    split
    case isTrue hq => exact ⟨h, by simp [hx], by simp [hx], fun _ => hq⟩
    case isFalse hq =>
      exact ⟨h.setTx (tx := .idle) rfl rfl rfl rfl rfl nofun nofun, fun _ => eq_false_of_ne_true hq, nofun, nofun⟩
  case h_4 hx => exact ⟨h, by simp [hx], by simp [hx], by simp [hx]⟩

/-- A tag has one copy in the list, of the kind of its schedule. -/
theorem tag_not_mem (h : t.QueueOk p) {k : Circ} (hc : ∀ n, t.claimSchedules.get k ≠ some ⟨n, none⟩)
    (hr : ∀ n, t.releaseSchedules.get k ≠ some ⟨n, none⟩) : k ∉ t.list.map Copy.tag := by
  intro hk
  obtain ⟨c, hmem, htag⟩ := List.mem_map.1 hk
  cases c with
  | claim j =>
    obtain rfl : j = k := htag
    exact (h.claimCopy j hmem).elim hc
  | release j =>
    obtain rfl : j = k := htag
    exact (h.releaseCopy j hmem).elim hr

end Telegram.QueueOk

/-! ### The operations on the queue -/

theorem mem_filter_ne {c d : Copy} {l : List Copy} : d ∈ l.filter (· != c) ↔ d ∈ l ∧ d ≠ c := by simp

theorem orphanClaim_sending {k j : Circ} {b : List Byte} {d : Nat} {tx : TxState}
    (h : tx.orphanClaim k = .sending ⟨.claim j true, b, d⟩) : tx = .sending ⟨.claim j true, b, d⟩ ∧ j ≠ k := by
  unfold TxState.orphanClaim at h
  split at h
  · simp only [TxState.sending.injEq, Outgoing.mk.injEq, TxItem.claim.injEq, Bool.and_eq_true, bne_iff_ne] at h
    obtain ⟨⟨rfl, rfl, hk⟩, rfl, rfl⟩ := h
    exact ⟨rfl, hk⟩
  case h_2 hne => exact absurd h (hne j true b d)

theorem orphanClaim_release {k j : Circ} {b : List Byte} {d : Nat} {tx : TxState}
    (h : tx.orphanClaim k = .sending ⟨.release j true, b, d⟩) : tx = .sending ⟨.release j true, b, d⟩ := by
  unfold TxState.orphanClaim at h
  split at h <;> simp_all

theorem orphanRelease_sending {k j : Circ} {b : List Byte} {d : Nat} {tx : TxState}
    (h : tx.orphanRelease k = .sending ⟨.release j true, b, d⟩) : tx = .sending ⟨.release j true, b, d⟩ ∧ j ≠ k := by
  unfold TxState.orphanRelease at h
  split at h
  · simp only [TxState.sending.injEq, Outgoing.mk.injEq, TxItem.release.injEq, Bool.and_eq_true, bne_iff_ne] at h
    obtain ⟨⟨rfl, rfl, hk⟩, rfl, rfl⟩ := h
    exact ⟨rfl, hk⟩
  case h_2 hne => exact absurd h (hne j true b d)

theorem orphanRelease_claim {k j : Circ} {b : List Byte} {d : Nat} {tx : TxState}
    (h : tx.orphanRelease k = .sending ⟨.claim j true, b, d⟩) : tx = .sending ⟨.claim j true, b, d⟩ := by
  unfold TxState.orphanRelease at h
  split at h <;> simp_all

@[simp] theorem orphanClaim_isSending (k : Circ) (tx : TxState) : (tx.orphanClaim k).isSending = tx.isSending := by
  unfold TxState.orphanClaim
  split <;> rfl

@[simp] theorem orphanRelease_isSending (k : Circ) (tx : TxState) : (tx.orphanRelease k).isSending = tx.isSending := by
  unfold TxState.orphanRelease
  split <;> rfl

@[simp] theorem orphanClaim_eq_gap (k : Circ) (tx : TxState) : tx.orphanClaim k = .gap ↔ tx = .gap := by
  unfold TxState.orphanClaim
  split <;> simp

@[simp] theorem orphanRelease_eq_gap (k : Circ) (tx : TxState) : tx.orphanRelease k = .gap ↔ tx = .gap := by
  unfold TxState.orphanRelease
  split <;> simp

@[simp] theorem orphanClaim_eq_wait (k : Circ) (tx : TxState) :
    tx.orphanClaim k = .carrierWait ↔ tx = .carrierWait := by
  unfold TxState.orphanClaim
  split <;> simp

@[simp] theorem orphanRelease_eq_wait (k : Circ) (tx : TxState) :
    tx.orphanRelease k = .carrierWait ↔ tx = .carrierWait := by
  unfold TxState.orphanRelease
  split <;> simp

section
variable {p q : Circ → Prop} {s : State}

/-- The schedule of the claim of `k` ends with its copy; the other tags may still repeat. -/
theorem endClaimSchedule_queueOk (h : s.tele.QueueOk p) (k : Circ) (hpq : ∀ j, j ≠ k → p j → q j) :
    (endClaimSchedule k s).tele.QueueOk q := by
  obtain ⟨oneCopy, claimCopy, releaseCopy, oneSchedule, forClaim, claimOnAir, releaseOnAir, gap, waiting, sending⟩ := h
  have other : ∀ {j}, j ≠ k → (s.tele.claimSchedules.set k none).get j = s.tele.claimSchedules.get j :=
    fun hj => five_get_set_of_ne _ hj none
  refine ⟨oneCopy.sublist (List.filter_sublist.map _), fun j hj => ?_, fun j hj => ?_, fun j => ?_, fun j hj => ?_,
    fun j b d htx => ?_, fun j b d htx => ?_, ?_, ?_, ?_⟩
  · obtain ⟨hmem, hne⟩ := mem_filter_ne.1 hj
    rw [endClaimSchedule, State.setTele_tele, other (by simpa using hne)]
    exact claimCopy j hmem
  · exact releaseCopy j (mem_filter_ne.1 hj).1
  · by_cases hj : j = k
    · subst hj
      exact .inl (five_get_set_self _ _ _)
    · rw [endClaimSchedule, State.setTele_tele, other hj]
      exact oneSchedule j
  · by_cases hjk : j = k
    · subst hjk
      exact absurd (five_get_set_self _ _ _) hj
    · rw [endClaimSchedule, State.setTele_tele, other hjk] at hj
      exact hpq j hjk (forClaim j hj)
  · obtain ⟨htx, hjk⟩ := orphanClaim_sending htx
    rw [endClaimSchedule, State.setTele_tele, other hjk]
    exact ⟨fun hm => (claimOnAir j b d htx).1 (mem_filter_ne.1 hm).1, (claimOnAir j b d htx).2⟩
  · obtain ⟨hnot, hsched⟩ := releaseOnAir j b d (orphanClaim_release htx)
    exact ⟨fun hm => hnot (mem_filter_ne.1 hm).1, hsched⟩
  · simpa [endClaimSchedule] using gap
  · simpa [endClaimSchedule] using waiting
  · simpa [endClaimSchedule] using sending

theorem endReleaseSchedule_queueOk (h : s.tele.QueueOk p) (k : Circ) : (endReleaseSchedule k s).tele.QueueOk p := by
  obtain ⟨oneCopy, claimCopy, releaseCopy, oneSchedule, forClaim, claimOnAir, releaseOnAir, gap, waiting, sending⟩ := h
  have other : ∀ {j}, j ≠ k → (s.tele.releaseSchedules.set k none).get j = s.tele.releaseSchedules.get j :=
    fun hj => five_get_set_of_ne _ hj none
  refine ⟨oneCopy.sublist (List.filter_sublist.map _), fun j hj => ?_, fun j hj => ?_, fun j => ?_, forClaim,
    fun j b d htx => ?_, fun j b d htx => ?_, ?_, ?_, ?_⟩
  · exact claimCopy j (mem_filter_ne.1 hj).1
  · obtain ⟨hmem, hne⟩ := mem_filter_ne.1 hj
    rw [endReleaseSchedule, State.setTele_tele, other (by simpa using hne)]
    exact releaseCopy j hmem
  · by_cases hj : j = k
    · subst hj
      exact .inr (five_get_set_self _ _ _)
    · rw [endReleaseSchedule, State.setTele_tele, other hj]
      exact oneSchedule j
  · obtain ⟨hnot, hsched⟩ := claimOnAir j b d (orphanRelease_claim htx)
    exact ⟨fun hm => hnot (mem_filter_ne.1 hm).1, hsched⟩
  · obtain ⟨htx, hjk⟩ := orphanRelease_sending htx
    rw [endReleaseSchedule, State.setTele_tele, other hjk]
    exact ⟨fun hm => (releaseOnAir j b d htx).1 (mem_filter_ne.1 hm).1, (releaseOnAir j b d htx).2⟩
  · simpa [endReleaseSchedule] using gap
  · simpa [endReleaseSchedule] using waiting
  · simpa [endReleaseSchedule] using sending

@[simp] theorem endClaimSchedule_get_self (k : Circ) (s : State) :
    (endClaimSchedule k s).tele.claimSchedules.get k = none := five_get_set_self _ _ _

@[simp] theorem endReleaseSchedule_get_self (k : Circ) (s : State) :
    (endReleaseSchedule k s).tele.releaseSchedules.get k = none := five_get_set_self _ _ _

@[simp] theorem endReleaseSchedule_claimSchedules (k : Circ) (s : State) :
    (endReleaseSchedule k s).tele.claimSchedules = s.tele.claimSchedules := rfl

/-- A claim schedule of a tag advances by a copy that joins the list; nothing else of the tag stands. -/
theorem joinClaim_queueOk (h : s.tele.QueueOk p) {k : Circ} {sc : Schedule} (hp : p k) (hsc : sc.ticks = none)
    (hr : s.tele.releaseSchedules.get k = none) (hc : ∀ n, s.tele.claimSchedules.get k ≠ some ⟨n, none⟩) :
    (joinCopy (.claim k)
      (s.setTele { s.tele with claimSchedules := s.tele.claimSchedules.set k (some sc) })).tele.QueueOk p := by
  have htag := h.tag_not_mem hc (by simp [hr])
  obtain ⟨oneCopy, claimCopy, releaseCopy, oneSchedule, forClaim, claimOnAir, releaseOnAir, gap, waiting, sending⟩ := h
  have self : ∃ n, (s.tele.claimSchedules.set k (some sc)).get k = some ⟨n, none⟩ :=
    ⟨sc.left, by rw [five_get_set_self, ← hsc]⟩
  have other : ∀ {j}, j ≠ k → (s.tele.claimSchedules.set k (some sc)).get j = s.tele.claimSchedules.get j :=
    fun hj => five_get_set_of_ne _ hj _
  refine ⟨?_, fun j hj => ?_, fun j hj => ?_, fun j => ?_, fun j hj => ?_, fun j b d htx => ?_, fun j b d htx => ?_, gap,
    waiting, sending⟩
  · simpa [joinCopy, List.nodup_append, oneCopy, Copy.tag] using fun c hc he => htag (List.mem_map.2 ⟨c, hc, he⟩)
  · by_cases hjk : j = k
    · exact hjk ▸ self
    · simp only [joinCopy, State.setTele_tele, other hjk] at hj ⊢
      exact claimCopy j (by simpa [hjk] using hj)
  · exact releaseCopy j (by simpa [joinCopy] using hj)
  · by_cases hjk : j = k
    · exact .inr (hjk ▸ hr)
    · simp only [joinCopy, State.setTele_tele, other hjk]
      exact oneSchedule j
  · by_cases hjk : j = k
    · exact hjk ▸ hp
    · simp only [joinCopy, State.setTele_tele, other hjk] at hj
      exact forClaim j hj
  · obtain ⟨hnot, n, hn⟩ := claimOnAir j b d htx
    have hjk : j ≠ k := by rintro rfl; exact hc n hn
    simp only [joinCopy, State.setTele_tele, other hjk]
    exact ⟨by simpa [hjk] using hnot, n, hn⟩
  · simpa [joinCopy] using releaseOnAir j b d htx

theorem joinRelease_queueOk (h : s.tele.QueueOk p) {k : Circ} {sc : Schedule} (hsc : sc.ticks = none)
    (hc : s.tele.claimSchedules.get k = none) (hr : ∀ n, s.tele.releaseSchedules.get k ≠ some ⟨n, none⟩) :
    (joinCopy (.release k)
      (s.setTele { s.tele with releaseSchedules := s.tele.releaseSchedules.set k (some sc) })).tele.QueueOk p := by
  have htag := h.tag_not_mem (by simp [hc]) hr
  obtain ⟨oneCopy, claimCopy, releaseCopy, oneSchedule, forClaim, claimOnAir, releaseOnAir, gap, waiting, sending⟩ := h
  have self : ∃ n, (s.tele.releaseSchedules.set k (some sc)).get k = some ⟨n, none⟩ :=
    ⟨sc.left, by rw [five_get_set_self, ← hsc]⟩
  have other : ∀ {j}, j ≠ k → (s.tele.releaseSchedules.set k (some sc)).get j = s.tele.releaseSchedules.get j :=
    fun hj => five_get_set_of_ne _ hj _
  refine ⟨?_, fun j hj => ?_, fun j hj => ?_, fun j => ?_, forClaim, fun j b d htx => ?_, fun j b d htx => ?_, gap,
    waiting, sending⟩
  · simpa [joinCopy, List.nodup_append, oneCopy, Copy.tag] using fun c hc he => htag (List.mem_map.2 ⟨c, hc, he⟩)
  · exact claimCopy j (by simpa [joinCopy] using hj)
  · by_cases hjk : j = k
    · exact hjk ▸ self
    · simp only [joinCopy, State.setTele_tele, other hjk] at hj ⊢
      exact releaseCopy j (by simpa [hjk] using hj)
  · by_cases hjk : j = k
    · exact .inl (hjk ▸ hc)
    · simp only [joinCopy, State.setTele_tele, other hjk]
      exact oneSchedule j
  · simpa [joinCopy] using claimOnAir j b d htx
  · obtain ⟨hnot, n, hn⟩ := releaseOnAir j b d htx
    have hjk : j ≠ k := by rintro rfl; exact hr n hn
    simp only [joinCopy, State.setTele_tele, other hjk]
    exact ⟨by simpa [hjk] using hnot, n, hn⟩

/-- The counting of a schedule between its copies. -/
theorem setClaimTicks_queueOk (h : s.tele.QueueOk p) {k : Circ} {left n m : Nat}
    (hk : s.tele.claimSchedules.get k = some ⟨left, some n⟩) :
    (s.setTele
      { s.tele with claimSchedules := s.tele.claimSchedules.set k (some ⟨left, some m⟩) }).tele.QueueOk p := by
  obtain ⟨oneCopy, claimCopy, releaseCopy, oneSchedule, forClaim, claimOnAir, releaseOnAir, gap, waiting, sending⟩ := h
  have other : ∀ {j}, j ≠ k →
      (s.tele.claimSchedules.set k (some ⟨left, some m⟩)).get j = s.tele.claimSchedules.get j :=
    fun hj => five_get_set_of_ne _ hj _
  have counting : ∀ {j}, (∃ n, s.tele.claimSchedules.get j = some ⟨n, none⟩) → j ≠ k := by
    rintro j ⟨n, hn⟩ rfl
    simp [hn] at hk
  refine ⟨oneCopy, fun j hj => ?_, releaseCopy, fun j => ?_, fun j hj => ?_, fun j b d htx => ?_, releaseOnAir, gap,
    waiting, sending⟩
  · exact (other (counting (claimCopy j hj))).symm ▸ claimCopy j hj
  · by_cases hjk : j = k
    · subst hjk
      exact .inr ((oneSchedule j).resolve_left (by simp [hk]))
    · rw [State.setTele_tele, other hjk]
      exact oneSchedule j
  · by_cases hjk : j = k
    · subst hjk
      exact forClaim j (by simp [hk])
    · rw [State.setTele_tele, other hjk] at hj
      exact forClaim j hj
  · have h := claimOnAir j b d htx
    exact ⟨h.1, (other (counting h.2)).symm ▸ h.2⟩

theorem setReleaseTicks_queueOk (h : s.tele.QueueOk p) {k : Circ} {left n m : Nat}
    (hk : s.tele.releaseSchedules.get k = some ⟨left, some n⟩) :
    (s.setTele
      { s.tele with releaseSchedules := s.tele.releaseSchedules.set k (some ⟨left, some m⟩) }).tele.QueueOk p := by
  obtain ⟨oneCopy, claimCopy, releaseCopy, oneSchedule, forClaim, claimOnAir, releaseOnAir, gap, waiting, sending⟩ := h
  have other : ∀ {j}, j ≠ k →
      (s.tele.releaseSchedules.set k (some ⟨left, some m⟩)).get j = s.tele.releaseSchedules.get j :=
    fun hj => five_get_set_of_ne _ hj _
  have counting : ∀ {j}, (∃ n, s.tele.releaseSchedules.get j = some ⟨n, none⟩) → j ≠ k := by
    rintro j ⟨n, hn⟩ rfl
    simp [hn] at hk
  refine ⟨oneCopy, claimCopy, fun j hj => ?_, fun j => ?_, forClaim, claimOnAir, fun j b d htx => ?_, gap, waiting,
    sending⟩
  · exact (other (counting (releaseCopy j hj))).symm ▸ releaseCopy j hj
  · by_cases hjk : j = k
    · subst hjk
      exact .inl ((oneSchedule j).resolve_right (by simp [hk]))
    · rw [State.setTele_tele, other hjk]
      exact oneSchedule j
  · have h := releaseOnAir j b d htx
    exact ⟨h.1, (other (counting h.2)).symm ▸ h.2⟩

theorem startReleaseSchedule_queueOk (h : s.tele.QueueOk p) {k : Circ} (hc : s.tele.claimSchedules.get k = none) :
    (startReleaseSchedule k s).tele.QueueOk p := by
  have ended := endReleaseSchedule_queueOk h k
  unfold startReleaseSchedule
  dsimp only
  split
  · exact ended
  · exact joinRelease_queueOk ended rfl hc (by simp)

theorem startClaimSchedule_queueOk (h : s.tele.QueueOk p) {k : Circ} (hp : p k)
    (hc : s.tele.claimSchedules.get k = none) : (startClaimSchedule k s).tele.QueueOk p :=
  joinClaim_queueOk (endReleaseSchedule_queueOk h k) hp rfl (by simp) (by simp [hc])

theorem countClaimCopy_queueOk (h : s.tele.QueueOk p) (k : Circ) : (countClaimCopy k s).tele.QueueOk p := by
  unfold countClaimCopy
  split
  case h_1 left n hk =>
    split
    · exact joinClaim_queueOk h (h.forClaim k (by simp [hk])) rfl ((h.oneSchedule k).resolve_left (by simp [hk]))
        (by simp [hk])
    · exact setClaimTicks_queueOk h hk
  case h_2 => exact h

theorem countReleaseCopy_queueOk (h : s.tele.QueueOk p) (k : Circ) : (countReleaseCopy k s).tele.QueueOk p := by
  unfold countReleaseCopy
  split
  case h_1 left n hk =>
    split
    · exact joinRelease_queueOk h rfl ((h.oneSchedule k).resolve_right (by simp [hk])) (by simp [hk])
    · exact setReleaseTicks_queueOk h hk
  case h_2 => exact h

/-! ### Transmission -/

theorem send_settled (item : TxItem) (kind : Nat) (body : List Byte) (s : State) :
    (send item kind body s).tele.Settled :=
  ⟨nofun, nofun, nofun⟩

/-- The head of the list goes on the air: no other copy of its tag waits, and its schedule waits for it. -/
theorem startTransmission_ok (h : s.tele.QueueOk p) :
    (startTransmission s).tele.QueueOk p ∧ (startTransmission s).tele.Settled := by
  have settled := h.settle
  obtain ⟨oneCopy, claimCopy, releaseCopy, oneSchedule, forClaim, claimOnAir, releaseOnAir, gap, waiting, sending⟩ := h
  unfold startTransmission
  split
  case h_1 k rest hl =>
    rw [hl] at oneCopy claimCopy releaseCopy
    obtain ⟨hk, hrest⟩ := List.nodup_cons.1 oneCopy
    have gone : Copy.claim k ∉ rest := fun hm => hk (List.mem_map.2 ⟨_, hm, rfl⟩)
    dsimp only
    split
    · refine ⟨⟨hrest, fun j hj => claimCopy j (by simp [show Copy.claim j ∈ rest from hj]),
        fun j hj => releaseCopy j (by simp [show Copy.release j ∈ rest from hj]), oneSchedule, forClaim,
        fun j b d htx => ?_, by simp [send], by simp [send], by simp [send], fun _ => rfl⟩, send_settled _ _ _ _⟩
      simp only [send, State.setTele_tele, TxState.sending.injEq, Outgoing.mk.injEq, TxItem.claim.injEq] at htx
      obtain ⟨⟨rfl, -⟩, -, -⟩ := htx
      exact ⟨gone, claimCopy k (by simp)⟩
    · refine Telegram.QueueOk.settle (t := { s.tele with list := rest })
        ⟨hrest, fun j hj => claimCopy j (by simp [show Copy.claim j ∈ rest from hj]),
        fun j hj => releaseCopy j (by simp [show Copy.release j ∈ rest from hj]), oneSchedule, forClaim,
        fun j b d htx => ?_, fun j b d htx => ?_, gap, waiting, sending⟩
      · exact ⟨fun hm => (claimOnAir j b d htx).1 (by rw [hl]; simp [show Copy.claim j ∈ rest from hm]),
          (claimOnAir j b d htx).2⟩
      · exact ⟨fun hm => (releaseOnAir j b d htx).1 (by rw [hl]; simp [show Copy.release j ∈ rest from hm]),
          (releaseOnAir j b d htx).2⟩
  case h_2 k rest hl =>
    rw [hl] at oneCopy claimCopy releaseCopy
    obtain ⟨hk, hrest⟩ := List.nodup_cons.1 oneCopy
    have gone : Copy.release k ∉ rest := fun hm => hk (List.mem_map.2 ⟨_, hm, rfl⟩)
    refine ⟨⟨hrest, fun j hj => claimCopy j (by simp [show Copy.claim j ∈ rest from hj]),
      fun j hj => releaseCopy j (by simp [show Copy.release j ∈ rest from hj]), oneSchedule, forClaim,
      by simp [send], fun j b d htx => ?_, by simp [send], by simp [send], fun _ => rfl⟩, send_settled _ _ _ _⟩
    simp only [send, State.setTele_tele, TxState.sending.injEq, Outgoing.mk.injEq, TxItem.release.injEq] at htx
    obtain ⟨⟨rfl, -⟩, -, -⟩ := htx
    exact ⟨gone, releaseCopy k (by simp)⟩
  case h_3 hl =>
    split
    · exact ⟨⟨oneCopy, claimCopy, releaseCopy, oneSchedule, forClaim, by simp [send], by simp [send], by simp [send],
        by simp [send], fun _ => rfl⟩, send_settled _ _ _ _⟩
    · exact settled

theorem Schedule.completed_eq {sc sc' : Schedule} (h : sc.completed = some sc') : sc'.ticks = some 0 := by
  unfold Schedule.completed at h
  split at h <;> cases h
  rfl

/-- The schedules after a completion: that of the copy on the air goes on or ends, and no copy of its tag waits. -/
theorem reportCompletion_ok {t : Telegram} (h : t.QueueOk p) {item : TxItem} {b : List Byte} {d : Nat}
    (htx : t.tx = .sending ⟨item, b, d⟩) :
    Telegram.QueueOk p { t.reportCompletion item with tx := .idle, gapTimer := 0, rx := .hunt } := by
  have idle : Telegram.QueueOk p { t with tx := .idle, gapTimer := 0, rx := .hunt } :=
    h.setTx (tx := .idle) rfl rfl rfl rfl rfl nofun nofun
  obtain ⟨oneCopy, claimCopy, releaseCopy, oneSchedule, forClaim, claimOnAir, releaseOnAir, -, -, -⟩ := h
  unfold Telegram.reportCompletion
  split
  case h_1 k =>
    obtain ⟨hgone, n, hn⟩ := claimOnAir k b d htx
    have other : ∀ {j}, j ≠ k → ∀ x, (t.claimSchedules.set k x).get j = t.claimSchedules.get j :=
      fun hj x => five_get_set_of_ne _ hj x
    refine ⟨oneCopy, fun j hj => ?_, releaseCopy, fun j => ?_, fun j hj => ?_, nofun, nofun, nofun, nofun, nofun⟩
    · have hjk : j ≠ k := by rintro rfl; exact hgone hj
      exact (other hjk _).symm ▸ claimCopy j hj
    · by_cases hjk : j = k
      · subst hjk
        exact .inr ((oneSchedule j).resolve_left (by simp [hn]))
      · exact (other hjk _).symm ▸ oneSchedule j
    · by_cases hjk : j = k
      · subst hjk
        exact forClaim j (by simp [hn])
      · exact forClaim j ((other hjk _) ▸ hj)
  case h_2 k =>
    obtain ⟨hgone, n, hn⟩ := releaseOnAir k b d htx
    have other : ∀ {j}, j ≠ k → ∀ x, (t.releaseSchedules.set k x).get j = t.releaseSchedules.get j :=
      fun hj x => five_get_set_of_ne _ hj x
    refine ⟨oneCopy, claimCopy, fun j hj => ?_, fun j => ?_, forClaim, nofun, nofun, nofun, nofun, nofun⟩
    · have hjk : j ≠ k := by rintro rfl; exact hgone hj
      exact (other hjk _).symm ▸ releaseCopy j hj
    · by_cases hjk : j = k
      · subst hjk
        exact .inl ((oneSchedule j).resolve_right (by simp [hn]))
      · exact (other hjk _).symm ▸ oneSchedule j
  case h_3 => exact idle

end

end Sys2Proof.Machine

/-! # The transmitter of a state (O56, continued) -/

namespace Sys2Proof.Machine

/-! ### What an operation leaves of the line -/

theorem elapse_line (dt : Nat) (s : State) : (elapse dt s).tele.line = s.tele.line := by
  rw [elapse_tele]
  split <;> rfl

@[simp] theorem elapse_tele_line (dt : Nat) (s : State) : (elapse dt s).tele.line = s.tele.line := elapse_line dt s

@[simp] theorem elapseTo_line (i : Nat) (s : State) : (elapseTo i s).tele.line = s.tele.line := elapse_line _ s

@[simp] theorem toSampleInstant_line (s : State) : (toSampleInstant s).tele.line = s.tele.line := by
  simp [toSampleInstant]

@[simp] theorem beginTick_line (s : State) : (beginTick s).tele.line = s.tele.line := by
  unfold beginTick
  split <;> simp

@[simp] theorem missingCrossing_line (s : State) : (missingCrossing s).tele.line = s.tele.line := by
  unfold missingCrossing
  split <;> simp

theorem receiveTelegram_line (header body check : List Byte) (s : State) :
    (receiveTelegram header body check s).tele.line = s.tele.line := by
  simp only [receiveTelegram]
  (repeat' split) <;> rfl

@[simp] theorem hearRelease_own (owner tag : Nat) (s : State) : (hearRelease owner tag s).adm.own = s.adm.own := by
  unfold hearRelease removeHeard
  split <;> rfl

@[simp] theorem forgetStation_own (n : Nat) (s : State) : (forgetStation n s).adm.own = s.adm.own := rfl

theorem deferClaim_tele_eq (c : OwnClaim) (s : State) :
    (deferClaim c s).tele = (startReleaseSchedule c.circuit (endClaimSchedule c.circuit s)).tele := by
  unfold deferClaim
  dsimp only
  split <;> simp

/-! ### The agreement on a state -/

/-- The tags whose CLAIM schedules may stand: those of announced claims, and none in START and HALTED. -/
def mayRepeat (s : State) (k : Circ) : Prop := announced s k ∧ ¬s.held

/-- The own claims have one tag each, and the queue and the schedules agree with them. -/
structure QueueAgrees (s : State) : Prop where
  own : (s.adm.own.map OwnClaim.circuit).Nodup
  queue : s.tele.QueueOk (mayRepeat s)

theorem transmitterOk_iff (s : State) : TransmitterOk s ↔ QueueAgrees s ∧ s.tele.Settled := by
  constructor
  · rintro ⟨own, h₁, h₂, h₃, h₄, h₅, h₆, h₇, idle, gap, waiting, sending, held⟩
    exact ⟨⟨own, h₁, h₂, h₃, h₄, fun k hk => ⟨h₅ k hk, fun hh => hk (held hh k)⟩, h₆, h₇, fun hg => (gap hg).2,
      fun hw => (waiting hw).2, sending⟩, idle, fun hg => (gap hg).1, fun hw => (waiting hw).1⟩
  · rintro ⟨⟨own, h₁, h₂, h₃, h₄, h₅, h₆, h₇, gap, waiting, sending⟩, idle, gap', waiting'⟩
    exact ⟨own, h₁, h₂, h₃, h₄, fun k hk => (h₅ k hk).1, h₆, h₇, idle, fun hg => ⟨gap' hg, gap hg⟩,
      fun hw => ⟨waiting' hw, waiting hw⟩, sending, fun hh k => by_contra fun hk => (h₅ k hk).2 hh⟩

theorem mayRepeat_mono {s t : State} (hm : t.mc = s.mc)
    (ho : ∀ c ∈ s.adm.own, c.committed = true → ∃ d ∈ t.adm.own, d.circuit = c.circuit ∧ d.committed = true) {k : Circ}
    (h : mayRepeat s k) : mayRepeat t k := by
  obtain ⟨⟨c, hc, hk, hcom⟩, hh⟩ := h
  obtain ⟨d, hd, hdc, hdcom⟩ := ho c hc hcom
  exact ⟨⟨d, hd, hdc.trans hk, hdcom⟩, by rwa [State.held, hm]⟩

theorem mayRepeat_eq {s t : State} (hm : t.mc.mode.held = s.mc.mode.held) (ho : t.adm.own = s.adm.own) :
    mayRepeat t = mayRepeat s := by
  funext k
  simp only [mayRepeat, announced, held_iff, hm, ho]

namespace QueueAgrees
variable {s t : State}

/-- An operation on the Telegram Controller that keeps the queue in order. -/
theorem of_queue (h : QueueAgrees s) (ho : t.adm.own = s.adm.own) (hm : t.mc.mode.held = s.mc.mode.held)
    (hq : t.tele.QueueOk (mayRepeat s)) : QueueAgrees t :=
  ⟨ho ▸ h.own, (mayRepeat_eq hm ho).symm ▸ hq⟩

/-- An operation on the own claims that takes none out of HOLDOFF and SETTLING whose schedule stands. -/
theorem of_own (h : QueueAgrees s) (ht : t.tele.line = s.tele.line) (ho : (t.adm.own.map OwnClaim.circuit).Nodup)
    (hp : ∀ k, s.tele.claimSchedules.get k ≠ none → mayRepeat s k → mayRepeat t k) : QueueAgrees t :=
  ⟨ho, (h.queue.mono hp).of_line ht⟩

theorem settleTx (h : QueueAgrees s) : QueueAgrees (settleTx s) ∧ (Machine.settleTx s).tele.Settled :=
  ⟨h.of_queue rfl rfl h.queue.settle.1, h.queue.settle.2⟩

/-- A claim whose circuit has no CLAIM schedule: it is not in HOLDOFF or SETTLING, or none is. -/
theorem schedule_none (h : QueueAgrees s) {c : OwnClaim} (hc : c ∈ s.adm.own) (hcom : c.committed = false) :
    s.tele.claimSchedules.get c.circuit = none := by
  by_contra hk
  obtain ⟨⟨o, ho, hoc, hocom⟩, -⟩ := h.queue.forClaim c.circuit hk
  obtain rfl := List.inj_on_of_nodup_map h.own ho hc hoc
  exact absurd hocom (by simpa [OwnClaim.committed] using hcom)

theorem deferClaim (h : QueueAgrees s) (c : OwnClaim) : QueueAgrees (deferClaim c s) := by
  constructor
  · rw [deferClaim_own]
    refine h.own.sublist (circuits_filterMap fun o _ d hd => ?_)
    unfold deferOf at hd
    (repeat' split at hd) <;> cases hd
    · exact Eq.symm ‹_›
    · rfl
  · rw [deferClaim_tele_eq]
    refine startReleaseSchedule_queueOk (endClaimSchedule_queueOk h.queue c.circuit fun j hj hp => ?_) (by simp)
    obtain ⟨⟨o, ho, hoj, hcom⟩, hh⟩ := hp
    refine ⟨⟨o, ?_, hoj, hcom⟩, by simpa [State.held] using hh⟩
    rw [deferClaim_own]
    exact List.mem_filterMap.2 ⟨o, ho, by simp [deferOf, hoj, hj]⟩

theorem deferAll (l : List OwnClaim) : ∀ {s : State}, QueueAgrees s → QueueAgrees (deferAll l s) := by
  induction l with
  | nil => exact id
  | cons c rest ih => exact fun h => ih (h.deferClaim c)

/-- Claims change their states, keep their places, and stay in HOLDOFF or SETTLING where they were. -/
theorem mapState (h : QueueAgrees s) (ht : t.tele.line = s.tele.line) (hm : t.mc = s.mc) {f : OwnClaim → OwnClaim}
    (ho : t.adm.own = s.adm.own.map f) (hc : ∀ c ∈ s.adm.own, (f c).circuit = c.circuit)
    (hcom : ∀ c ∈ s.adm.own, c.committed = true → (f c).committed = true) : QueueAgrees t := by
  refine h.of_own ht ?_ fun k _ hp => mayRepeat_mono hm (fun c hcm hcc => ?_) hp
  · rw [ho, List.map_map]
    exact (List.map_congr_left hc : _ = s.adm.own.map OwnClaim.circuit) ▸ h.own
  · exact ⟨f c, ho ▸ List.mem_map_of_mem hcm, hc c hcm, hcom c hcm hcc⟩

theorem admitClaim (h : QueueAgrees s) (c : OwnClaim) : QueueAgrees (admitClaim c s) := by
  refine h.mapState (by simp) (by simp) (admitClaim_own c s) (fun o _ => ?_) fun o _ ho => ?_
  · split <;> rfl
  · split
    · rfl
    · exact ho

theorem applyVerdicts (l : List (OwnClaim × Bool)) :
    ∀ {s : State}, QueueAgrees s → QueueAgrees (applyVerdicts l s) := by
  induction l with
  | nil => exact id
  | cons x rest ih =>
    obtain ⟨c, _ | _⟩ := x
    · exact fun h => ih (h.deferClaim c)
    · exact fun h => ih (h.admitClaim c)

theorem settleOut (h : QueueAgrees s) (k : Circ) : QueueAgrees (settleOut k s) := by
  constructor
  · rw [settleOut_own]
    exact h.own.sublist (List.filter_sublist.map _)
  · refine endClaimSchedule_queueOk (s := removeOwn k s) (p := mayRepeat s) (by simpa using h.queue) k fun j hj hp => ?_
    obtain ⟨⟨o, ho, hoj, hcom⟩, hh⟩ := hp
    refine ⟨⟨o, ?_, hoj, hcom⟩, by simpa [State.held, Machine.settleOut] using hh⟩
    rw [settleOut_own]
    exact List.mem_filter.2 ⟨ho, by simpa [hoj] using hj⟩

theorem settleOutAll (l : List OwnClaim) : ∀ {s : State}, QueueAgrees s → QueueAgrees (settleOutAll l s) := by
  induction l with
  | nil => exact id
  | cons c rest ih => exact fun h => ih (h.settleOut c.circuit)

theorem decideGroup (h : QueueAgrees s) : QueueAgrees (decideGroup s) := by
  unfold Machine.decideGroup
  split
  · exact applyVerdicts _ h
  · exact settleOutAll _ h

/-! ### The tick work of the Admission Controller (R95) -/

theorem countSettles (h : QueueAgrees s) : QueueAgrees (countSettles s) := by
  refine settleOutAll _ (h.mapState (by simp) (by simp) (setOwn_own _ s) (fun c _ => ?_) fun c _ => ?_)
  · unfold OwnClaim.settleCounted
    split <;> rfl
  · unfold OwnClaim.settleCounted
    split
    · exact fun _ => rfl
    · exact id

theorem countHoldoffs (h : QueueAgrees s) : QueueAgrees (countHoldoffs s) := by
  refine decideGroup (h.mapState (by simp) (by simp) (setOwn_own _ s) (fun c _ => ?_) fun c _ => ?_)
  · unfold OwnClaim.holdoffCounted
    split <;> rfl
  · unfold OwnClaim.holdoffCounted
    split
    · exact fun _ => rfl
    · exact id

/-- The claims that rejoin the queue were DEFERRED. -/
theorem rejoin (h : QueueAgrees s) {f : OwnClaim → OwnClaim} (hc : ∀ c ∈ s.adm.own, (f c).circuit = c.circuit)
    (hcom : ∀ c ∈ s.adm.own, c.committed = true → (f c).committed = true) :
    QueueAgrees (setOwn (rejoin (s.adm.own.map f)) s) := by
  have mapped := h.mapState (t := setOwn ((s.adm.own.map f).map fun c =>
    if c.state = .deferred 0 then { c with state := .queued } else c) s)
    (f := fun c => if (f c).state = .deferred 0 then { f c with state := .queued } else f c) (by simp) (by simp)
    (by simp [List.map_map, Function.comp_def]) (fun c hm => ?_) fun c hm hcc => ?_
  · have hp := rejoin_perm (s.adm.own.map f)
    refine mapped.of_own (by simp) ((hp.map OwnClaim.circuit).nodup_iff.1 mapped.own) fun k _ =>
      mayRepeat_mono (by simp) fun c hcm hcc => ⟨c, hp.mem_iff.1 hcm, rfl, hcc⟩
  · split <;> exact hc c hm
  · have hf := hcom c hm hcc
    split
    case isTrue hd => simp [OwnClaim.committed, OwnClaim.inHoldoff, OwnClaim.inSettling, hd] at hf
    case isFalse => exact hf

theorem countBackoffs (h : QueueAgrees s) : QueueAgrees (countBackoffs s) := by
  refine h.rejoin (fun c _ => ?_) fun c _ => ?_
  · unfold OwnClaim.backoffCounted
    split <;> rfl
  · unfold OwnClaim.backoffCounted
    split
    case h_1 hd => simp [OwnClaim.committed, OwnClaim.inHoldoff, OwnClaim.inSettling, hd]
    case h_2 => exact id

/-- A QUEUED claim has no schedule of its own until it enters HOLDOFF, in RUN (R92, R93). -/
theorem enterHoldoff (h : QueueAgrees s) {c : OwnClaim} (hc : c ∈ s.adm.own) (hq : c.state = .queued)
    (hm : s.mc.mode = .run) : QueueAgrees (enterHoldoff c s) := by
  have none := h.schedule_none hc (by simp [OwnClaim.committed, OwnClaim.inHoldoff, OwnClaim.inSettling, hq])
  have entered : QueueAgrees (changeOwn c.circuit (fun d => { d with state := .holdoff s.cfg.th }) s) := by
    refine h.mapState (by simp) (by simp) (changeOwn_own _ _ s) (fun o _ => ?_) fun o _ ho => ?_
    · split <;> rfl
    · split
      · rfl
      · exact ho
  refine entered.of_queue (by simp) (by simp [Machine.enterHoldoff])
    (startClaimSchedule_queueOk entered.queue ⟨⟨{ c with state := .holdoff s.cfg.th }, ?_, rfl, rfl⟩,
        ?_⟩ (by simpa using none))
  · exact List.mem_map.2 ⟨c, hc, if_pos rfl⟩
  · simp [State.held, hm]

theorem advanceQueue (fuel : Nat) : ∀ {s : State}, QueueAgrees s → QueueAgrees (advanceQueue fuel s) := by
  induction fuel with
  | zero => exact id
  | succ fuel ih =>
    intro s h
    unfold Machine.advanceQueue
    split
    · exact h
    case h_2 c hc =>
      split
      case isTrue hmay =>
        simp only [mayAdvance, Bool.and_eq_true, beq_iff_eq] at hmay
        have hq : c.state = .queued := by simpa [OwnClaim.isQueued] using List.find?_some hc
        exact ih (h.enterHoldoff (List.mem_of_find?_eq_some hc) hq hmay.1.1)
      case isFalse => exact h

/-! ### The Telegram Controller -/

/-- The receiver takes a state while nothing is sent. -/
theorem setRx (h : QueueAgrees s) (hs : s.tele.rx ≠ .closed) {t : State} (ht : t.tele.line = s.tele.line)
    (ho : t.adm.own = s.adm.own) (hm : t.mc.mode.held = s.mc.mode.held) (rx : RxState) :
    QueueAgrees (setRx rx t) := by
  obtain ⟨-, hlist, hc, hr, htx, hcar, -⟩ := Telegram.line_eq_iff.1 ht
  exact h.of_queue ho hm (h.queue.of_eq hlist hc hr htx hcar fun hx => absurd (h.queue.sending hx) hs)

theorem receiveByte (h : QueueAgrees s) (b : Byte) : QueueAgrees (receiveByte b s) := by
  unfold Machine.receiveByte
  split
  case h_1 hrx =>
    (repeat' split)
    · exact h.setRx (by simp [hrx]) rfl rfl rfl _
    · exact h.setRx (by simp [hrx]) (t := s.setTele (s.tele.failCheck s.cfg.eq)) rfl rfl rfl _
    · exact h.setRx (by simp [hrx]) rfl rfl rfl _
  case h_2 hrx =>
    split
    · exact h.setRx (by simp [hrx]) rfl rfl rfl _
    · exact h.setRx (by simp [hrx]) (receiveTelegram_line _ _ _ s) (by simp) (by simp) _
  case h_3 => exact h

end QueueAgrees

/-- Receiving leaves the queue and the transmitter alone. -/
theorem receiveByte_settled {s : State} (h : s.tele.Settled) (b : Byte) : (receiveByte b s).tele.Settled := by
  have same : ∀ {t : State} (rx : RxState), t.tele.line = s.tele.line → (setRx rx t).tele.Settled := by
    intro t rx ht
    obtain ⟨idle, gap, waiting⟩ := h.of_line ht
    exact ⟨idle, gap, waiting⟩
  unfold receiveByte
  (repeat' split)
  · exact same _ rfl
  · exact same _ rfl
  · exact same _ rfl
  · exact same _ rfl
  · exact same _ (receiveTelegram_line _ _ _ s)
  · exact h

namespace TransmitterOk
variable {s t : State}

theorem agrees (h : TransmitterOk s) : QueueAgrees s := ((transmitterOk_iff s).1 h).1

theorem settled (h : TransmitterOk s) : s.tele.Settled := ((transmitterOk_iff s).1 h).2

/-- The end of an event that may have changed the queue. -/
theorem of_settle (h : QueueAgrees s) : TransmitterOk (settleTx s) := (transmitterOk_iff _).2 h.settleTx

/-- An operation that keeps the queue in order and does not change what waits in it. -/
theorem of_agrees (h : TransmitterOk s) (ht : QueueAgrees t) (hl : t.tele.line = s.tele.line) : TransmitterOk t :=
  (transmitterOk_iff t).2 ⟨ht, h.settled.of_line hl⟩

theorem of_eq (h : TransmitterOk s) (ho : t.adm.own = s.adm.own) (hl : t.tele.line = s.tele.line)
    (hm : t.mc.mode.held = s.mc.mode.held) : TransmitterOk t :=
  h.of_agrees (h.agrees.of_queue ho hm (h.agrees.queue.of_line hl)) hl

/-- In START and HALTED no CLAIM schedule stands, so that the own claims and the mode may change. -/
theorem of_held (h : TransmitterOk s) (hh : s.held) (ho : (t.adm.own.map OwnClaim.circuit).Nodup)
    (hl : t.tele.line = s.tele.line) : TransmitterOk t :=
  h.of_agrees (h.agrees.of_own hl ho fun _ _ hp => absurd hh hp.2) hl

/-- Where the Telegram Controller has taken an entry to DARK, nothing waits and nothing is sent. -/
theorem of_dark (ho : (t.adm.own.map OwnClaim.circuit).Nodup) {x : Telegram} (ht : t.tele.line = x.goDark.line) :
    TransmitterOk t := by
  have none : ∀ k : Circ, (⟨none, none, none, none, none⟩ : Five (Option Schedule)).get k = none := fun k => by
    cases k <;> rfl
  have dark : x.goDark.QueueOk (mayRepeat t) :=
    ⟨List.nodup_nil, fun _ hk => absurd hk List.not_mem_nil, fun _ hk => absurd hk List.not_mem_nil,
      fun k => .inl (none k), fun k hk => absurd (none k) hk, by simp [Telegram.goDark], by simp [Telegram.goDark],
      nofun, nofun, nofun⟩
  exact (transmitterOk_iff t).2 ⟨⟨ho, dark.of_line ht⟩, Telegram.Settled.of_line (t := x.goDark)
    ⟨fun _ => rfl, by simp [Telegram.goDark], by simp [Telegram.goDark]⟩ ht⟩

theorem sheddingRaised (h : TransmitterOk s) : TransmitterOk (sheddingRaised s) := of_settle (h.agrees.deferAll _)

theorem testAgainst (h : TransmitterOk s) (e : HeardEntry) : TransmitterOk (testAgainst e s) :=
  of_settle (h.agrees.deferAll _)

theorem hearClaim (h : TransmitterOk s) (owner tag effective amount hold : Nat) :
    TransmitterOk (hearClaim owner tag effective amount hold s) := by
  have heard : ∀ l, TransmitterOk (setHeard l s) := fun l => h.of_eq rfl rfl rfl
  unfold Machine.hearClaim
  dsimp only
  (repeat' split)
  · exact h
  · exact heard _
  · exact (heard _).testAgainst _
  · exact (heard _).testAgainst _
  · exact h.of_eq rfl rfl rfl

theorem createClaim (h : TransmitterOk s) (k : Circ) (amount cls : Nat) (restore : Bool) :
    TransmitterOk (createClaim k amount cls restore s) := by
  unfold Machine.createClaim
  (repeat' split)
  · exact h
  · exact h
  · exact h.of_eq rfl rfl rfl
  case isFalse hnone _ =>
    have new : ∀ c ∈ s.adm.own, c.circuit ≠ k := fun c hc he =>
      hnone (List.find?_isSome.2 ⟨c, hc, by simpa using he⟩)
    refine h.of_agrees (h.agrees.of_own rfl ?_ fun j _ => mayRepeat_mono (by simp) fun c hc hcom => ?_) rfl
    · simpa [newClaim, List.nodup_append, h.own] using new
    · exact ⟨c, by simp [hc], rfl, hcom⟩

theorem withdrawClaim (h : TransmitterOk s) (k : Circ) : TransmitterOk (withdrawClaim k s) := by
  unfold Machine.withdrawClaim
  split
  · exact h
  case h_2 c hc =>
    have hmem := List.mem_of_find?_eq_some hc
    obtain rfl : c.circuit = k := by simpa using List.find?_some hc
    split
    case isTrue =>
      refine of_settle ?_
      have out := h.agrees.settleOut c.circuit
      exact out.of_queue (by simp [settleOut]) (by simp [settleOut])
        (startReleaseSchedule_queueOk (s := settleOut c.circuit s) out.queue (by simp [settleOut]))
    case isFalse hcom =>
      have none := h.agrees.schedule_none hmem (by simpa [OwnClaim.committed] using hcom)
      refine h.of_agrees (h.agrees.of_own rfl (h.own.sublist (List.filter_sublist.map _)) fun j hj hp => ?_) rfl
      obtain ⟨⟨o, ho, hoj, hocom⟩, hh⟩ := hp
      have hne : j ≠ c.circuit := by rintro rfl; exact hj none
      exact ⟨⟨o, List.mem_filter.2 ⟨ho, by simpa [hoj] using hne⟩, hoj, hocom⟩, by simpa [State.held] using hh⟩

theorem admissionTick (h : TransmitterOk s) : TransmitterOk (admissionTick s) := by
  have held : QueueAgrees (countHolds s) := h.agrees.of_queue rfl rfl h.agrees.queue
  exact of_settle (QueueAgrees.advanceQueue _ held.countSettles.countBackoffs.countHoldoffs)

theorem admissionGoDark (h : TransmitterOk s) : TransmitterOk (admissionGoDark s) := by
  have out := QueueAgrees.settleOutAll s.adm.own h.agrees
  have empty : (settleOutAll s.adm.own s).adm.own = [] := by
    rw [settleOutAll_own]
    refine List.filter_eq_nil_iff.2 fun c hc => ?_
    simpa using ⟨c, hc, rfl⟩
  exact of_settle (out.of_queue empty.symm rfl out.queue)

/-! ### The Telegram Controller -/

theorem composeStatus (h : QueueAgrees s) : QueueAgrees (composeStatus s) :=
  h.of_queue (by simp) (by simp) (h.queue.of_eq rfl rfl rfl rfl rfl fun _ => rfl)

theorem countStatus (h : QueueAgrees s) : QueueAgrees (countStatus s) := by
  have counted : ∀ n, QueueAgrees (s.setTele { s.tele with statusCount := n }) := fun n =>
    h.of_queue rfl rfl (h.queue.of_line rfl)
  unfold Machine.countStatus
  split
  · exact composeStatus (counted 0)
  · exact counted _

theorem foldCopies {f : Circ → State → State} (hf : ∀ {s} k, QueueAgrees s → QueueAgrees (f k s)) (l : List Circ) :
    ∀ {s}, QueueAgrees s → QueueAgrees (l.foldl (fun t k => f k t) s) := by
  induction l with
  | nil => exact id
  | cons k rest ih => exact fun h => ih (hf k h)

theorem countClaimCopy (h : QueueAgrees s) (k : Circ) : QueueAgrees (countClaimCopy k s) :=
  h.of_queue (by simp) (by simp) (countClaimCopy_queueOk h.queue k)

theorem countReleaseCopy (h : QueueAgrees s) (k : Circ) : QueueAgrees (countReleaseCopy k s) :=
  h.of_queue (by simp) (by simp) (countReleaseCopy_queueOk h.queue k)

theorem telegramTick (h : TransmitterOk s) : TransmitterOk (telegramTick s) := by
  have duplicate : QueueAgrees (countDuplicate s) := h.agrees.of_queue rfl rfl (h.agrees.queue.of_line rfl)
  have status : QueueAgrees
      (if s.mc.mode.online then Machine.countStatus (countRecall (countDuplicate s)) else countDuplicate s) := by
    split
    · exact countStatus (duplicate.of_queue rfl rfl (duplicate.queue.of_line rfl))
    · exact duplicate
  exact of_settle (foldCopies (fun k h => countReleaseCopy h k) _ (foldCopies (fun k h => countClaimCopy h k) _ status))

theorem setRx (h : TransmitterOk s) (hs : s.tele.rx ≠ .closed) {t : State} (hl : t.tele.line = s.tele.line)
    (ho : t.adm.own = s.adm.own) (hm : t.mc.mode.held = s.mc.mode.held) (rx : RxState) :
    TransmitterOk (Machine.setRx rx t) := by
  obtain ⟨idle, gap, waiting⟩ := h.settled.of_line hl
  exact (transmitterOk_iff _).2 ⟨h.agrees.setRx hs hl ho hm rx, idle, gap, waiting⟩

theorem receiveBytes (h : TransmitterOk s) (bytes : List Byte) : TransmitterOk (receiveBytes bytes s) := by
  unfold Machine.receiveBytes
  split
  case isTrue hon =>
    clear hon
    induction bytes generalizing s with
    | nil => exact h
    | cons b rest ih =>
      exact ih ((transmitterOk_iff _).2 ⟨h.agrees.receiveByte b, receiveByte_settled h.settled b⟩)
  case isFalse => exact h

theorem cutShort (h : TransmitterOk s) : TransmitterOk (cutShort s) := by
  unfold Machine.cutShort
  split
  · split
    case h_1 hrx => exact h.setRx (by simp [hrx]) (t := s.setTele (s.tele.failCheck s.cfg.eq)) rfl rfl rfl _
    case h_2 hrx => exact h.setRx (by simp [hrx]) (t := s.setTele (s.tele.failCheck s.cfg.eq)) rfl rfl rfl _
    case h_3 => exact h
  · exact h

theorem huntBits (h : TransmitterOk s) (bits : List Bool) : TransmitterOk (huntBits bits s) := by
  unfold Machine.huntBits
  split
  case isTrue hg =>
    simp only [Bool.and_eq_true, beq_iff_eq] at hg
    exact h.setRx (by simp [hg.1.2]) rfl rfl rfl _
  case isFalse => exact h

theorem carrierUp (h : TransmitterOk s) : TransmitterOk (s.setTele s.tele.carrierUp) := by
  obtain ⟨idle, gap, waiting⟩ := h.settled
  have ok := h.agrees.queue
  refine (transmitterOk_iff _).2 ⟨h.agrees.of_queue rfl rfl ?_, ?_⟩
  · unfold Telegram.carrierUp
    split
    · exact ok.setTx (tx := .carrierWait) rfl rfl rfl rfl rfl nofun fun _ => rfl
    case h_2 hg => exact { ok with gap := fun h => absurd h hg, waiting := fun _ => rfl }
  · unfold Telegram.carrierUp
    split
    case h_1 hg => exact ⟨nofun, nofun, fun _ => gap hg⟩
    case h_2 => exact ⟨idle, gap, waiting⟩

theorem carrierDown (h : TransmitterOk s) : TransmitterOk (s.setTele s.tele.carrierDown) := by
  obtain ⟨idle, gap, waiting⟩ := h.settled
  have ok := h.agrees.queue
  refine (transmitterOk_iff _).2 ⟨h.agrees.of_queue rfl rfl ?_, ?_⟩
  · unfold Telegram.carrierDown
    split
    · exact ok.setTx (tx := .gap) rfl rfl rfl rfl rfl (fun _ => rfl) nofun
    case h_2 hw => exact { ok with gap := fun _ => rfl, waiting := fun h => absurd h hw }
  · unfold Telegram.carrierDown
    split
    case h_1 hw => exact ⟨nofun, fun _ => waiting hw, nofun⟩
    case h_2 => exact ⟨idle, gap, waiting⟩

theorem gapExpiry (h : TransmitterOk s) : TransmitterOk (gapExpiry s) := by
  unfold Machine.gapExpiry
  split
  · have ok := startTransmission_ok (s := elapse (quietGap s.loader.strapLatch - s.tele.gapTimer) s)
      (h.agrees.queue.of_line (elapse_line _ s))
    exact (transmitterOk_iff _).2 ⟨h.agrees.of_queue (by simp) (by simp) ok.1, ok.2⟩
  · exact h

theorem afterSending (h : QueueAgrees s) {u : Telegram}
    (hu : Telegram.QueueOk (mayRepeat s) { u with tx := .idle, gapTimer := 0, rx := .hunt }) :
    TransmitterOk (s.setTele u.afterSending) := by
  refine (transmitterOk_iff _).2 ⟨h.of_queue rfl rfl ?_, ?_⟩
  · simp only [State.setTele_tele, Telegram.afterSending, Telegram.startGap]
    (repeat' split)
    case isTrue.isTrue _ hcar => exact hu.setTx (tx := .carrierWait) rfl rfl rfl rfl rfl nofun fun _ => hcar
    case isTrue.isFalse _ hcar => exact hu.setTx (tx := .gap) rfl rfl rfl rfl rfl (fun _ => by simpa using hcar) nofun
    case isFalse => exact hu
  · simp only [State.setTele_tele, Telegram.afterSending, Telegram.startGap]
    (repeat' split)
    case isTrue.isTrue hq _ => exact ⟨nofun, nofun, fun _ => hq⟩
    case isTrue.isFalse hq _ => exact ⟨nofun, fun _ => hq, nofun⟩
    case isFalse hq => exact ⟨fun _ => Bool.eq_false_iff.2 hq, nofun, nofun⟩

theorem transmissionComplete (h : TransmitterOk s) : TransmitterOk (transmissionComplete s) := by
  unfold Machine.transmissionComplete
  split
  case h_1 out hout =>
    split
    · have agrees : QueueAgrees (Machine.elapseTo out.doneAt s) :=
        h.agrees.of_queue (by simp) (by simp) (h.agrees.queue.of_line (by simp))
      have counted := agrees.queue.of_line (u := { (Machine.elapseTo out.doneAt s).tele with
        sent := satInc (Machine.elapseTo out.doneAt s).tele.sent }) rfl
      have hl := elapseTo_line out.doneAt s
      exact afterSending agrees (reportCompletion_ok (b := out.bytes) (d := out.doneAt) counted
        ((Telegram.line_eq_iff.1 hl).2.2.2.2.1.trans hout))
    · exact h
  case h_2 => exact h

/-! ### The modes -/

theorem enterStagger (h : TransmitterOk s) (hm : s.mc.mode.held = false) : TransmitterOk (enterStagger s) :=
  h.of_eq (by simp) (by simp) (hm.symm ▸ rfl)

theorem enterRecover (h : TransmitterOk s) (hm : s.mc.mode = .dark) : TransmitterOk (enterRecover s) := by
  have entered : ∀ x : Telegram, x.QueueOk (mayRepeat s) →
      QueueAgrees ((s.setMc { s.mc with mode := .recover }).setTele x) :=
    fun x hx => h.agrees.of_queue rfl (by simp [hm, Mode.held]) hx
  have hunting : ∀ n, Telegram.QueueOk (mayRepeat s)
      { s.tele with statusCount := 0, recallDuration := n, rx := if s.tele.tx.isSending then s.tele.rx else .hunt } :=
    fun _ => h.agrees.queue.of_eq rfl rfl rfl rfl rfl fun hs => if_pos hs
  unfold Machine.enterRecover telegramRecoverEntry
  by_cases hr : s.cfg.recallOrigin = true
  · have composed := of_settle (composeStatus (entered _ (hunting s.cfg.trd)))
    simp only [State.setMc_cfg, State.setTele_cfg, settleTx_frame, composeStatus_frame, hr, if_true]
    exact composed.enterStagger (by simp [Mode.held])
  · have waiting : TransmitterOk ((s.setMc { s.mc with mode := .recover }).setTele
        { s.tele with statusCount := 0, rx := if s.tele.tx.isSending then s.tele.rx else .hunt }) :=
      (transmitterOk_iff _).2 ⟨entered _ (hunting s.tele.recallDuration), h.settled.idle, h.settled.gap,
          h.settled.waiting⟩
    simpa [hr] using waiting.of_eq (by rfl) (by rfl) (by rfl)

theorem modeRecord (h : TransmitterOk s) (r : LineRecord) : TransmitterOk (modeRecord r s) := by
  unfold Machine.modeRecord
  split
  case h_1 hm _ => exact h.enterRecover hm
  all_goals first | exact h | exact h.of_eq (by simp) (by simp) (by simp [*, Mode.held])

end TransmitterOk

/-- Every operation keeps the queue, the schedules and the transmitter in agreement. -/
theorem opsKeep_transmitterOk : OpsKeep TransmitterOk fun s => (s.adm.own, s.tele.line, s.mc.mode.held) where
  same hv h := by
    simp only [Prod.mk.injEq] at hv
    exact h.of_eq hv.1 hv.2.1 hv.2.2
  reset := by
    refine TransmitterOk.of_dark (x := State.reset.tele) ?_ ?_
    · decide
    · rfl
  telegramTick _ h := .inr h.telegramTick
  telegramDark _ _ h := .inr (.of_dark h.agrees.own rfl)
  admissionDark _ _ h := .inr (TransmitterOk.admissionGoDark (h.of_eq rfl rfl rfl))
  admissionTick _ h := .inr h.admissionTick
  modeRecord r _ h := .inr (h.modeRecord r)
  carrierUp _ h := .inr h.carrierUp
  carrierDown _ h := .inr h.carrierDown
  cutShort _ h := .inr h.cutShort
  gapExpiry _ h := .inr h.gapExpiry
  transmissionComplete _ h := .inr h.transmissionComplete
  receiveBytes bytes _ h := .inr (h.receiveBytes bytes)
  huntBits bits _ h := .inr (h.huntBits bits)
  qualityPoor _ _ _ := .inl rfl
  recallEnds _ _ _ := .inl rfl
  duplicateEnds _ _ := .inl rfl
  claimCopyDue k _ h := .inr (.of_settle (TransmitterOk.countClaimCopy h.agrees k))
  releaseCopyDue k _ h := .inr (.of_settle (TransmitterOk.countReleaseCopy h.agrees k))
  statusDue _ _ h := .inr (.of_settle (TransmitterOk.countStatus h.agrees))
  sheddingRaised _ h := .inr h.sheddingRaised
  hearClaim owner tag effective amount hold _ h := .inr (h.hearClaim owner tag effective amount hold)
  createClaim k amount cls restore _ h := .inr (h.createClaim k amount cls restore)
  withdrawClaim k _ h := .inr (h.withdrawClaim k)
  holdoffExpiry s h := .inr <| .of_settle <| QueueAgrees.decideGroup <|
    h.agrees.mapState (by simp) (by simp) (setOwn_own _ s) (fun c _ => by split <;> rfl) fun c _ hc => by
      split
      · rfl
      · exact hc
  backoffExpiry k s h := .inr <| h.of_agrees
    (h.agrees.rejoin (fun c _ => by split <;> rfl) fun c _ hc => by
      split
      case isTrue hd => simp [OwnClaim.committed, OwnClaim.inHoldoff, OwnClaim.inSettling, hd.2] at hc
      case isFalse => exact hc) (by simp)
  settleExpiry k _ h := .inr (.of_settle (h.agrees.settleOut k))
  startFails s hm h := .inr (h.of_held (by simp [State.held, hm]) (by simpa using h.agrees.own) (by simp))
  startSucceeds d x s hm h := .inr (h.of_held (by simp [State.held, hm]) (by simpa using h.agrees.own) (by simp))
  clearAll _ _ := .inl (by simp [Admission.clearCounters, Telegram.clearCounters, Telegram.line])
  restartHalted s hm h := .inr (h.of_held (by simp [State.held, hm]) (by simp [restartHalted, restartBlocks_eq,
      Admission.emptied])
    (by simp [restartHalted, restartBlocks_eq, clearDuplicate, Telegram.line]))
  restartRunning s _ _ h := .inr (.of_dark (x := s.tele)
    (by simp [restartRunning, restartBlocks_eq, Admission.emptied]) 
    (by simp [restartRunning, restartBlocks_eq, restartTelegrams, clearDuplicate, Telegram.line]))

/-- Settles O56. -/
theorem everyStepKeepsTheTransmitter : Obligations.EveryStepKeepsTheTransmitter :=
  opsKeep_transmitterOk.everyStepKeeps

end Sys2Proof.Machine

/-! # The station stays quiet in START and HALTED (O60)

In START and HALTED every operation leaves alone what `Quiet` reads: the Circuit Controller and Gate Trim are inactive,
the saw is held, no claim and no neighbour stands, and the Telegram Controller has nothing to send. Outside them nothing
is asked, and no operation leads back but a RESTART in HALTED and the end of a failed START. -/

namespace Sys2Proof.Machine

/-! ### What quiet blocks do -/

/-- The Circuit Controller is not active and no circuit is in use. -/
def Dormant (s : State) : Prop := s.circ.active = false ∧ ∀ k, s.circuitState k = .off

namespace Dormant
variable {s t : State}

theorem of_table (h : Dormant s) (ha : t.circ.active = s.circ.active) (ht : t.circ.table = s.circ.table) : Dormant t :=
  ⟨ha.trans h.1, fun k => by simpa [State.circuitState, ht] using h.2 k⟩

theorem setMark (h : Dormant s) (k : Circ) (m : Bool) : Dormant (setMark k m s) := by
  refine ⟨h.1, fun j => ?_⟩
  by_cases hj : j = k
  · subst hj
    simpa [State.circuitState, Machine.setMark] using h.2 j
  · simpa [State.circuitState, Machine.setMark, five_get_set_of_ne _ hj] using h.2 j

theorem demandEvent (h : Dormant s) (k : Circ) (b : Bool) : Dormant (demandEvent k b s) := by
  unfold Machine.demandEvent
  simp only [h.1, Bool.false_eq_true, if_false]
  (repeat' split)
  all_goals first | exact h | exact h.setMark k false

theorem takeDemand (h : Dormant s) (k : Circ) (d : Debouncer) (v : Bool) : Dormant (takeDemand k d v s) := by
  unfold Machine.takeDemand
  (repeat' split)
  · exact h.demandEvent k true
  · exact h.demandEvent k false
  · exact h

theorem setTimer (h : Dormant s) (stage : Stage) (n : Nat) : Dormant (setTimer stage n s) := by
  cases stage <;> exact h.of_table rfl rfl

/-- No circuit is ON, so that there is none to shed. -/
theorem shedOne_eq (h : Dormant s) (stage : Stage) : shedOne stage s = s := by
  refine shedOne_of_none (Option.eq_none_iff_forall_not_mem.2 fun x hx => ?_)
  have on := (chooseShed_spec (Option.mem_def.1 hx)).2.1
  rw [h.2] at on
  exact CircuitState.noConfusion on

theorem stageStep (h : Dormant s) (stage : Stage) : Dormant (stageStep stage s) := by
  unfold Machine.stageStep
  (repeat' split)
  · rw [(h.setTimer stage 0).shedOne_eq]
    exact h.setTimer stage 0
  · exact h.setTimer stage _
  · exact h.setTimer stage 0

theorem circuitTick (h : Dormant s) (p : Pins) : Dormant (circuitTick p s) := by
  have demands : Dormant (demandStep p s) :=
    have sampled : Dormant (sampleDemand p s) := h.of_table rfl rfl
    (((sampled.takeDemand .c0 _ _).takeDemand .c1 _ _).takeDemand .c2 _ _).takeDemand .c3 _ _
  have pauses : pauseStep (demandStep p s) = demandStep p s := by simp [pauseStep, demands.1]
  have stages := (demands.stageStep .stage2).stageStep .stage1
  unfold Machine.circuitTick restoreStep
  rw [pauses, if_neg (by simp [restoreCounts, stages.1])]
  exact stages.of_table rfl rfl

end Dormant

/-- No copy and no STATUS waits, no schedule stands, and nothing is sent. -/
structure Telegram.Silent (t : Telegram) : Prop where
  queue : t.slot = none ∧ t.list = []
  schedules : ∀ k, t.claimSchedules.get k = none ∧ t.releaseSchedules.get k = none
  tx : t.tx = .idle

namespace Telegram.Silent
variable {s : State}

theorem settleTx_eq (h : s.tele.Silent) : settleTx s = s := by
  simp [settleTx, Telegram.settle, h.tx, Telegram.queued, h.queue]
  rfl

theorem countClaimCopy_eq (h : s.tele.Silent) (k : Circ) : countClaimCopy k s = s := by
  simp [countClaimCopy, (h.schedules k).1]

theorem countReleaseCopy_eq (h : s.tele.Silent) (k : Circ) : countReleaseCopy k s = s := by
  simp [countReleaseCopy, (h.schedules k).2]

/-- The quiet timer of the tick, off the line, is that of a duplicate station. -/
theorem telegramTick_eq (h : s.tele.Silent) (ho : s.mc.mode.online = false) : telegramTick s = countDuplicate s := by
  have counted : (countDuplicate s).tele.Silent := ⟨h.queue, h.schedules, h.tx⟩
  simp only [telegramTick, ho, Bool.false_eq_true, if_false, Circ.all, List.foldl_cons, List.foldl_nil,
    counted.countClaimCopy_eq, counted.countReleaseCopy_eq, counted.settleTx_eq]

end Telegram.Silent

theorem setOwn_of_eq {s : State} {l : List OwnClaim} (h : l = s.adm.own) : setOwn l s = s := h ▸ rfl

theorem setHeard_of_eq {s : State} {l : List HeardEntry} (h : l = s.adm.heard) : setHeard l s = s := h ▸ rfl

theorem settleOut_of_empty {s : State} (ho : s.adm.own = []) (ht : s.tele.Silent) (k : Circ) : settleOut k s = s := by
  have schedule : s.tele.claimSchedules.set k none = s.tele.claimSchedules := by
    rw [← (ht.schedules k).1, five_set_get_self]
  have list : (s.tele.list.filter fun c => c != .claim k) = s.tele.list := by simp [ht.queue]
  have tx : s.tele.tx.orphanClaim k = s.tele.tx := by
    rw [ht.tx]
    rfl
  unfold settleOut removeOwn
  rw [setOwn_of_eq (by simp [ho]), endClaimSchedule, schedule, list, tx]
  rfl

theorem decideGroup_of_empty {s : State} (ho : s.adm.own = []) : decideGroup s = s := by
  simp [decideGroup, Admission.expired, ho, applyVerdicts, settleOutAll]

/-- Without a claim the Admission Controller has nothing to do at a tick. -/
theorem admissionTick_of_empty {s : State} (ho : s.adm.own = []) (hh : s.adm.heard = []) (ht : s.tele.Silent) :
    admissionTick s = s := by
  have holds : countHolds s = s := setHeard_of_eq (by simp [hh])
  have settles : countSettles s = s := by
    unfold countSettles
    rw [setOwn_of_eq (by simp [ho])]
    simp [ho, settleOutAll]
  have backoffs : countBackoffs s = s := setOwn_of_eq (by simp [ho, rejoin])
  have holdoffs : countHoldoffs s = s := by
    unfold countHoldoffs
    rw [setOwn_of_eq (by simp [ho]), decideGroup_of_empty ho]
  simp [admissionTick, holds, settles, backoffs, holdoffs, ho, advanceQueue, ht.settleTx_eq]

/-! ### What the quiet reads -/

/-- What the quiet reads of a Telegram Controller. -/
def Telegram.calm (t : Telegram) :=
  (t.slot, t.list, t.claimSchedules, t.releaseSchedules, t.tx, t.rx, t.duplicateTimer, t.quality)

theorem Telegram.calm_eq_iff {t u : Telegram} :
    u.calm = t.calm ↔ u.slot = t.slot ∧ u.list = t.list ∧ u.claimSchedules = t.claimSchedules ∧
      u.releaseSchedules = t.releaseSchedules ∧ u.tx = t.tx ∧ u.rx = t.rx ∧ u.duplicateTimer = t.duplicateTimer ∧
        u.quality = t.quality := by
  simp [Telegram.calm]

@[simp] theorem elapse_calm (dt : Nat) (s : State) : (elapse dt s).tele.calm = s.tele.calm := by
  rw [elapse_tele]
  split <;> rfl

@[simp] theorem elapseTo_calm (i : Nat) (s : State) : (elapseTo i s).tele.calm = s.tele.calm := elapse_calm _ s

@[simp] theorem toSampleInstant_calm (s : State) : (toSampleInstant s).tele.calm = s.tele.calm := by
  simp [toSampleInstant]

@[simp] theorem beginTick_calm (s : State) : (beginTick s).tele.calm = s.tele.calm := by
  unfold beginTick
  split <;> simp

@[simp] theorem missingCrossing_calm (s : State) : (missingCrossing s).tele.calm = s.tele.calm := by
  unfold missingCrossing
  split <;> simp

/-- What the quiet of a held station reads. -/
@[simp] def quietView (s : State) :=
  (s.circ.active, (fun k => (s.circ.table.get k).state), s.gov.switch, s.saw.state, s.saw.feed, s.gate.state,
    s.gate.active, s.adm.own, s.adm.heard, s.table.records,
    s.tele.calm, s.loader.clampCount, s.mc.mode.held)

theorem Quiet.of_view {s t : State} (h : quietView t = quietView s) (hq : Quiet s) : Quiet t := by
  simp only [quietView, Prod.mk.injEq, Telegram.calm_eq_iff] at h
  obtain ⟨active, states, switch, saw, feed, gate, gateActive, own, heard, records,
    ⟨slot, list, claims, releases, tx, rx, duplicate, quality⟩, clamps, held⟩ := h
  obtain ⟨c, b, w, g, a, n, q, sch, air, causes⟩ := hq
  refine ⟨⟨active.trans c.1, fun k => (congrFun states k).trans (c.2 k)⟩, switch.trans b,
    ⟨saw.trans w.1, feed.trans w.2⟩,
    ⟨gate.trans g.1, gateActive.trans g.2⟩, ⟨own.trans a.1, heard.trans a.2⟩, records.trans n,
    ⟨slot.trans q.1, list.trans q.2⟩, ?_, ⟨tx.trans air.1, rx.trans air.2⟩, duplicate.trans causes.1,
    quality.trans causes.2.1, clamps.trans causes.2.2⟩
  rwa [claims, releases]

theorem Quiet.silent {s : State} (h : Quiet s) : s.tele.Silent := ⟨h.queue, h.schedules, h.air.1⟩

theorem Quiet.dormant {s : State} (h : Quiet s) : Dormant s := h.circuits

theorem State.held.offline {s : State} (h : s.held) : s.mc.mode.online = false := by
  rcases h with h | h <;> rw [h] <;> rfl

theorem State.held.not_works {s : State} (h : s.held) : s.sawWorks = false :=
  Bool.eq_false_iff.2 fun hw => not_held_of_sawWorks hw h

/-- An operation that a quiet station answers with nothing that its quiet reads. -/
theorem Keeps.quiet {s t : State} (hm : t.mc.mode.held = s.mc.mode.held)
    (hq : s.held → Quiet s → quietView t = quietView s) : Keeps heldQuiet quietView s t := by
  intro h
  by_cases hh : s.held
  · exact .inl (hq hh (h hh))
  · exact .inr fun ht => absurd ((held_iff s).2 (hm ▸ (held_iff t).1 ht)) hh

/-- An operation that a held station does not come to. -/
theorem Keeps.not_held {s t : State} (hs : ¬s.held) (hm : t.mc.mode.held = s.mc.mode.held) :
    Keeps heldQuiet quietView s t :=
  .quiet hm fun hh => absurd hh hs

theorem not_held_of_online {s : State} (h : s.mc.mode.online = true) : ¬s.held := fun hh => by
  simp [hh.offline] at h

/-! ### The operations of a quiet station -/

section
variable {s : State}

theorem Quiet.circuitTick (q : Quiet s) (p : Pins) : quietView (circuitTick p s) = quietView s := by
  have dormant := q.dormant.circuitTick p
  have saw : (Machine.circuitTick p s).saw = s.saw :=
    (circuitTick_saw p s).resolve_right (by simp [q.saw.1, SawState.asksClutch])
  have states : (fun k => ((Machine.circuitTick p s).circ.table.get k).state) = fun k => (s.circ.table.get k).state :=
    funext fun k => (dormant.2 k).trans (q.circuits.2 k).symm
  simp [quietView, saw, states, dormant.1, q.circuits.1]

theorem Quiet.gateTick (q : Quiet s) (p : Pins) : quietView (gateTick p s) = quietView s := by
  simp [quietView, Machine.gateTick, sheddingRaise, Gate.takeLimits, q.gate, Gate.sampleLimits, Gate.countSince,
    Gate.countPulse]

theorem Quiet.governorRecord (q : Quiet s) (hh : s.held) : quietView (takeGovernorRecord s) = quietView s := by
  unfold takeGovernorRecord
  split
  · rfl
  · simp [quietView, Governor.take, governs, hh.offline, Governor.inactive, q.ballast]

theorem Quiet.circuitRecord (q : Quiet s) (r : LineRecord) : quietView (circuitRecord r s) = quietView s := by
  unfold Machine.circuitRecord
  split <;> simp [q.circuits.1, evaluateStages]

theorem Quiet.countDuplicate (q : Quiet s) : quietView (countDuplicate s) = quietView s := by
  simp [Machine.countDuplicate, Telegram.calm, q.causes.1]

theorem Quiet.telegramTick (q : Quiet s) (hh : s.held) : quietView (telegramTick s) = quietView s := by
  rw [q.silent.telegramTick_eq hh.offline, q.countDuplicate]

theorem Quiet.sawTick (hh : s.held) (p : Pins) : quietView (sawTick p s) = quietView s := by
  rw [Machine.sawTick, if_neg (by simp [hh.not_works])]
  rfl

theorem Quiet.goDark (q : Quiet s) : s.tele.goDark.calm = s.tele.calm := by
  have all : ∀ v : Five (Option Schedule), (∀ k, v.get k = none) → v = ⟨none, none, none, none, none⟩ := by
    intro v hv
    have h₀ : v.c0 = none := hv .c0
    have h₁ : v.c1 = none := hv .c1
    have h₂ : v.c2 = none := hv .c2
    have h₃ : v.c3 = none := hv .c3
    have h₄ : v.c4 = none := hv .c4
    cases v
    simp_all
  simp [Telegram.calm, Telegram.goDark, q.queue, q.air, q.causes, all _ fun k => (q.schedules k).1,
    all _ fun k => (q.schedules k).2]

theorem Quiet.admissionGoDark (q : Quiet s) {x : Handed} :
    quietView (admissionGoDark (s.setHanded x)) = quietView s := by
  have emptied : s.adm.emptied = s.adm := by
    simp only [Admission.emptied, ← q.claims.1, ← q.claims.2]
  simp only [Machine.admissionGoDark, State.setHanded_adm, q.claims.1, settleOutAll, emptied]
  rw [Telegram.Silent.settleTx_eq (s := (s.setHanded x).setAdm s.adm) q.silent]
  rfl

theorem Quiet.modeTick (hh : s.held) : modeTick s = s := by
  rcases hh with h | h <;> simp [Machine.modeTick, h]

theorem Quiet.modeRecord (hh : s.held) (r : LineRecord) : modeRecord r s = s := by
  rcases hh with h | h <;> simp [Machine.modeRecord, h]

end

/-- Every operation keeps the held station quiet. -/
theorem opsKeep_heldQuiet : OpsKeep heldQuiet quietView where
  same := fun {s t} hv h ht => by
    have hm : t.mc.mode.held = s.mc.mode.held := by
      simp only [quietView, Prod.mk.injEq] at hv
      exact hv.2.2.2.2.2.2.2.2.2.2.2.2
    exact .of_view hv (h ((held_iff s).2 (hm ▸ (held_iff t).1 ht)))
  reset := fun _ =>
    { circuits := ⟨rfl, fun k => by cases k <;> rfl⟩, ballast := rfl, saw := ⟨rfl, rfl⟩, gate := ⟨rfl, rfl⟩,
      claims := ⟨rfl, rfl⟩, table := rfl, queue := ⟨rfl, rfl⟩, schedules := fun k => by cases k <;> exact ⟨rfl, rfl⟩,
      air := ⟨rfl, rfl⟩, causes := ⟨rfl, rfl, rfl⟩ }
  telegramTick _ := .quiet (by simp) fun hh q => q.telegramTick hh
  neighbourTick _ := .quiet (by simp) fun _ q => by simp [neighbourTick, q.table]
  admissionTick _ := .quiet (by simp) fun _ q => by rw [admissionTick_of_empty q.claims.1 q.claims.2 q.silent]
  circuitTick p _ := .quiet (by simp) fun _ q => q.circuitTick p
  sawTick p _ := .quiet (by simp) fun hh _ => Quiet.sawTick hh p
  gateTick p _ := .quiet (by simp) fun _ q => q.gateTick p
  modeTick _ := .quiet (by simp) fun hh _ => by rw [Quiet.modeTick hh]
  governorRecord _ := .quiet (by simp) fun hh q => q.governorRecord hh
  circuitRecord r _ := .quiet (by simp) fun _ q => q.circuitRecord r
  sawRecord r _ := .quiet (by simp) fun hh _ => by simp [sawRecord, hh.not_works]
  modeRecord r _ := .quiet (by simp) fun hh _ => by rw [Quiet.modeRecord hh]
  telegramDark _ _ := .quiet (by simp) fun _ q => by simp [q.goDark]
  neighbourDark _ _ := .quiet (by simp) fun _ q => by simp [Table.emptied, q.table]
  admissionDark _ _ := .quiet (by simp) fun _ q => q.admissionGoDark
  circuitDark _ _ ha := .quiet (by simp) fun _ q => by simp [q.circuits.1] at ha
  sawLineLost _ hw := .not_held (not_held_of_sawWorks hw) (by simp)
  gateDark _ _ := .quiet (by simp) fun _ q => by simp [Gate.goDark, q.gate]
  circuitRun _ hm := .not_held (by simp [State.held, hm]) (by simp)
  gateRun _ _ hm := .not_held (by simp [State.held, hm]) (by simp)
  carrierUp _ := .quiet (by simp) fun _ q => by simp [Telegram.carrierUp, q.air, Telegram.calm]
  carrierDown _ := .quiet (by simp) fun _ q => by simp [Telegram.carrierDown, q.air, Telegram.calm]
  cutShort _ := .quiet (by simp) fun hh _ => by simp [cutShort, hh.offline]
  gapExpiry _ := .quiet (by simp) fun hh _ => by simp [gapExpiry, hh.offline]
  transmissionComplete _ := .quiet (by simp) fun _ q => by simp [transmissionComplete, q.air]
  receiveBytes bytes _ := .quiet (by simp) fun hh _ => by simp [receiveBytes, hh.offline]
  huntBits bits _ := .quiet (by simp) fun hh _ => by simp [huntBits, hh.offline]
  qualityPoor _ ho := .not_held (not_held_of_online ho) (by simp)
  claimCopyDue k _ := .quiet (by simp) fun _ q => by rw [q.silent.countClaimCopy_eq, q.silent.settleTx_eq]
  releaseCopyDue k _ := .quiet (by simp) fun _ q => by rw [q.silent.countReleaseCopy_eq, q.silent.settleTx_eq]
  statusDue _ ho := .not_held (not_held_of_online ho) (by simp)
  recallEnds _ ho := .not_held (not_held_of_online ho) (by simp)
  duplicateEnds _ := .quiet (by simp) fun _ q => q.countDuplicate
  hearStatus h _ := .quiet (by simp) fun hh _ => by simp [hearStatus, hh.offline]
  neighbourStale n _ _ := .quiet (by simp) fun _ q => by simp [q.table]
  neighbourAgedOut n _ _ := .quiet (by simp) fun _ q => by simp [q.table, removeStation]
  forgetStation n _ := .quiet (by simp) fun _ q => by simp [forgetStation, q.claims]
  sheddingRaised _ := .quiet (by simp) fun _ q => by simp [sheddingRaised, q.claims, deferAll, q.silent.settleTx_eq]
  hearClaim owner tag effective amount hold _ := .quiet (by simp) fun hh _ => by simp [hearClaim, hh.offline]
  hearRelease owner tag _ := .quiet (by simp) fun hh _ => by simp [hearRelease, hh.offline]
  createClaim k amount cls restore s := .quiet (by simp) fun hh _ => by
    have hm : s.mc.mode ≠ .run := by rintro hm; simp [State.held, hm] at hh
    simp [createClaim, hm]
  withdrawClaim k _ := .quiet (by simp) fun _ q => by simp [withdrawClaim, Admission.ownOf, q.claims]
  holdoffExpiry s := .quiet (by simp) fun _ q => by
    rw [setOwn_of_eq (by simp [q.claims]), decideGroup_of_empty q.claims.1, q.silent.settleTx_eq]
  backoffExpiry k _ := .quiet (by simp) fun _ q => by rw [setOwn_of_eq (by simp [q.claims, rejoin])]
  settleExpiry k _ := .quiet (by simp) fun _ q => by rw [settleOut_of_empty q.claims.1 q.silent, q.silent.settleTx_eq]
  holdExpiry owner tag _ := .quiet (by simp) fun _ q => by rw [setHeard_of_eq (by simp [q.claims])]
  takeAdmitted k _ := .quiet (by simp) fun _ q => by simp [takeAdmitted, q.circuits.1]
  takeRefused k _ := .quiet (by simp) fun _ q => by simp [takeRefused, q.circuits.1]
  pauseOut k _ ha _ := .quiet (by simp) fun _ q => by simp [q.circuits.1] at ha
  stageShed st _ := .quiet (by simp) fun _ q => by
    rw [(q.dormant.setTimer st 0).shedOne_eq]
    cases st <;> rfl
  restoreAll _ hr := .quiet (by simp) fun _ q => by simp [restoreCounts, q.circuits.1] at hr
  countEngage _ hw _ := .not_held (not_held_of_sawWorks hw) (by simp)
  countSpinup _ hw _ := .not_held (not_held_of_sawWorks hw) (by simp)
  countReady _ hw _ := .not_held (not_held_of_sawWorks hw) (by simp)
  countRelease _ hw _ := .not_held (not_held_of_sawWorks hw) (by simp)
  stall _ hw _ := .not_held (not_held_of_sawWorks hw) (by simp)
  adaptNow _ hw _ := .not_held (not_held_of_sawWorks hw) (by simp)
  backoffEnd _ hw _ := .not_held (not_held_of_sawWorks hw) (by simp)
  gateEvaluate e _ := .quiet (by simp) fun _ q => by simp [gateEvaluate, q.gate.2]
  pulseEnd _ := .quiet (by simp) fun _ q => by simp [Gate.rest, q.gate]
  countDark _ hm := .not_held (by simp [State.held, hm]) (by simp)
  startFails s hm h := .inr fun _ => by
    obtain ⟨c, b, w, g, a, n, q, sch, air, causes⟩ := h (.inl hm)
    exact ⟨c, b, w, g, a, n, q, sch, air, causes⟩
  startSucceeds _ _ _ _ _ := .inr fun hh => by simp [held_iff] at hh
  clearAll _ := .quiet (by simp) fun _ q => by
    simp [Circuits.clearCounters, Governor.clearCounters, Saw.clearCounters, Gate.clearCounters,
      Admission.clearCounters, Table.clearCounters, Telegram.clearCounters, Telegram.calm, q.causes]
  restartHalted s hm h := .inr fun _ => by
    obtain ⟨-, b, -, -, -, -, q, sch, air, causes⟩ := h (.inr hm)
    rw [restartHalted, restartBlocks_eq]
    exact ⟨⟨rfl, fun k => by cases k <;> rfl⟩, b, ⟨rfl, rfl⟩, ⟨rfl, rfl⟩, ⟨rfl, rfl⟩, rfl, q, sch, air, rfl,
      causes.2.1, rfl⟩
  restartRunning _ _ _ _ := .inr fun hh => by simp [held_iff] at hh

/-- The outputs of a quiet station. -/
theorem Quiet.outputs {s : State} (q : Quiet s) :
    s.outputs =
      { contactor := ⟨false, false, false, false⟩, ballast := false, clutch := false, feedDuty := 0,
        feedDirection := false, raise := false, lower := false, attention := s.mc.mode == .halted, modem := [] } := by
  simp [State.outputs, State.contactor, State.clutchPin, State.attention, State.attentionCauses, SawState.asksClutch,
    SawState.isFault, TrimState.raises, TrimState.lowers, TxState.onAir, q.circuits, q.ballast, q.saw, q.gate, q.air,
    q.causes]

/-- Settles O60: a held station has nothing that an operation could start, and its outputs follow from that. -/
theorem everyStepKeepsTheHeldStationQuiet : Obligations.EveryStepKeepsTheHeldStationQuiet :=
  ⟨opsKeep_heldQuiet.everyStepKeeps, fun _ q => q.outputs⟩

end Sys2Proof.Machine

/-! # Counters, ranges, grids, receive quality and waits (O52)

The Telegram Controller's figures that this reads, its quality and its counters, are its `tally`; most operations leave
the tally alone. -/

namespace Sys2Proof.Machine

/-! ### The tally of the Telegram Controller -/

/-- The event counters of a Telegram Controller. -/
def Telegram.counts (t : Telegram) : List Nat :=
  [t.sent, t.received, t.crcFailures, t.foreignHamlet, t.malformed, t.duplicateStation, t.statusSuperseded]

/-- The receive quality with its counter, and the event counters. -/
def Telegram.tally (t : Telegram) : Nat × Quality × List Nat := (t.qualityCount, t.quality, t.counts)

theorem Telegram.tally_eq_iff {t u : Telegram} :
    u.tally = t.tally ↔ u.qualityCount = t.qualityCount ∧ u.quality = t.quality ∧ u.counts = t.counts := by
  simp [Telegram.tally]

@[simp] theorem elapse_tally (dt : Nat) (s : State) : (elapse dt s).tele.tally = s.tele.tally := by
  rw [elapse_tele]
  split <;> rfl

@[simp] theorem elapseTo_tally (i : Nat) (s : State) : (elapseTo i s).tele.tally = s.tele.tally := elapse_tally _ s

@[simp] theorem toSampleInstant_tally (s : State) : (toSampleInstant s).tele.tally = s.tele.tally := by
  simp [toSampleInstant]

@[simp] theorem beginTick_tally (s : State) : (beginTick s).tele.tally = s.tele.tally := by
  unfold beginTick
  split <;> simp

@[simp] theorem missingCrossing_tally (s : State) : (missingCrossing s).tele.tally = s.tele.tally := by
  unfold missingCrossing
  split <;> simp

@[simp] theorem Telegram.settle_tally (t : Telegram) : t.settle.tally = t.tally := by
  unfold Telegram.settle Telegram.startGap
  (repeat' split) <;> rfl

@[simp] theorem settleTx_tally (s : State) : (settleTx s).tele.tally = s.tele.tally := Telegram.settle_tally _

@[simp] theorem joinCopy_tally (c : Copy) (s : State) : (joinCopy c s).tele.tally = s.tele.tally := rfl

@[simp] theorem endClaimSchedule_tally (k : Circ) (s : State) : (endClaimSchedule k s).tele.tally = s.tele.tally := rfl

@[simp] theorem endReleaseSchedule_tally (k : Circ) (s : State) :
    (endReleaseSchedule k s).tele.tally = s.tele.tally := rfl

@[simp] theorem startClaimSchedule_tally (k : Circ) (s : State) :
    (startClaimSchedule k s).tele.tally = s.tele.tally := rfl

@[simp] theorem startReleaseSchedule_tally (k : Circ) (s : State) :
    (startReleaseSchedule k s).tele.tally = s.tele.tally := by
  unfold startReleaseSchedule
  dsimp only
  split <;> rfl

@[simp] theorem settleOut_tally (k : Circ) (s : State) : (settleOut k s).tele.tally = s.tele.tally := rfl

@[simp] theorem settleOutAll_tally (l : List OwnClaim) (s : State) : (settleOutAll l s).tele.tally = s.tele.tally := by
  induction l generalizing s with
  | nil => rfl
  | cons c rest ih => exact (ih _).trans (settleOut_tally c.circuit s)

@[simp] theorem deferClaim_tally (c : OwnClaim) (s : State) : (deferClaim c s).tele.tally = s.tele.tally := by
  simp [deferClaim_tele_eq]

@[simp] theorem deferAll_tally (l : List OwnClaim) (s : State) : (deferAll l s).tele.tally = s.tele.tally := by
  induction l generalizing s with
  | nil => rfl
  | cons c rest ih => exact (ih _).trans (deferClaim_tally c s)

@[simp] theorem applyVerdicts_tally (l : List (OwnClaim × Bool)) (s : State) :
    (applyVerdicts l s).tele.tally = s.tele.tally := by
  induction l generalizing s with
  | nil => rfl
  | cons x rest ih =>
    obtain ⟨c, _ | _⟩ := x
    · exact (ih _).trans (deferClaim_tally c s)
    · exact (ih _).trans (by simp)

@[simp] theorem decideGroup_tally (s : State) : (decideGroup s).tele.tally = s.tele.tally := by
  unfold decideGroup
  split <;> simp

@[simp] theorem sheddingRaised_tally (s : State) : (sheddingRaised s).tele.tally = s.tele.tally := by
  simp [sheddingRaised]

@[simp] theorem testAgainst_tally (e : HeardEntry) (s : State) : (testAgainst e s).tele.tally = s.tele.tally := by
  simp [testAgainst]

@[simp] theorem hearClaim_tally (o t e a h : Nat) (s : State) : (hearClaim o t e a h s).tele.tally = s.tele.tally := by
  unfold hearClaim
  (repeat' split) <;> simp

@[simp] theorem withdrawClaim_tally (k : Circ) (s : State) : (withdrawClaim k s).tele.tally = s.tele.tally := by
  unfold withdrawClaim
  (repeat' split) <;> simp

@[simp] theorem enterHoldoff_tally (c : OwnClaim) (s : State) : (enterHoldoff c s).tele.tally = s.tele.tally := rfl

@[simp] theorem advanceQueue_tally (n : Nat) (s : State) : (advanceQueue n s).tele.tally = s.tele.tally := by
  induction n generalizing s with
  | zero => rfl
  | succ n ih =>
    unfold advanceQueue
    (repeat' split)
    · rfl
    · exact (ih _).trans (enterHoldoff_tally _ s)
    · rfl

@[simp] theorem admissionTick_tally (s : State) : (admissionTick s).tele.tally = s.tele.tally := by
  simp [admissionTick, countHoldoffs, countSettles]

@[simp] theorem admissionGoDark_tally (s : State) : (admissionGoDark s).tele.tally = s.tele.tally := by
  simp [admissionGoDark]

@[simp] theorem countClaimCopy_tally (k : Circ) (s : State) : (countClaimCopy k s).tele.tally = s.tele.tally := by
  unfold countClaimCopy
  (repeat' split) <;> rfl

@[simp] theorem countReleaseCopy_tally (k : Circ) (s : State) : (countReleaseCopy k s).tele.tally = s.tele.tally := by
  unfold countReleaseCopy
  (repeat' split) <;> rfl

@[simp] theorem countDuplicate_tally (s : State) : (countDuplicate s).tele.tally = s.tele.tally := rfl

@[simp] theorem countRecall_tally (s : State) : (countRecall s).tele.tally = s.tele.tally := rfl

@[simp] theorem send_tally (item : TxItem) (kind : Nat) (body : List Byte) (s : State) :
    (send item kind body s).tele.tally = s.tele.tally := rfl

@[simp] theorem startTransmission_tally (s : State) : (startTransmission s).tele.tally = s.tele.tally := by
  unfold startTransmission
  (repeat' split)
  · rfl
  · exact settleTx_tally _
  · rfl
  · rfl
  · exact settleTx_tally s

@[simp] theorem gapExpiry_tally (s : State) : (gapExpiry s).tele.tally = s.tele.tally := by
  unfold gapExpiry
  split <;> simp

@[simp] theorem huntBits_tally (bits : List Bool) (s : State) : (huntBits bits s).tele.tally = s.tele.tally := by
  unfold huntBits
  split <;> rfl

@[simp] theorem setRx_tally (rx : RxState) (s : State) : (setRx rx s).tele.tally = s.tele.tally := rfl

@[simp] theorem Telegram.carrierUp_tally (t : Telegram) : t.carrierUp.tally = t.tally := by
  unfold Telegram.carrierUp
  split <;> rfl

@[simp] theorem Telegram.carrierDown_tally (t : Telegram) : t.carrierDown.tally = t.tally := by
  unfold Telegram.carrierDown
  split <;> rfl

@[simp] theorem Telegram.goDark_counts (t : Telegram) : t.goDark.counts = t.counts := rfl

theorem Telegram.counts_of_tally {t u : Telegram} (h : u.tally = t.tally) : u.counts = t.counts :=
  (Telegram.tally_eq_iff.1 h).2.2

/-! ### Bounded counters -/

/-- Every counter of a list stops at 65,535. -/
def Bounded (l : List Nat) : Prop := ∀ n ∈ l, n ≤ 65535

@[simp] theorem bounded_nil : Bounded [] := fun _ h => absurd h List.not_mem_nil

@[simp] theorem bounded_cons (n : Nat) (l : List Nat) : Bounded (n :: l) ↔ n ≤ 65535 ∧ Bounded l := by
  simp [Bounded]

@[simp] theorem bounded_append (l m : List Nat) : Bounded (l ++ m) ↔ Bounded l ∧ Bounded m := by
  simp [Bounded, or_imp, forall_and]

/-- A count that may have been taken, or not, stops at 65,535. -/
theorem ite_satInc_le {b : Prop} [Decidable b] {n : Nat} (h : n ≤ 65535) : (if b then satInc n else n) ≤ 65535 := by
  split
  · exact satInc_le n
  · exact h

/-! ### The counters and the quality of the Telegram Controller -/

/-- The receive quality counter stays within 0..Eq and agrees with the quality (R63). -/
structure Telegram.QualityOk (eq : Nat) (t : Telegram) : Prop where
  atMost : t.qualityCount ≤ eq
  good : t.quality = .good → t.qualityCount < eq
  poor : t.quality = .poor → 0 < t.qualityCount

/-- An operation that leads from `t` to `u` keeps the quality in order, and the counters bounded. -/
structure Telegram.Tallies (eq : Nat) (t u : Telegram) : Prop where
  quality : 1 ≤ eq → t.QualityOk eq → u.QualityOk eq
  counts : Bounded t.counts → Bounded u.counts

namespace Telegram.Tallies
variable {eq : Nat} {t u v : Telegram}

theorem of_tally (hu : u.tally = t.tally) : t.Tallies eq u := by
  obtain ⟨hn, hq, hc⟩ := Telegram.tally_eq_iff.1 hu
  exact ⟨fun _ ⟨atMost, good, poor⟩ => ⟨by rwa [hn], by rwa [hn, hq], by rwa [hn, hq]⟩, fun h => hc ▸ h⟩

theorem refl (t : Telegram) : t.Tallies eq t := of_tally rfl

theorem trans (h : t.Tallies eq u) (h' : u.Tallies eq v) : t.Tallies eq v :=
  ⟨fun he hq => h'.quality he (h.quality he hq), fun hc => h'.counts (h.counts hc)⟩

/-- The counters change, and the quality stands. -/
theorem of_counts (hn : u.qualityCount = t.qualityCount) (hq : u.quality = t.quality)
    (hc : Bounded t.counts → Bounded u.counts) : t.Tallies eq u :=
  ⟨fun _ ⟨atMost, good, poor⟩ => ⟨by rwa [hn], by rwa [hn, hq], by rwa [hn, hq]⟩, hc⟩

theorem qualityDown (t : Telegram) : t.Tallies eq (t.qualityDown eq) := by
  refine ⟨fun he ⟨atMost, good, poor⟩ => ⟨Nat.min_le_left _ _, fun hg => ?_, fun _ => ?_⟩, id⟩
  · unfold Telegram.qualityDown at hg ⊢
    dsimp only at hg ⊢
    split at hg
    · cases hg
    · omega
  · unfold Telegram.qualityDown
    dsimp only
    omega

theorem qualityUp (t : Telegram) : t.Tallies eq t.qualityUp := by
  refine ⟨fun _ ⟨atMost, good, poor⟩ => ⟨(Nat.sub_le _ _).trans atMost, fun hg => ?_, fun hp => ?_⟩, id⟩
  · unfold Telegram.qualityUp at hg ⊢
    dsimp only at hg ⊢
    split at hg
    · omega
    · have := good hg
      omega
  · unfold Telegram.qualityUp at hp ⊢
    dsimp only at hp ⊢
    split at hp
    · cases hp
    · have := poor hp
      omega

theorem failCheck (t : Telegram) : t.Tallies eq (t.failCheck eq) := by
  have counted : t.Tallies eq { t with crcFailures := satInc t.crcFailures } :=
    of_counts rfl rfl fun h => by simp_all [Telegram.counts, satInc_le]
  exact counted.trans (qualityDown _)

theorem goDark (t : Telegram) : t.Tallies eq t.goDark := ⟨fun he _ => ⟨Nat.zero_le _, fun _ => he, nofun⟩, id⟩

theorem clearCounters (t : Telegram) : t.Tallies eq t.clearCounters :=
  of_counts rfl rfl fun _ => by simp [Telegram.counts, Telegram.clearCounters]

end Telegram.Tallies

section
variable (s : State) {eq : Nat}

theorem composeStatus_tallies : s.tele.Tallies eq (composeStatus s).tele :=
  .of_counts rfl rfl fun h => by
    simp only [Telegram.counts, bounded_cons] at h
    simpa [composeStatus, Telegram.counts, h] using ite_satInc_le h.2.2.2.2.2.2.1

theorem countStatus_tallies : s.tele.Tallies eq (countStatus s).tele := by
  unfold countStatus
  split
  · have emptied : s.tele.Tallies eq (s.setTele { s.tele with statusCount := 0 }).tele := .of_tally rfl
    exact emptied.trans (composeStatus_tallies _)
  · exact .of_tally rfl

theorem foldl_tally {f : Circ → State → State} (hf : ∀ k s, (f k s).tele.tally = s.tele.tally) (l : List Circ) :
    ∀ s : State, (l.foldl (fun t k => f k t) s).tele.tally = s.tele.tally := by
  induction l with
  | nil => exact fun _ => rfl
  | cons k rest ih => exact fun s => (ih _).trans (hf k s)

theorem telegramTick_tallies : s.tele.Tallies eq (telegramTick s).tele := by
  have counted : s.tele.Tallies eq
      (if s.mc.mode.online then countStatus (countRecall (countDuplicate s)) else countDuplicate s).tele := by
    split
    · exact Telegram.Tallies.trans (.of_tally (countRecall_tally (countDuplicate s))) (countStatus_tallies _)
    · exact .of_tally rfl
  refine counted.trans (.of_tally ?_)
  unfold telegramTick
  rw [settleTx_tally, foldl_tally countReleaseCopy_tally, foldl_tally countClaimCopy_tally]

theorem receiveTelegram_tallies (header body check : List Byte) :
    s.tele.Tallies s.cfg.eq (receiveTelegram header body check s).tele := by
  unfold receiveTelegram
  dsimp only
  (repeat' split)
  · exact .failCheck _
  · exact .of_counts rfl rfl fun h => by simp_all [Telegram.counts, satInc_le]
  · refine Telegram.Tallies.trans ?_ (.qualityDown _)
    exact .of_counts rfl rfl fun h => by simp_all [Telegram.counts, satInc_le]
  · exact .of_counts rfl rfl fun h => by simp_all [Telegram.counts, satInc_le]
  · refine Telegram.Tallies.trans ?_ (.qualityUp _)
    exact .of_counts rfl rfl fun h => by simp_all [Telegram.counts, satInc_le]

theorem receiveByte_tallies (b : Byte) : s.tele.Tallies s.cfg.eq (receiveByte b s).tele := by
  unfold receiveByte
  (repeat' split)
  · exact .of_tally rfl
  · exact (Telegram.Tallies.failCheck _).trans (.of_tally rfl)
  · exact .of_tally rfl
  · exact .of_tally rfl
  · exact (receiveTelegram_tallies s _ _ _).trans (.of_tally (setRx_tally _ _))
  · exact .refl _

theorem receiveBytes_tallies (bytes : List Byte) : s.tele.Tallies s.cfg.eq (receiveBytes bytes s).tele := by
  unfold receiveBytes
  split
  case isTrue hon =>
    clear hon
    induction bytes generalizing s with
    | nil => exact .refl _
    | cons b rest ih => exact (receiveByte_tallies s b).trans (by simpa using ih (receiveByte b s))
  case isFalse => exact .refl _

theorem cutShort_tallies : s.tele.Tallies s.cfg.eq (cutShort s).tele := by
  unfold cutShort
  (repeat' split)
  · exact (Telegram.Tallies.failCheck _).trans (.of_tally rfl)
  · exact (Telegram.Tallies.failCheck _).trans (.of_tally rfl)
  · exact .refl _
  · exact .refl _

theorem reportCompletion_tally (item : TxItem) (t : Telegram) : (t.reportCompletion item).tally = t.tally := by
  unfold Telegram.reportCompletion
  split <;> rfl

theorem afterSending_tally (t : Telegram) : t.afterSending.tally = t.tally := by
  unfold Telegram.afterSending Telegram.startGap
  dsimp only
  (repeat' split) <;> rfl

theorem transmissionComplete_tallies : s.tele.Tallies eq (transmissionComplete s).tele := by
  unfold transmissionComplete
  (repeat' split)
  case h_1.isTrue out _ _ =>
    refine (Telegram.Tallies.of_tally (elapseTo_tally out.doneAt s)).trans (Telegram.Tallies.trans ?_
      (.of_tally ((afterSending_tally _).trans (reportCompletion_tally _ _))))
    exact .of_counts rfl rfl fun h => by simp_all [Telegram.counts, satInc_le]
  all_goals exact .refl _

theorem telegramRecoverEntry_tallies : s.tele.Tallies eq (telegramRecoverEntry s).tele := by
  unfold telegramRecoverEntry
  dsimp only
  split
  · exact ((Telegram.Tallies.of_tally rfl).trans (composeStatus_tallies _)).trans (.of_tally (settleTx_tally _))
  · exact .of_tally rfl

theorem modeRecord_tallies (r : LineRecord) : s.tele.Tallies eq (modeRecord r s).tele := by
  unfold modeRecord
  split
  case h_1 =>
    have entered := telegramRecoverEntry_tallies (eq := eq) (s.setMc { s.mc with mode := .recover })
    unfold enterRecover
    dsimp only
    split <;> exact entered
  all_goals exact .refl _

end

/-! ### Every step keeps the receive quality -/

namespace QualityOk
variable {s t : State}

theorem tele (h : QualityOk s) : s.tele.QualityOk s.cfg.eq := ⟨h.atMost, h.good, h.poor⟩

/-- An operation that keeps the quality in order, and leaves its counter alone where the station is held. -/
theorem of_tallies (h : QualityOk s) (hc : t.cfg = s.cfg) (hm : t.mc.mode.held = s.mc.mode.held)
    (ht : s.tele.Tallies s.cfg.eq t.tele) (hq : s.held → t.tele.qualityCount = s.tele.qualityCount) : QualityOk t := by
  obtain ⟨atMost, good, poor⟩ := ht.quality h.config.eq.1 h.tele
  refine ⟨hc ▸ h.config, hc ▸ atMost, hc ▸ good, poor, fun hh => ?_⟩
  have hs : s.held := (held_iff s).2 (hm ▸ (held_iff t).1 hh)
  exact (hq hs).trans (h.held hs)

theorem of_online (h : QualityOk s) (ho : s.mc.mode.online = true) (hc : t.cfg = s.cfg)
    (hm : t.mc.mode.held = s.mc.mode.held) (ht : s.tele.Tallies s.cfg.eq t.tele) : QualityOk t :=
  h.of_tallies hc hm ht fun hh => absurd hh (not_held_of_online ho)

/-- In START and HALTED the counter stands at 0, so that the quality is GOOD under any configuration. -/
theorem of_held (h : QualityOk s) (hs : s.held) (hc : ConfigOk t.cfg) (ht : t.tele.tally = s.tele.tally) :
    QualityOk t := by
  obtain ⟨hn, hq, -⟩ := Telegram.tally_eq_iff.1 ht
  have h0 := h.held hs
  refine ⟨hc, by omega, fun _ => by have := hc.eq.1; omega, fun hp => ?_, fun _ => hn.trans h0⟩
  have := h.poor (hq ▸ hp)
  omega

/-- After an entry to DARK that the Telegram Controller has taken. -/
theorem of_dark {x : Telegram} (hc : ConfigOk t.cfg) (ht : t.tele.tally = x.goDark.tally) : QualityOk t := by
  obtain ⟨hn, hq, -⟩ := Telegram.tally_eq_iff.1 ht
  have h0 : t.tele.qualityCount = 0 := hn
  exact ⟨hc, by omega, fun _ => h0 ▸ hc.eq.1, fun hp => absurd (hq.symm.trans hp) nofun, fun _ => h0⟩

end QualityOk

/-- Every operation keeps the receive quality in order. -/
theorem opsKeep_qualityOk : OpsKeep QualityOk fun s => (s.cfg, s.tele.tally, s.mc.mode.held) where
  same := fun {s t} hv h => by
    simp only [Prod.mk.injEq] at hv
    obtain ⟨hc, ht, hm⟩ := hv
    exact h.of_tallies hc hm (.of_tally ht) fun _ => (Telegram.tally_eq_iff.1 ht).1
  reset := ⟨defaultConfig_ok, by decide, by decide, by decide, fun _ => rfl⟩
  telegramTick s h := .inr <| h.of_tallies (by simp) (by simp) (telegramTick_tallies s) fun hh => by
    have tally : (telegramTick s).tele.tally = s.tele.tally := by
      unfold telegramTick
      rw [settleTx_tally, foldl_tally countReleaseCopy_tally, foldl_tally countClaimCopy_tally]
      simp [hh.offline]
    exact (Telegram.tally_eq_iff.1 tally).1
  modeRecord r s h := .inr <| h.of_tallies (by simp) (by simp) (modeRecord_tallies s r) fun hh => by
    rw [Quiet.modeRecord hh]
  telegramDark s _ h := .inr (.of_dark h.config rfl)
  cutShort s h := .inr <| h.of_tallies (by simp) (by simp) (cutShort_tallies s) fun hh => by
    simp [cutShort, hh.offline]
  transmissionComplete s h := .inr <| h.of_tallies (by simp) (by simp) (transmissionComplete_tallies s) fun hh => by
    simp only [transmissionComplete, hh.offline]
    split <;> rfl
  receiveBytes bytes s h := .inr <| h.of_tallies (by simp) (by simp) (receiveBytes_tallies s bytes) fun hh => by
    simp [receiveBytes, hh.offline]
  qualityPoor _ ho h := .inr (h.of_online ho rfl rfl (.qualityDown _))
  statusDue s ho h := .inr <| h.of_online ho (by simp) (by simp)
    ((countStatus_tallies s).trans (.of_tally (settleTx_tally _)))
  startFails s hm h := .inr (h.of_held (.inl hm) defaultConfig_ok (by simp))
  startSucceeds d _ _ hm h := .inr (h.of_held (.inl hm) (clampConfig_ok d) (by simp))
  clearAll s h := .inr <| h.of_tallies (by simp) (by simp) (by simpa using .clearCounters s.tele) fun _ => by
    simp [Telegram.clearCounters]
  restartHalted s hm h := .inr (h.of_held (.inr hm) (by simpa using h.config) (by
    simp [restartHalted, restartBlocks_eq, clearDuplicate, Telegram.tally, Telegram.counts]))
  restartRunning s _ _ h := .inr (.of_dark (x := s.tele) (by simpa using h.config) (by
    simp [restartRunning, restartBlocks_eq, restartTelegrams, clearDuplicate, Telegram.tally, Telegram.counts]))

end Sys2Proof.Machine

/-! # The event counters (O52, continued)

Each block has its own counters, and a count stops at 65,535; every operation of a block leaves its counters alone or
takes counts. -/

namespace Sys2Proof.Machine

/-! ### The Telegram Controller -/

theorem opsKeep_telegramCounts : OpsKeep (fun s => Bounded s.tele.counts) fun s => s.tele.tally where
  same hv h := (Telegram.Tallies.of_tally (eq := 0) hv).counts h
  reset := by simp [State.reset, Telegram.counts]
  telegramTick s h := .inr ((telegramTick_tallies (eq := 0) s).counts h)
  modeRecord r s h := .inr ((modeRecord_tallies (eq := 0) s r).counts h)
  telegramDark s _ h := .inr ((Telegram.Tallies.goDark (eq := 0) s.tele).counts h)
  cutShort s h := .inr ((cutShort_tallies s).counts h)
  transmissionComplete s h := .inr ((transmissionComplete_tallies (eq := 0) s).counts h)
  receiveBytes bytes s h := .inr ((receiveBytes_tallies s bytes).counts h)
  qualityPoor s _ h := .inr ((Telegram.Tallies.qualityDown (eq := s.cfg.eq) s.tele).counts h)
  statusDue s _ h := .inr (((countStatus_tallies (eq := 0) s).trans (.of_tally (settleTx_tally _))).counts h)
  clearAll s h := .inr (by simpa using (Telegram.Tallies.clearCounters (eq := 0) s.tele).counts h)
  restartHalted s _ h := .inr (by
    simpa [restartHalted, restartBlocks_eq, clearDuplicate, Telegram.counts] using h)
  restartRunning s _ _ h := .inr (by
    simpa [restartRunning, restartBlocks_eq, restartTelegrams, clearDuplicate, Telegram.goDark,
        Telegram.counts] using h)

/-! ### The Line Meter and the Ballast Governor -/

/-- The event counters of the Line Meter. -/
def Meter.counts (m : Meter) : List Nat := [m.chatter, m.badCycles, m.lockLosses]

@[simp] theorem elapse_meterCounts (dt : Nat) (s : State) : (elapse dt s).meter.counts = s.meter.counts := by
  rw [elapse_meter]
  split <;> rfl

@[simp] theorem elapseTo_meterCounts (i : Nat) (s : State) : (elapseTo i s).meter.counts = s.meter.counts :=
  elapse_meterCounts _ s

@[simp] theorem toSampleInstant_meterCounts (s : State) : (toSampleInstant s).meter.counts = s.meter.counts := by
  simp [toSampleInstant]

@[simp] theorem beginTick_meterCounts (s : State) : (beginTick s).meter.counts = s.meter.counts := by
  unfold beginTick
  split <;> simp

@[simp] theorem gapExpiry_meterCounts (s : State) : (gapExpiry s).meter.counts = s.meter.counts := by
  unfold gapExpiry
  split <;> simp

@[simp] theorem transmissionComplete_meterCounts (s : State) :
    (transmissionComplete s).meter.counts = s.meter.counts := by
  unfold transmissionComplete
  (repeat' split) <;> simp

@[simp] theorem addSample_meterCounts (v : Int) (s : State) : (addSample v s).meter.counts = s.meter.counts := by
  unfold addSample
  split <;> rfl

theorem countLockLoss_le {n : Nat} (h : n ≤ 65535) {found after : Lock} : countLockLoss found after n ≤ 65535 :=
  ite_satInc_le h

theorem Meter.cycleEnd_counts {m : Meter} (h : Bounded m.counts) (cfg : Config) (p : Option Nat) :
    Bounded (m.cycleEnd cfg p).counts := by
  simp only [Meter.counts, bounded_cons, bounded_nil, and_true] at h ⊢
  obtain ⟨chatter, bad, losses⟩ := h
  refine ⟨chatter, ?_, countLockLoss_le losses⟩
  simp only [Meter.cycleEnd]
  split
  · exact bad
  · exact satInc_le _

theorem reportCrossing_meterCounts {s : State} (h : Bounded s.meter.counts) :
    Bounded (reportCrossing s).meter.counts := by
  unfold reportCrossing
  (repeat' split)
  · exact Meter.cycleEnd_counts (m := { s.meter with elapsed := 0, silence := 0 }) h _ _
  · simp_all [Meter.counts, satInc_le]
  · exact h

theorem missingCrossing_meterCounts {s : State} (h : Bounded s.meter.counts) :
    Bounded (missingCrossing s).meter.counts := by
  unfold missingCrossing
  split
  · have elapsed : Bounded (elapse (40000 - s.meter.silence) s).meter.counts := by rwa [elapse_meterCounts]
    exact Meter.cycleEnd_counts (m := { (elapse (40000 - s.meter.silence) s).meter with silence := 0 }) elapsed _ _
  · exact h

theorem opsKeep_meterCounts : OpsKeep (fun s => Bounded s.meter.counts) fun s => s.meter.counts where
  same hv h := by
    rw [hv]
    exact h
  reset := by simp [State.reset, Meter.counts]
  reportCrossing s h := .inr (reportCrossing_meterCounts h)
  missingCrossing s h := .inr (missingCrossing_meterCounts h)
  setLock _ s h := .inr <| by
    simp only [Meter.counts, bounded_cons] at h
    simpa [setLock, Meter.counts, h] using countLockLoss_le h.2.2.1
  clearAll _ _ := .inr (by simp [Meter.clearCounters, Meter.counts])
  startFails s _ _ := .inl (by simp [startFails, startLine, setBaseFeed, startMeter, Meter.started, Meter.counts])
  startSucceeds _ _ _ _ _ := .inl (by
    simp [startSucceeds, startLine, setBaseFeed, startMeter, Meter.started, Meter.counts])
  restartHalted s _ _ := .inl (by simp [restartHalted, restartBlocks_eq])
  restartRunning s _ _ _ := .inl (by
    simp [restartRunning, restartBlocks_eq, restartTelegrams, clearDuplicate, Meter.counts, startMeter, Meter.started,
      restartGovernor])

@[simp] theorem composeStatus_overspeed (s : State) :
    (composeStatus s).gov.overspeedCycles = s.gov.overspeedCycles := rfl

@[simp] theorem countStatus_overspeed (s : State) : (countStatus s).gov.overspeedCycles = s.gov.overspeedCycles := by
  unfold countStatus
  split <;> rfl

theorem foldl_gov {f : Circ → State → State} (hf : ∀ k s, (f k s).gov = s.gov) (l : List Circ) :
    ∀ s : State, (l.foldl (fun t k => f k t) s).gov = s.gov := by
  induction l with
  | nil => exact fun _ => rfl
  | cons k rest ih => exact fun s => (ih _).trans (hf k s)

/-- At a tick the governor loses the sums of a composition, and nothing else. -/
theorem telegramTick_gov (s : State) : (telegramTick s).gov = s.gov ∨ (telegramTick s).gov = s.gov.emptied := by
  unfold telegramTick
  rw [(settleTx_frame _).2.2.2.2.1, foldl_gov (fun k s => by simp), foldl_gov (fun k s => by simp)]
  unfold countStatus
  (repeat' split)
  · exact .inr rfl
  · exact .inl rfl
  · exact .inl rfl

theorem Governor.take_overspeed {g : Governor} (h : g.overspeedCycles ≤ 65535) (cfg : Config) (m : Mode)
    (anchor : Option Nat) (r : LineRecord) : (g.take cfg m anchor r).overspeedCycles ≤ 65535 := by
  have fired : ∀ g' : Governor, g'.fire.overspeedCycles = g'.overspeedCycles := fun g' => by
    unfold Governor.fire
    split <;> rfl
  unfold Governor.take
  (repeat' split)
  · simp only [Governor.account, fired, Governor.regulate]
    split
    · exact satInc_le _
    · exact h
  · exact h
  · simpa [Governor.account, fired] using h
  · exact h

theorem opsKeep_governorCounts :
    OpsKeep (fun s => s.gov.overspeedCycles ≤ 65535) fun s => s.gov.overspeedCycles where
  same hv h := by
    rw [hv]
    exact h
  reset := Nat.zero_le _
  telegramTick s _ := .inl ((telegramTick_gov s).elim (congrArg Governor.overspeedCycles)
    (congrArg Governor.overspeedCycles))
  governorRecord s h := .inr (by
    unfold takeGovernorRecord
    split
    · exact h
    · exact Governor.take_overspeed h _ _ _ _)
  modeRecord r s _ := .inl (by
    unfold modeRecord enterRecover telegramRecoverEntry
    dsimp only
    (repeat' split) <;> simp)
  clearAll _ _ := .inr (by simp [Governor.clearCounters])
  startFails s _ _ := .inl (by simp [startFails, startLine, setBaseFeed, Governor.started])
  startSucceeds _ _ _ _ _ := .inl (by simp [startSucceeds, startLine, setBaseFeed, Governor.started])
  restartRunning s _ _ _ := .inl (by
    simp [restartRunning, restartBlocks_eq, restartTelegrams, clearDuplicate, restartGovernor, Governor.started,
      Governor.inactive])

/-! ### The Neighbour Table and the Admission Controller -/

theorem opsKeep_tableCounts : OpsKeep (fun s => s.table.overflow ≤ 65535) fun s => s.table.overflow where
  same hv h := by
    rw [hv]
    exact h
  reset := Nat.zero_le _
  neighbourTick _ _ := .inl rfl
  neighbourDark _ _ _ := .inl rfl
  hearStatus x s h := .inr (by
    unfold hearStatus Table.hear
    dsimp only
    (repeat' split)
    all_goals first | exact h | exact satInc_le _)
  clearAll _ _ := .inr (by simp [Table.clearCounters])
  restartHalted s _ _ := .inl (by simp [restartHalted, restartBlocks_eq, Table.emptied])
  restartRunning s _ _ _ := .inl (by simp [restartRunning, restartBlocks_eq, Table.emptied])

/-- The event counters of the Admission Controller. -/
def Admission.counts (a : Admission) : List Nat :=
  [a.refusals, a.admissions, a.deferrals, a.promotions, a.claimOverflow]

@[simp] theorem setOwn_counts (l : List OwnClaim) (s : State) : (setOwn l s).adm.counts = s.adm.counts := rfl

@[simp] theorem setHeard_counts (l : List HeardEntry) (s : State) : (setHeard l s).adm.counts = s.adm.counts := rfl

@[simp] theorem changeOwn_counts (k : Circ) (f : OwnClaim → OwnClaim) (s : State) :
    (changeOwn k f s).adm.counts = s.adm.counts := rfl

@[simp] theorem removeOwn_counts (k : Circ) (s : State) : (removeOwn k s).adm.counts = s.adm.counts := rfl

@[simp] theorem settleOut_counts (k : Circ) (s : State) : (settleOut k s).adm.counts = s.adm.counts := rfl

@[simp] theorem settleOutAll_counts (l : List OwnClaim) (s : State) :
    (settleOutAll l s).adm.counts = s.adm.counts := by
  induction l generalizing s with
  | nil => rfl
  | cons c rest ih => exact (ih _).trans (settleOut_counts c.circuit s)

@[simp] theorem enterHoldoff_counts (c : OwnClaim) (s : State) : (enterHoldoff c s).adm.counts = s.adm.counts := by
  simp [enterHoldoff]

@[simp] theorem advanceQueue_counts (n : Nat) (s : State) : (advanceQueue n s).adm.counts = s.adm.counts := by
  induction n generalizing s with
  | zero => rfl
  | succ n ih =>
    unfold advanceQueue
    (repeat' split)
    · rfl
    · exact (ih _).trans (enterHoldoff_counts _ s)
    · rfl

@[simp] theorem withdrawClaim_counts (k : Circ) (s : State) : (withdrawClaim k s).adm.counts = s.adm.counts := by
  unfold withdrawClaim
  (repeat' split) <;> simp

@[simp] theorem hearRelease_counts (o t : Nat) (s : State) : (hearRelease o t s).adm.counts = s.adm.counts := by
  unfold hearRelease removeHeard
  split <;> rfl

@[simp] theorem forgetStation_counts (n : Nat) (s : State) : (forgetStation n s).adm.counts = s.adm.counts := rfl

section
variable {s : State}

theorem deferClaim_bounded (h : Bounded s.adm.counts) (c : OwnClaim) : Bounded (deferClaim c s).adm.counts := by
  simp only [Admission.counts, bounded_cons, bounded_nil, and_true] at h
  obtain ⟨refusals, admissions, deferrals, promotions, overflow⟩ := h
  unfold deferClaim
  dsimp only
  split <;> simp [Admission.counts, removeOwn, changeOwn, setOwn, satInc_le, ite_satInc_le, *]

theorem deferAll_bounded (l : List OwnClaim) :
    ∀ {s : State}, Bounded s.adm.counts → Bounded (deferAll l s).adm.counts := by
  induction l with
  | nil => exact id
  | cons c rest ih => exact fun h => ih (deferClaim_bounded h c)

theorem admitClaim_bounded (h : Bounded s.adm.counts) (c : OwnClaim) : Bounded (admitClaim c s).adm.counts := by
  simp only [Admission.counts, bounded_cons] at h
  simp [admitClaim, Admission.counts, changeOwn, setOwn, satInc_le, h]

theorem applyVerdicts_bounded (l : List (OwnClaim × Bool)) :
    ∀ {s : State}, Bounded s.adm.counts → Bounded (applyVerdicts l s).adm.counts := by
  induction l with
  | nil => exact id
  | cons x rest ih =>
    obtain ⟨c, _ | _⟩ := x
    · exact fun h => ih (deferClaim_bounded h c)
    · exact fun h => ih (admitClaim_bounded h c)

theorem decideGroup_bounded (h : Bounded s.adm.counts) : Bounded (decideGroup s).adm.counts := by
  unfold decideGroup
  split
  · exact applyVerdicts_bounded _ h
  · rwa [settleOutAll_counts]

theorem sheddingRaised_bounded (h : Bounded s.adm.counts) : Bounded (sheddingRaised s).adm.counts := by
  simpa [sheddingRaised] using deferAll_bounded _ h

theorem testAgainst_bounded (h : Bounded s.adm.counts) (e : HeardEntry) : Bounded (testAgainst e s).adm.counts := by
  simpa [testAgainst] using deferAll_bounded _ h

theorem hearClaim_bounded (h : Bounded s.adm.counts) (owner tag effective amount hold : Nat) :
    Bounded (hearClaim owner tag effective amount hold s).adm.counts := by
  unfold hearClaim
  dsimp only
  (repeat' split)
  · exact h
  · simpa [removeHeard] using h
  · exact testAgainst_bounded (by simpa using h) _
  · exact testAgainst_bounded (by simpa using h) _
  · simp_all [Admission.counts, satInc_le]

theorem createClaim_bounded (h : Bounded s.adm.counts) (k : Circ) (amount cls : Nat) (restore : Bool) :
    Bounded (createClaim k amount cls restore s).adm.counts := by
  unfold createClaim
  (repeat' split)
  · exact h
  · exact h
  · simp_all [Admission.counts, satInc_le]
  · exact h

theorem admissionTick_bounded (h : Bounded s.adm.counts) : Bounded (admissionTick s).adm.counts := by
  have decided : Bounded (countHoldoffs (countBackoffs (countSettles (countHolds s)))).adm.counts := by
    refine decideGroup_bounded ?_
    simpa [countBackoffs, countSettles, countHolds] using h
  simpa [admissionTick] using decided

end

theorem opsKeep_admissionCounts : OpsKeep (fun s => Bounded s.adm.counts) fun s => s.adm.counts where
  same hv h := by
    rw [hv]
    exact h
  reset := by simp [State.reset, Admission.counts]
  admissionTick _ h := .inr (admissionTick_bounded h)
  admissionDark _ _ _ := .inl (by
    simp only [admissionGoDark, settleTx_frame, State.setAdm_adm]
    exact settleOutAll_counts _ _)
  sheddingRaised _ h := .inr (sheddingRaised_bounded h)
  hearClaim owner tag effective amount hold _ h := .inr (hearClaim_bounded h owner tag effective amount hold)
  createClaim k amount cls restore _ h := .inr (createClaim_bounded h k amount cls restore)
  holdoffExpiry _ h := .inr (by
    change Bounded (decideGroup _).adm.counts
    exact decideGroup_bounded (by simpa using h))
  clearAll _ _ := .inr (by simp [Admission.clearCounters, Admission.counts])
  restartHalted s _ _ := .inl (by simp [restartHalted, restartBlocks_eq, Admission.emptied, Admission.counts])
  restartRunning s _ _ _ := .inl (by simp [restartRunning, restartBlocks_eq, Admission.emptied, Admission.counts])

/-! ### The Circuit Controller -/

/-- The event counters of the Circuit Controller. -/
def Circuits.counts (c : Circuits) : List Nat := [c.sheds1, c.sheds2, c.restores]

theorem Circuits.counts_of_standing {c d : Circuits} (h : d.standing = c.standing) : d.counts = c.counts :=
  congrArg Prod.snd h

section
variable {s : State}

theorem bounded_of_standing {t : State} (h : Bounded s.circ.counts) (ht : t.circ.standing = s.circ.standing) :
    Bounded t.circ.counts := Circuits.counts_of_standing ht ▸ h

theorem shedOne_bounded (h : Bounded s.circ.counts) (stage : Stage) : Bounded (shedOne stage s).circ.counts := by
  simp only [Circuits.counts, bounded_cons, bounded_nil, and_true] at h
  unfold shedOne
  split
  · simpa [Circuits.counts] using h
  · refine bounded_of_standing ?_ (shedState_standing _ _)
    cases stage <;> simp [Circuits.countShed, Circuits.counts, satInc_le, h]

theorem stageStep_bounded (h : Bounded s.circ.counts) (stage : Stage) : Bounded (stageStep stage s).circ.counts := by
  unfold stageStep
  (repeat' split)
  · exact shedOne_bounded (bounded_of_standing h (setTimer_standing _ _ s)) stage
  all_goals exact bounded_of_standing h (setTimer_standing _ _ s)

theorem restoreCircuit_bounded (h : Bounded s.circ.counts) (k : Circ) : Bounded (restoreCircuit s k).circ.counts := by
  simp only [Circuits.counts, bounded_cons, bounded_nil, and_true] at h
  unfold restoreCircuit
  split
  · simp [toWaiting, setCircuitState, Circuits.counts, satInc_le, h]
  · simpa [Circuits.counts] using h

theorem restoreAll_bounded (h : Bounded s.circ.counts) : Bounded (restoreAll s).circ.counts := by
  have fold : ∀ (l : List Circ) (t : State), Bounded t.circ.counts → Bounded (l.foldl restoreCircuit t).circ.counts
      := by
    intro l
    induction l with
    | nil => exact fun _ h => h
    | cons k rest ih => exact fun t h => ih _ (restoreCircuit_bounded h k)
  exact fold _ s h

theorem restoreStep_bounded (h : Bounded s.circ.counts) : Bounded (restoreStep s).circ.counts := by
  unfold restoreStep
  (repeat' split)
  · exact restoreAll_bounded h
  · exact h
  · exact h

theorem circuitTick_bounded (h : Bounded s.circ.counts) (p : Pins) : Bounded (circuitTick p s).circ.counts :=
  restoreStep_bounded <| stageStep_bounded (stageStep_bounded
    (bounded_of_standing h ((pauseStep_standing _).trans (demandStep_standing p s))) .stage2) .stage1

end

theorem startSucceeds_circ (cfg : Config) (s : State) : (startSucceeds cfg s).circ = s.circ.buildRotation cfg := rfl

theorem buildRotation_counts (cfg : Config) (c : Circuits) : (c.buildRotation cfg).counts = c.counts := by
  unfold Circuits.buildRotation
  split <;> rfl

theorem opsKeep_circuitCounts : OpsKeep (fun s => Bounded s.circ.counts) fun s => s.circ.standing where
  same hv h := bounded_of_standing h hv
  reset := by simp [State.reset, Circuits.counts]
  circuitTick p _ h := .inr (circuitTick_bounded h p)
  stageShed st s h := .inr (shedOne_bounded (bounded_of_standing h (setTimer_standing st 0 s)) st)
  restoreAll _ _ h := .inr (restoreAll_bounded h)
  startSucceeds d _ s _ h := .inr (by
    simpa only [startSucceeds_circ, buildRotation_counts, State.setLoader_circ] using h)
  clearAll _ _ := .inr (by simp [Circuits.clearCounters, Circuits.counts])
  restartHalted s _ h := .inr (by
    simpa [restartHalted, restartBlocks_eq, Circuits.restarted, Circuits.quiet, Circuits.counts] using h)
  restartRunning s _ _ h := .inr (by
    simpa [restartRunning, restartBlocks_eq, Circuits.restarted, Circuits.quiet, Circuits.counts] using h)

/-! ### The Saw Drive -/

/-- The event counters of the Saw Drive. -/
def Saw.counts (w : Saw) : List Nat := [w.sawRefused, w.sawFaults, w.stalls, w.sawShedStops]

@[simp] theorem enterIdle_counts (s : State) : (enterIdle s).saw.counts = s.saw.counts := rfl

@[simp] theorem enterStopping_sawCounts (s : State) : (enterStopping s).saw.counts = s.saw.counts := by
  rw [enterStopping_saw]
  split <;> rfl

@[simp] theorem enterSpinup_counts (b : Bool) (s : State) : (enterSpinup b s).saw.counts = s.saw.counts := rfl

@[simp] theorem enterReady_counts (s : State) : (enterReady s).saw.counts = s.saw.counts := rfl

@[simp] theorem enterReturning_counts (s : State) : (enterReturning s).saw.counts = s.saw.counts := by
  unfold enterReturning
  dsimp only
  split <;> rfl

@[simp] theorem enterCutting_counts (s : State) : (enterCutting s).saw.counts = s.saw.counts := by
  unfold enterCutting
  dsimp only
  split
  · rw [enterReturning_counts]
    rfl
  · rfl

@[simp] theorem endBackoff_counts (s : State) : (endBackoff s).saw.counts = s.saw.counts := by
  unfold endBackoff
  split <;> simp

@[simp] theorem clutchDropped_counts (s : State) : (clutchDropped s).saw.counts = s.saw.counts := by
  unfold clutchDropped
  split <;> simp

@[simp] theorem returnAsserted_counts (s : State) : (returnAsserted s).saw.counts = s.saw.counts := by
  unfold returnAsserted
  split <;> simp

@[simp] theorem forwardAsserted_counts (s : State) : (forwardAsserted s).saw.counts = s.saw.counts := by
  unfold forwardAsserted
  split <;> simp

@[simp] theorem stopPressed_counts (s : State) : (stopPressed s).saw.counts = s.saw.counts := by
  unfold stopPressed
  (repeat' split) <;> simp

@[simp] theorem countSpinup_counts (r : Nat) (s : State) : (countSpinup r s).saw.counts = s.saw.counts := by
  unfold countSpinup
  split
  · simp
  · rfl

@[simp] theorem countReady_counts (r : Nat) (s : State) : (countReady r s).saw.counts = s.saw.counts := by
  unfold countReady
  split
  · simp
  · rfl

@[simp] theorem sawLineLost_counts (s : State) : (sawLineLost s).saw.counts = s.saw.counts := by
  unfold sawLineLost
  split <;> simp

@[simp] theorem sawAdmitted_counts (s : State) : (sawAdmitted s).saw.counts = s.saw.counts := by
  unfold sawAdmitted
  split <;> rfl

section
variable {s : State}

theorem enterFault_bounded (h : Bounded s.saw.counts) (code : FaultCode) : Bounded (enterFault code s).saw.counts := by
  simp only [Saw.counts, bounded_cons] at h
  simp [enterFault, Saw.counts, satInc_le, h]

theorem enterBackoff_bounded (h : Bounded s.saw.counts) : Bounded (enterBackoff s).saw.counts := by
  simp only [Saw.counts, bounded_cons, bounded_nil, and_true] at h
  unfold enterBackoff
  dsimp only
  split
  · rw [endBackoff_counts]
    simp [Saw.cleared, Saw.counts, satInc_le, h]
  · simp [Saw.cleared, Saw.counts, satInc_le, h]

theorem clutchAsserted_bounded (h : Bounded s.saw.counts) : Bounded (clutchAsserted s).saw.counts := by
  unfold clutchAsserted
  split
  · exact enterFault_bounded h _
  · exact enterFault_bounded (by simpa using h) _
  · exact h
  · exact h

theorem startPressed_bounded (h : Bounded s.saw.counts) : Bounded (startPressed s).saw.counts := by
  simp only [Saw.counts, bounded_cons, bounded_nil, and_true] at h
  unfold startPressed
  (repeat' split) <;> simp [Saw.counts, enterSpinup, satInc_le, h]

theorem onEvent_bounded {f : State → State} (h : Bounded s.saw.counts)
    (hf : Bounded s.saw.counts → Bounded (f s).saw.counts) (b : Bool) : Bounded (onEvent b f s).saw.counts := by
  unfold onEvent
  split
  · exact hf h
  · exact h

theorem sawInputs_bounded (h : Bounded s.saw.counts) (p : Pins) : Bounded (sawInputs p s).saw.counts := by
  unfold sawInputs
  refine onEvent_bounded ?_ startPressed_bounded _
  refine onEvent_bounded ?_ (by simp) _
  refine onEvent_bounded ?_ (by simp) _
  refine onEvent_bounded ?_ (by simp) _
  refine onEvent_bounded ?_ (by simp) _
  exact onEvent_bounded (s := sampleSaw p s) h clutchAsserted_bounded _

theorem sawTick_bounded (h : Bounded s.saw.counts) (p : Pins) : Bounded (sawTick p s).saw.counts := by
  have inputs := sawInputs_bounded h p
  have idle : Bounded (testIdleClutch (sawInputs p s)).saw.counts := by
    unfold testIdleClutch
    split
    · exact enterFault_bounded inputs _
    · exact inputs
  unfold sawTick countSawTimer
  (repeat' split)
  · unfold countEngage
    split
    · exact enterFault_bounded (by simpa using idle) _
    · exact idle
  · simpa using idle
  · simpa using idle
  · unfold countRelease
    split
    · exact enterFault_bounded idle _
    · exact idle
  · exact idle
  · exact h

theorem cuttingCycle_bounded (h : Bounded s.saw.counts) (f : Nat) : Bounded (cuttingCycle f s).saw.counts := by
  have moved : ∀ q, Bounded ((s.saw.addFraction s.cfg q).regulateFeed s.cfg q).counts := fun q => by
    unfold Saw.addFraction
    dsimp only
    split <;> exact h
  have stalled : ∀ (w : Saw) (run : Nat), Bounded w.counts →
      Bounded (if s.cfg.nst ≤ run then enterBackoff (s.setSaw { w with stallRun := run })
        else s.setSaw { w with stallRun := run }).saw.counts := fun w run hw => by
    split
    · exact enterBackoff_bounded (s := s.setSaw { w with stallRun := run }) hw
    · exact hw
  exact stalled _ _ (moved _)

theorem sawRecord_bounded (h : Bounded s.saw.counts) (r : LineRecord) : Bounded (sawRecord r s).saw.counts := by
  unfold sawRecord
  (repeat' split)
  · exact h
  · simpa using h
  · simpa using h
  · exact h
  · exact cuttingCycle_bounded h _
  · unfold backoffCycle
    split
    · simpa using h
    · exact h
  · exact h

theorem sawShed_bounded (h : Bounded s.saw.counts) : Bounded (sawShed s).saw.counts := by
  simp only [Saw.counts, bounded_cons, bounded_nil, and_true] at h
  unfold sawShed
  split
  · rw [enterStopping_sawCounts]
    simp [Saw.counts, satInc_le, h]
  · simpa [Saw.counts] using h

theorem shedOne_sawBounded (h : Bounded s.saw.counts) (stage : Stage) : Bounded (shedOne stage s).saw.counts := by
  unfold shedOne shedState
  (repeat' split)
  · exact h
  · exact sawShed_bounded h
  · exact h

theorem stageStep_sawBounded (h : Bounded s.saw.counts) (stage : Stage) : Bounded (stageStep stage s).saw.counts := by
  unfold stageStep
  (repeat' split)
  · exact shedOne_sawBounded (by simpa using h) stage
  · simpa using h
  · simpa using h

theorem circuitTick_sawBounded (h : Bounded s.saw.counts) (p : Pins) : Bounded (circuitTick p s).saw.counts := by
  have stages := stageStep_sawBounded (stageStep_sawBounded (s := pauseStep (demandStep p s)) (by simpa using h)
      .stage2)
    .stage1
  simpa [circuitTick] using stages

theorem takeAdmitted_counts (k : Circ) : (takeAdmitted k s).saw.counts = s.saw.counts := by
  unfold takeAdmitted
  (repeat' split) <;> simp

theorem takeRefused_bounded (h : Bounded s.saw.counts) (k : Circ) : Bounded (takeRefused k s).saw.counts := by
  have counts := h
  simp only [Saw.counts, bounded_cons, bounded_nil, and_true] at counts
  unfold takeRefused sawRefused
  (repeat' split)
  · simp [enterIdle, Saw.counts, satInc_le, counts]
  · simpa using h
  · simpa using h
  · exact h

end

theorem opsKeep_sawCounts : OpsKeep (fun s => Bounded s.saw.counts) fun s => s.saw.counts where
  same hv h := by
    rw [hv]
    exact h
  reset := by simp [State.reset, Saw.counts]
  circuitTick p _ h := .inr (circuitTick_sawBounded h p)
  sawTick p _ h := .inr (sawTick_bounded h p)
  sawRecord r _ h := .inr (sawRecord_bounded h r)
  takeAdmitted k _ _ := .inl (takeAdmitted_counts k)
  takeRefused k _ h := .inr (takeRefused_bounded h k)
  stageShed st s h := .inr (shedOne_sawBounded (by simpa using h) st)
  countEngage s _ _ h := .inr (by
    unfold countEngage
    split
    · exact enterFault_bounded (by simpa using h) _
    · exact h)
  countRelease s _ _ h := .inr (by
    unfold countRelease
    split
    · exact enterFault_bounded h _
    · exact h)
  stall _ _ _ h := .inr (enterBackoff_bounded h)
  adaptNow _ _ _ _ := .inl rfl
  startFails s _ _ := .inl (by simp [startFails, startLine, setBaseFeed, Saw.counts])
  startSucceeds _ _ _ _ _ := .inl (by simp [startSucceeds, startLine, setBaseFeed, Saw.counts])
  clearAll _ _ := .inr (by simp [Saw.clearCounters, Saw.counts])
  restartHalted s _ _ := .inl (by simp [restartHalted, restartBlocks_eq, Saw.restarted, Saw.cleared, Saw.counts])
  restartRunning s _ _ _ := .inl (by simp [restartRunning, restartBlocks_eq, Saw.restarted, Saw.cleared, Saw.counts])

/-! ### Gate Trim, the Mode Controller and the Panel Port -/

/-- The event counters of Gate Trim. -/
def Gate.counts (g : Gate) : List Nat := [g.raisePulses, g.lowerPulses, g.pulsesCut]

theorem gateTick_bounded {s : State} (h : Bounded s.gate.counts) (p : Pins) : Bounded (gateTick p s).gate.counts := by
  have limits : Bounded (s.gate.takeLimits p).counts := by
    have counts := h
    simp only [Gate.counts, bounded_cons, bounded_nil, and_true] at counts
    unfold Gate.takeLimits
    (repeat' split) <;> simp [Gate.cut, Gate.rest, Gate.sampleLimits, Gate.counts, satInc_le, counts]
  have pulse : Bounded ((s.gate.takeLimits p).countSince.countPulse).counts := by
    unfold Gate.countPulse
    (repeat' split) <;> exact limits
  unfold gateTick sheddingRaise
  split
  · simp only [Gate.counts, bounded_cons] at pulse
    simp [Gate.startRaise, Gate.counts, satInc_le, pulse]
  · exact pulse

theorem gateEvaluate_bounded {s : State} (h : Bounded s.gate.counts) (e : EvaluationEvent) :
    Bounded (gateEvaluate e s).gate.counts := by
  have judged : ∀ x, (s.gate.judge s.cfg x).counts = s.gate.counts := fun x => by
    unfold Gate.judge Gate.updateCounts
    (repeat' split) <;> rfl
  unfold gateEvaluate
  (repeat' split)
  · exact h
  · have counts : ∀ x, Bounded (s.gate.judge s.cfg x).counts := fun x => judged x ▸ h
    simp only [Gate.counts, bounded_cons] at counts
    dsimp only
    unfold tryPulse
    (repeat' split) <;> simp [Gate.startLower, Gate.startRaise, Gate.counts, satInc_le, counts]
  · exact h

theorem opsKeep_gateCounts : OpsKeep (fun s => Bounded s.gate.counts) fun s => s.gate.counts where
  same hv h := by
    rw [hv]
    exact h
  reset := by simp [State.reset, Gate.counts]
  gateTick p _ h := .inr (gateTick_bounded h p)
  gateEvaluate e _ h := .inr (gateEvaluate_bounded h e)
  gateDark _ _ _ := .inl rfl
  gateRun _ _ _ _ := .inl rfl
  pulseEnd _ _ := .inl rfl
  clearAll _ _ := .inr (by simp [Gate.clearCounters, Gate.counts])
  restartHalted s _ _ := .inl (by simp [restartHalted, restartBlocks_eq, Gate.restarted, Gate.goDark,
      Gate.clearCounts, Gate.counts])
  restartRunning s _ _ _ := .inl (by simp [restartRunning, restartBlocks_eq, Gate.restarted, Gate.goDark,
      Gate.clearCounts, Gate.counts])

/-- The event counters of the Mode Controller. -/
def ModeCtl.counts (m : ModeCtl) : List Nat := [m.darkEntries, m.recallsHeard, m.recallTimeouts]

section
variable {s : State}

theorem enterDark_bounded (h : Bounded s.mc.counts) (counted : Bool) : Bounded (enterDark counted s).mc.counts := by
  simp only [ModeCtl.counts, bounded_cons, bounded_nil, and_true] at h
  simp [enterDark, ModeCtl.counts, h, ite_satInc_le]

theorem recallTimeout_bounded (h : Bounded s.mc.counts) : Bounded (recallTimeout s).mc.counts := by
  simp only [ModeCtl.counts, bounded_cons] at h
  simp [recallTimeout, enterStagger, ModeCtl.counts, satInc_le, h]

theorem modeRecord_bounded (h : Bounded s.mc.counts) (r : LineRecord) : Bounded (modeRecord r s).mc.counts := by
  unfold modeRecord
  split
  · unfold enterRecover
    dsimp only
    split
    · simpa [enterStagger, ModeCtl.counts] using h
    · simpa [ModeCtl.counts] using h
  · exact enterDark_bounded h true
  · exact enterDark_bounded h true
  · exact enterDark_bounded h true
  · exact h

theorem countDark_counts : (countDark s).mc.counts = s.mc.counts := by
  unfold countDark
  dsimp only
  split <;> rfl

theorem modeTick_bounded (h : Bounded s.mc.counts) : Bounded (modeTick s).mc.counts := by
  unfold modeTick countRecallWait countStagger
  (repeat' split)
  · rwa [countDark_counts]
  · exact recallTimeout_bounded h
  all_goals exact h

theorem recallHeard_bounded (h : Bounded s.mc.counts) : Bounded (recallHeard s).mc.counts := by
  have counts := h
  simp only [ModeCtl.counts, bounded_cons] at counts
  unfold recallHeard
  split
  · simp [enterStagger, ModeCtl.counts, satInc_le, counts]
  · exact h

end

theorem opsKeep_modeCounts : OpsKeep (fun s => Bounded s.mc.counts) fun s => s.mc.counts where
  same hv h := by
    rw [hv]
    exact h
  reset := by simp [State.reset, ModeCtl.counts]
  modeTick _ h := .inr (modeTick_bounded h)
  modeRecord r _ h := .inr (modeRecord_bounded h r)
  recallHeard _ h := .inr (recallHeard_bounded h)
  recallTimeout _ _ h := .inr (recallTimeout_bounded h)
  enterRun _ _ _ := .inl rfl
  countDark _ _ _ := .inl countDark_counts
  startFails s _ _ := .inl (by simp [startFails, startLine, setBaseFeed, ModeCtl.counts])
  startSucceeds _ _ _ _ _ := .inl (by simp [startSucceeds, startLine, setBaseFeed, enterDark, ModeCtl.counts])
  clearAll _ _ := .inr (by simp [ModeCtl.clearCounters, ModeCtl.counts])
  restartHalted s _ _ := .inl (by simp [restartHalted, restartBlocks_eq, enterStart, ModeCtl.counts])
  restartRunning s _ _ _ := .inl (by simp [restartRunning, restartBlocks_eq, enterDark, ModeCtl.counts])

theorem opsKeep_panelCounts : OpsKeep (fun s => s.panel.overruns ≤ 65535) fun s => s.panel.overruns where
  same hv h := by
    rw [hv]
    exact h
  reset := Nat.zero_le _
  panelOverrun _ _ := .inr (satInc_le _)
  clearAll _ _ := .inr (by simp)

/-- The event counters of the part are those of its blocks. -/
theorem countersOk_iff (s : State) :
    countersOk s ↔ Bounded s.meter.counts ∧ s.gov.overspeedCycles ≤ 65535 ∧ Bounded s.tele.counts ∧
      s.table.overflow ≤ 65535 ∧ Bounded s.adm.counts ∧ Bounded s.circ.counts ∧ Bounded s.saw.counts ∧
      Bounded s.gate.counts ∧ Bounded s.mc.counts ∧ s.panel.overruns ≤ 65535 := by
  change Bounded (counterList s) ↔ _
  simp only [counterList, Meter.counts, Telegram.counts, Admission.counts, Circuits.counts, Saw.counts, Gate.counts,
    ModeCtl.counts, bounded_append, bounded_cons, bounded_nil, and_true, and_assoc]

theorem everyStepKeepsCounters : EveryStepKeeps countersOk := by
  intro s t h ht
  obtain ⟨meter, gov, tele, table, adm, circ, saw, gate, mc, panel⟩ := (countersOk_iff s).1 h
  exact (countersOk_iff t).2
    ⟨opsKeep_meterCounts.everyStepKeeps s t meter ht, opsKeep_governorCounts.everyStepKeeps s t gov ht,
      opsKeep_telegramCounts.everyStepKeeps s t tele ht, opsKeep_tableCounts.everyStepKeeps s t table ht,
      opsKeep_admissionCounts.everyStepKeeps s t adm ht, opsKeep_circuitCounts.everyStepKeeps s t circ ht,
      opsKeep_sawCounts.everyStepKeeps s t saw ht, opsKeep_gateCounts.everyStepKeeps s t gate ht,
      opsKeep_modeCounts.everyStepKeeps s t mc ht, opsKeep_panelCounts.everyStepKeeps s t panel ht⟩

end Sys2Proof.Machine

/-! # Counters, ranges, grids, receive quality and waits: the rest of O52 -/

namespace Sys2Proof.Machine

/-! ### The configuration stays in range -/

theorem opsKeep_configOk : OpsKeep configOk fun s => s.cfg where
  same hv h := by
    rw [configOk, hv]
    exact h
  reset := defaultConfig_ok
  startFails _ _ _ := .inr defaultConfig_ok
  startSucceeds d _ _ _ _ := .inr (clampConfig_ok d)

/-! ### Time -/

theorem le_ceilDiv_mul {b : Nat} (hb : 0 < b) (a : Nat) : a ≤ ceilDiv a b * b := by
  unfold ceilDiv
  have h := Nat.div_add_mod (a + b - 1) b
  have := Nat.mod_lt (a + b - 1) hb
  rw [Nat.mul_comm] at h
  omega

/-- The next instant of a grid lies on the grid, and is not before now. -/
theorem nextInstant_spec {period last : Nat} (hp : 0 < period) (hl : last % period = 0) (now : Nat) :
    nextInstant period last now % period = 0 ∧ now ≤ nextInstant period last now := by
  have hc := le_ceilDiv_mul hp now
  unfold nextInstant
  split
  · exact ⟨by rw [Nat.add_mod_right, hl], by omega⟩
  · exact ⟨Nat.mul_mod_left _ _, hc⟩

theorem elapseTo_now {i : Nat} {s : State} (h : s.time.now ≤ i) : (elapseTo i s).time = { s.time with now := i } := by
  rw [elapseTo, elapse_time, show s.time.now + (i - s.time.now) = i by omega]

theorem GridOk.elapse {s : State} (h : GridOk s.time) (dt : Nat) : GridOk (elapse dt s).time := by
  rw [elapse_time]
  exact ⟨h.tick, h.tickPast.trans (Nat.le_add_right _ _), h.sample, h.samplePast.trans (Nat.le_add_right _ _)⟩

theorem GridOk.toSampleInstant {s : State} (h : GridOk s.time) : GridOk (toSampleInstant s).time := by
  obtain ⟨grid, later⟩ := nextInstant_spec (by decide) h.sample s.time.now
  simp only [Machine.toSampleInstant, State.setTime_time, elapseTo_now later]
  exact ⟨h.tick, h.tickPast.trans later, grid, Nat.le_refl _⟩

theorem GridOk.beginTick {s : State} (h : GridOk s.time) : GridOk (beginTick s).time := by
  obtain ⟨grid, later⟩ := nextInstant_spec (by decide) h.tick s.time.now
  unfold Machine.beginTick
  split
  · simp only [State.setTime_time, elapseTo_now later]
    exact ⟨grid, Nat.le_refl _, h.sample, h.samplePast.trans later⟩
  · exact h

theorem opsKeep_gridOk : OpsKeep gridOk fun s => s.time where
  same hv h := by
    rw [gridOk, hv]
    exact h
  reset := ⟨rfl, Nat.le_refl _, rfl, Nat.le_refl _⟩
  elapse dt _ h := .inr (GridOk.elapse h dt)
  sampleInstant _ h := .inr (GridOk.toSampleInstant h)
  beginTick _ h := .inr (GridOk.beginTick h)
  tickWaiting _ _ h := .inr ⟨h.tick, h.tickPast, h.sample, h.samplePast⟩
  missingCrossing s h := .inr (by
    unfold missingCrossing
    split
    · simpa [gridOk] using GridOk.elapse h (40000 - s.meter.silence)
    · exact h)
  gapExpiry s h := .inr (by
    unfold gapExpiry
    split
    · simpa [gridOk] using GridOk.elapse h (quietGap s.loader.strapLatch - s.tele.gapTimer)
    · exact h)
  transmissionComplete s h := .inr (by
    unfold transmissionComplete
    split
    case h_1 out _ =>
      split
      · exact GridOk.elapse h (out.doneAt - s.time.now)
      · exact h
    case h_2 => exact h)

/-! ### The modes -/

/-- In a mode but RECOVER and STAGGER neither wait stands. -/
theorem ModeOk.of_none {m : ModeCtl} (hr : m.mode ≠ .recover) (hs : m.mode ≠ .stagger) (hw : m.recallWait = none)
    (hg : m.stagger = none) (hd : m.darkDuration ≤ 65535) : ModeOk m :=
  ⟨by simp [hw, hr], by simp [hg, hs], hd⟩

theorem ModeOk.none {m : ModeCtl} (h : ModeOk m) (hr : m.mode ≠ .recover) (hs : m.mode ≠ .stagger) :
    m.recallWait = none ∧ m.stagger = none := by
  have hw := h.waiting
  have hg := h.stagger
  constructor
  · cases hw' : m.recallWait
    · rfl
    · exact absurd (hw.1 (by rw [hw']; rfl)) hr
  · cases hg' : m.stagger
    · rfl
    · exact absurd (hg.1 (by rw [hg']; rfl)) hs

section
variable {s : State}

theorem enterDark_modeOk (counted : Bool) : modeOk (enterDark counted s) :=
  .of_none nofun nofun rfl rfl (Nat.zero_le _)

theorem enterStagger_modeOk (hd : s.mc.darkDuration ≤ 65535) : modeOk (enterStagger s) :=
  ⟨by simp [enterStagger], by simp [enterStagger], hd⟩

theorem enterRun_modeOk (h : modeOk s) (hm : s.mc.mode = .stagger) : modeOk (enterRun s) := by
  have wait : s.mc.recallWait = none := by
    have := h.waiting
    cases hw : s.mc.recallWait
    · rfl
    · simp [hw, hm] at this
  exact .of_none nofun nofun wait rfl h.dark

theorem countDark_modeOk (h : modeOk s) (hm : s.mc.mode = .dark) : modeOk (countDark s) := by
  obtain ⟨wait, stagger⟩ := h.none (by simp [hm]) (by simp [hm])
  have counted : ModeOk { s.mc with darkDuration := satInc s.mc.darkDuration } :=
    .of_none (by simp [hm]) (by simp [hm]) wait stagger (satInc_le _)
  unfold countDark
  dsimp only
  split <;> exact counted

theorem modeTick_modeOk (h : modeOk s) : modeOk (modeTick s) := by
  unfold modeTick countRecallWait countStagger
  split
  case h_1 hm => exact countDark_modeOk h hm
  case h_2 hm =>
    (repeat' split)
    · exact enterStagger_modeOk (s := s.setMc { s.mc with recallTimeouts := satInc s.mc.recallTimeouts }) h.dark
    · exact ⟨by simp [hm], h.stagger, h.dark⟩
    · exact h
  case h_3 hm =>
    (repeat' split)
    · exact enterRun_modeOk h hm
    · exact ⟨h.waiting, by simp [hm], h.dark⟩
    · exact h
  case h_4 => exact h

theorem modeRecord_modeOk (h : modeOk s) (r : LineRecord) : modeOk (modeRecord r s) := by
  unfold modeRecord
  split
  case h_1 hm _ =>
    obtain ⟨-, stagger⟩ := h.none (by simp [hm]) (by simp [hm])
    unfold enterRecover
    dsimp only
    split
    · exact enterStagger_modeOk (by simpa using h.dark)
    · exact ⟨by simp, by simp [stagger], by simpa using h.dark⟩
  case h_5 => exact h
  all_goals exact enterDark_modeOk true

theorem recallHeard_modeOk (h : modeOk s) : modeOk (recallHeard s) := by
  unfold recallHeard
  split
  · exact enterStagger_modeOk (s := s.setMc { s.mc with recallsHeard := satInc s.mc.recallsHeard }) h.dark
  · exact h

end

theorem opsKeep_modeOk : OpsKeep modeOk fun s => s.mc where
  same hv h := by
    rw [modeOk, hv]
    exact h
  reset := .of_none nofun nofun rfl rfl (Nat.zero_le _)
  modeTick _ h := .inr (modeTick_modeOk h)
  modeRecord r _ h := .inr (modeRecord_modeOk h r)
  recallHeard _ h := .inr (recallHeard_modeOk h)
  recallTimeout s _ h := .inr <|
    enterStagger_modeOk (s := s.setMc { s.mc with recallTimeouts := satInc s.mc.recallTimeouts }) h.dark
  enterRun _ hm h := .inr (enterRun_modeOk h hm)
  countDark _ hm h := .inr (countDark_modeOk h hm)
  startFails s hm h := .inr (by
    obtain ⟨wait, stagger⟩ := h.none (by simp [hm]) (by simp [hm])
    exact .of_none nofun nofun wait stagger h.dark)
  startSucceeds _ _ _ _ _ := .inr (enterDark_modeOk false)
  clearAll s h := .inr (by
    rw [modeOk, clearAll_mc]
    exact ⟨h.waiting, h.stagger, h.dark⟩)
  restartHalted s hm h := .inr (by
    obtain ⟨wait, stagger⟩ := h.none (by simp [hm]) (by simp [hm])
    rw [restartHalted, restartBlocks_eq]
    exact .of_none nofun nofun wait stagger h.dark)
  restartRunning _ _ _ _ := .inr (enterDark_modeOk false)

/-- Settles O52: five invariants, each kept by every operation of the commands. -/
theorem everyStepKeepsTheCountersTheRangesAndTheGrids : Obligations.EveryStepKeepsTheCountersTheRangesAndTheGrids :=
  ⟨everyStepKeepsCounters, opsKeep_configOk.everyStepKeeps, opsKeep_gridOk.everyStepKeeps,
    opsKeep_qualityOk.everyStepKeeps, opsKeep_modeOk.everyStepKeeps⟩

end Sys2Proof.Machine

/-! # The Line Meter and the Ballast Governor in range (O53) -/

namespace Sys2Proof.Machine

/-! ### The lock with its runs -/

/-- The runs agree with the lock (R12, R13). -/
structure LockRuns.Ok (na nl : Nat) (l : LockRuns) : Prop where
  acquiring : l.lock = .acquiring → 1 ≤ l.goodRun ∧ l.goodRun < na
  locked : l.lock = .locked → l.badRun = 0
  doubtful : l.lock = .doubtful → l.badRun < nl
  goodRun : l.goodRun ≤ 250
  badRun : l.badRun ≤ 15

theorem lockStep_ok {na nl : Nat} {l : LockRuns} (h : l.Ok na nl) (hna : within 2 na 250) (hnl : within 1 nl 15)
    (good : Bool) : (lockStep na nl good l).Ok na nl := by
  obtain ⟨lock, goodRun, badRun⟩ := l
  obtain ⟨acquiring, locked, doubtful, hg, hb⟩ := h
  obtain ⟨na₂, na₂₅₀⟩ := hna
  obtain ⟨nl₁, nl₁₅⟩ := hnl
  dsimp only at acquiring locked doubtful hg hb
  have lost : ∀ b, b ≤ 15 → (LockRuns.mk .lost 0 b).Ok na nl := fun b hb => ⟨nofun, nofun, nofun, Nat.zero_le _, hb⟩
  have lock0 : (LockRuns.mk .locked goodRun 0).Ok na nl := ⟨nofun, fun _ => rfl, nofun, hg, Nat.zero_le _⟩
  have lose : ∀ reached, reached ≤ nl → (loseStep nl reached ⟨lock, goodRun, badRun⟩).Ok na nl := fun reached hr => by
    unfold loseStep
    split
    · exact lost reached (by omega)
    · exact ⟨nofun, nofun, fun _ => by dsimp only; omega, hg, by dsimp only; omega⟩
  cases lock with
  | lost =>
    cases good with
    | true => exact ⟨fun _ => ⟨Nat.le_refl _, na₂⟩, nofun, nofun, Nat.le_of_lt (by decide : 1 < 250), hb⟩
    | false => exact lost _ hb
  | acquiring =>
    obtain ⟨_, hlt⟩ := acquiring rfl
    cases good with
    | true =>
      simp only [lockStep, acquireStep]
      split
      · exact ⟨nofun, fun _ => rfl, nofun, by dsimp only; omega, Nat.zero_le _⟩
      · exact ⟨fun _ => by dsimp only at *; omega, nofun, nofun, by dsimp only; omega, hb⟩
    | false => exact lost _ hb
  | locked =>
    cases good with
    | true => exact lock0
    | false => exact lose 1 nl₁
  | doubtful =>
    cases good with
    | true => exact lock0
    | false => exact lose (badRun + 1) (doubtful rfl)

/-! ### The filtered frequency -/

/-- The quotient of a difference, rounded toward 0, lies between 0 and the difference. -/
theorem tdiv_between (d : Int) {n : Int} (hn : 1 ≤ n) : min d 0 ≤ Int.tdiv d n ∧ Int.tdiv d n ≤ max d 0 := by
  have nonneg : ∀ e : Int, 0 ≤ e → 0 ≤ Int.tdiv e n ∧ Int.tdiv e n ≤ e := fun e he =>
    ⟨Int.tdiv_nonneg he (by omega), Int.tdiv_le_self _ he⟩
  rcases Int.le_total 0 d with hd | hd
  · have := nonneg d hd
    omega
  · have := nonneg (-d) (by omega)
    rw [Int.neg_tdiv] at this
    omega

theorem filterFrequency_within {found : Lock} {k filtered freq : Nat} (hf : within 40000 filtered 62500)
    (hq : within 40000 freq 62500) : within 40000 (filterFrequency k found filtered freq) 62500 := by
  unfold filterFrequency
  split
  · have step := tdiv_between ((freq : Int) - filtered) (n := 2 ^ k) (by exact_mod_cast Nat.one_le_two_pow)
    obtain ⟨hf₁, hf₂⟩ := hf
    obtain ⟨hq₁, hq₂⟩ := hq
    constructor <;> omega
  · exact hq

/-- f of a period that is neither BAD-RANGE nor the missing-crossing event's lies within 40,000..62,500 (R10). -/
theorem frequency_within {p : Nat} (h₁ : 16000 ≤ p) (h₂ : p ≤ 25000) : within 40000 (frequency p) 62500 := by
  unfold frequency
  constructor
  · exact (Nat.le_div_iff_mul_le (by omega)).2 (by omega)
  · exact Nat.div_le_of_le_mul (by omega)

theorem classify_good {vmin vrms : Nat} {p : Option Nat} (h : classify vmin p vrms = .good) :
    ∃ n, p = some n ∧ 16000 ≤ n ∧ n ≤ 25000 := by
  unfold classify at h
  split at h
  · cases h
  · split at h
    · cases h
    · exact ⟨_, rfl, by simp_all⟩

/-! ### The meter -/

namespace MeterOk
variable {c : Config} {m : Meter}

theorem runs (h : MeterOk c m) : m.lockRuns.Ok c.na c.nl := ⟨h.acquiring, h.locked, h.doubtful, h.goodRun, h.badRun⟩

/-- The counters and the record are not read. -/
theorem of_eq (h : MeterOk c m) {n : Meter} (he : n.elapsed ≤ 65535) (hs : n.silence ≤ 40000) (hq : n.sumSq = m.sumSq)
    (hn : n.samples = m.samples) (hf : n.filtered = m.filtered) (hc : n.cycleCount = m.cycleCount)
    (hr : n.lockRuns = m.lockRuns) : MeterOk c n := by
  have runs : n.lockRuns.Ok c.na c.nl := hr ▸ h.runs
  exact ⟨he, hs, by rw [hq, hn]; exact h.sumSq, hf ▸ h.filtered, hc ▸ h.cycleCount, runs.acquiring, runs.locked,
    runs.doubtful, runs.goodRun, runs.badRun⟩

theorem elapse {s : State} (h : MeterOk c s.meter) (dt : Nat) : MeterOk c (elapse dt s).meter := by
  rw [elapse_meter]
  split
  · exact h.of_eq (Nat.min_le_left _ _) (Nat.min_le_left _ _) rfl rfl rfl rfl rfl
  · exact h

theorem elapseTo {s : State} (h : MeterOk c s.meter) (i : Nat) : MeterOk c (elapseTo i s).meter := h.elapse _

theorem setLock (h : MeterOk c m) {l : LockRuns} (hl : l.Ok c.na c.nl) {n : Nat} :
    MeterOk c { m with lock := l.lock, goodRun := l.goodRun, badRun := l.badRun, lockLosses := n } :=
  ⟨h.elapsed, h.silence, h.sumSq, h.filtered, h.cycleCount, hl.acquiring, hl.locked, hl.doubtful, hl.goodRun, hl.badRun⟩

theorem cycleEnd (h : MeterOk c m) (hc : ConfigOk c) (p : Option Nat) : MeterOk c (m.cycleEnd c p) := by
  have filtered : within 40000 (m.cycleEnd c p).filtered 62500 := by
    simp only [Meter.cycleEnd]
    split
    case isTrue hg =>
      obtain ⟨n, rfl, h₁, h₂⟩ := classify_good (by simpa using hg)
      exact filterFrequency_within h.filtered (frequency_within h₁ h₂)
    case isFalse => exact h.filtered
  have runs : (m.cycleEnd c p).lockRuns.Ok c.na c.nl :=
    lockStep_ok h.runs ⟨by have := hc.na.1; omega, hc.na.2⟩ hc.nl _
  exact ⟨h.elapsed, h.silence, Nat.zero_le _, filtered, by simp only [Meter.cycleEnd]; omega, runs.acquiring,
      runs.locked,
    runs.doubtful, runs.goodRun, runs.badRun⟩

theorem started (f : Nat) (hf : within 48000 f 52000) : MeterOk c (m.started f) :=
  ⟨Nat.le_refl _, Nat.zero_le _, Nat.zero_le _, ⟨by have := hf.1; exact Nat.le_trans (by decide) this,
    Nat.le_trans hf.2 (by decide)⟩, Nat.zero_le _, nofun, nofun, nofun, Nat.zero_le _, Nat.zero_le _⟩

end MeterOk

theorem clampSample_natAbs_le (v : Int) : (clampSample v).natAbs ≤ 511 := by
  have := clampInt_within (lo := -511) (hi := 511) (by decide) v
  unfold clampSample
  omega

theorem addSample_meterOk {s : State} (h : MeterOk s.cfg s.meter) (v : Int) : MeterOk s.cfg (addSample v s).meter := by
  unfold addSample
  split
  · have square := Nat.mul_le_mul (clampSample_natAbs_le v) (clampSample_natAbs_le v)
    have sum := h.sumSq
    exact ⟨h.elapsed, h.silence, by simp only [State.setMeter_meter]; omega, h.filtered, h.cycleCount, h.acquiring,
        h.locked, h.doubtful, h.goodRun,
      h.badRun⟩
  · exact h

theorem opsKeep_meterOk : OpsKeep meterOk fun s => (s.cfg, s.meter) where
  same hv h := by
    simp only [Prod.mk.injEq] at hv
    rw [meterOk, hv.1, hv.2]
    exact h
  reset := ⟨defaultConfig_ok, by decide, by decide, by decide, ⟨by decide, by decide⟩, by decide, nofun, nofun, nofun,
    by decide, by decide⟩
  elapse dt s h := .inr ⟨by simpa using h.1, by simpa using h.2.elapse dt⟩
  sampleInstant s h := .inr ⟨by simpa using h.1, by simpa [toSampleInstant] using h.2.elapseTo _⟩
  beginTick s h := .inr (by
    unfold beginTick
    split
    · exact ⟨by simpa using h.1, by simpa using h.2.elapseTo _⟩
    · exact h)
  gapExpiry s h := .inr (by
    unfold gapExpiry
    split
    · exact ⟨by simpa using h.1, by simpa using h.2.elapse _⟩
    · exact h)
  transmissionComplete s h := .inr (by
    unfold transmissionComplete
    (repeat' split)
    · exact ⟨by simpa using h.1, by simpa using h.2.elapseTo _⟩
    · exact h
    · exact h)
  reportCrossing s h := .inr (by
    unfold reportCrossing
    (repeat' split)
    · have restarted : MeterOk s.cfg { s.meter with elapsed := 0, silence := 0 } :=
        h.2.of_eq (Nat.zero_le _) (Nat.zero_le _) rfl rfl rfl rfl rfl
      exact ⟨by simpa using h.1, by simpa [cycleEnd] using restarted.cycleEnd h.1 _⟩
    · exact ⟨by simpa using h.1, h.2.of_eq h.2.elapsed h.2.silence rfl rfl rfl rfl rfl⟩
    · exact h)
  addSample v s h := .inr ⟨by simpa using h.1, by simpa using addSample_meterOk h.2 v⟩
  missingCrossing s h := .inr (by
    unfold missingCrossing
    split
    · have elapsed := h.2.elapse (40000 - s.meter.silence)
      have restarted : MeterOk s.cfg { (elapse (40000 - s.meter.silence) s).meter with silence := 0 } :=
        elapsed.of_eq elapsed.elapsed (Nat.zero_le _) rfl rfl rfl rfl rfl
      exact ⟨by simpa using h.1, by simpa [cycleEnd] using restarted.cycleEnd h.1 _⟩
    · exact h)
  setLock good s h := .inr ⟨h.1, h.2.setLock
    (lockStep_ok h.2.runs ⟨by have := h.1.na.1; omega, h.1.na.2⟩ h.1.nl good)⟩
  startFails s _ h := .inr ⟨defaultConfig_ok, by
    simpa [startFails, startLine, setBaseFeed, startMeter] using MeterOk.started 50000 ⟨by decide, by decide⟩⟩
  startSucceeds d _ s _ h := .inr ⟨clampConfig_ok d, by
    simpa [startSucceeds, startLine, setBaseFeed, startMeter] using MeterOk.started _ (clampConfig_ok d).fcfg⟩
  clearAll s h := .inr (by
    have cleared : MeterOk s.cfg s.meter.clearCounters := h.2.of_eq h.2.elapsed h.2.silence rfl rfl rfl rfl rfl
    exact ⟨by simpa using h.1, by simpa using cleared⟩)
  restartHalted s _ h := .inl (by simp [restartHalted, restartBlocks_eq])
  restartRunning s _ _ h := .inr ⟨by simpa using h.1, by
    simpa [restartRunning, restartBlocks_eq, restartTelegrams, clearDuplicate, startMeter, restartGovernor] using
      MeterOk.started _ h.1.fcfg⟩

/-! ### The Ballast Governor -/

theorem chooseTarget_within {cfg : Config} (hc : ConfigOk cfg) (anchor : Option Nat) :
    within 48000 (chooseTarget cfg anchor) 52000 := by
  unfold chooseTarget
  (repeat' split)
  · exact clampNat_within (by decide) _
  · exact hc.fcfg
  · exact hc.fcfg

theorem slew_within {f target : Nat} (hf : within 48000 f 52000) (ht : within 48000 target 52000) :
    within 48000 (slew f target) 52000 := by
  obtain ⟨hf₁, hf₂⟩ := hf
  obtain ⟨ht₁, ht₂⟩ := ht
  unfold slew
  simp only [Bool.and_eq_true, decide_eq_true_eq]
  (repeat' split)
  · exact ⟨ht₁, ht₂⟩
  · constructor <;> omega
  · constructor <;> omega

theorem integrate_le (ki a : Nat) (e : Int) : integrate ki a e ≤ 256000 := by
  have := clampInt_within (lo := 0) (hi := 256000) (by decide) ((a : Int) + (ki : Int) * e)
  unfold integrate
  omega

theorem formDemand_le (pt : Int) (it : Nat) : formDemand pt it ≤ 1000 := by
  have := clampInt_within (lo := 0) (hi := 1000) (by decide) (pt + it)
  unfold formDemand
  omega

/-- A demand of at most 1000 per-mille absorbs at most the capacity (R33). -/
theorem absorbedWatts_le {cfg : Config} {d : Nat} (hd : d ≤ 1000) (ms : Nat) :
    absorbedWatts cfg d ms ≤ capacityWatts cfg ms := by
  have scaled : cfg.pb * d * ms ≤ 1000 * (cfg.pb * ms) :=
    calc
      cfg.pb * d * ms ≤ cfg.pb * 1000 * ms := Nat.mul_le_mul_right _ (Nat.mul_le_mul_left _ hd)
      _ = 1000 * (cfg.pb * ms) := by ring
  unfold absorbedWatts capacityWatts
  calc
    cfg.pb * d * ms / (1000 * (cfg.vn * cfg.vn)) ≤ 1000 * (cfg.pb * ms) / (1000 * (cfg.vn * cfg.vn)) :=
      Nat.div_le_div_right scaled
    _ = cfg.pb * ms / (cfg.vn * cfg.vn) := Nat.mul_div_mul_left _ _ (by decide)

namespace GovernorOk
variable {cfg : Config} {g : Governor}

theorem regulate (h : GovernorOk g) (hc : ConfigOk cfg) (anchor : Option Nat) (f : Nat) :
    GovernorOk (g.regulate cfg anchor f) := by
  have target := chooseTarget_within hc anchor
  have setPoint := slew_within h.setPoint target
  unfold Governor.regulate
  dsimp only
  split
  · exact ⟨target, setPoint, h.integral, Nat.le_refl _, h.burst, h.absorbed, h.sums⟩
  · exact ⟨target, setPoint, integrate_le _ _ _, formDemand_le _ _, h.burst, h.absorbed, h.sums⟩

theorem fire (h : GovernorOk g) : GovernorOk g.fire := by
  have demand := h.demand
  have burst := h.burst
  unfold Governor.fire
  split
  · exact ⟨h.target, h.setPoint, h.integral, demand, by dsimp only; omega, h.absorbed, h.sums⟩
  · exact ⟨h.target, h.setPoint, h.integral, demand, by dsimp only; omega, h.absorbed, h.sums⟩

theorem account (h : GovernorOk g) (ms : Nat) : GovernorOk (g.account cfg ms) := by
  have watts := absorbedWatts_le (cfg := cfg) h.demand ms
  exact ⟨h.target, h.setPoint, h.integral, h.demand, h.burst, watts, Nat.add_le_add h.sums watts⟩

theorem inactive (h : GovernorOk g) : GovernorOk g.inactive :=
  ⟨h.target, h.setPoint, Nat.zero_le _, Nat.zero_le _, Nat.zero_le _, Nat.le_refl _, Nat.le_refl _⟩

theorem emptied (h : GovernorOk g) : GovernorOk g.emptied :=
  ⟨h.target, h.setPoint, h.integral, h.demand, h.burst, h.absorbed, Nat.le_refl _⟩

theorem started (h : GovernorOk g) {f : Nat} (hf : within 48000 f 52000) : GovernorOk (g.started f) :=
  ⟨hf, hf, h.integral, h.demand, h.burst, h.absorbed, h.sums⟩

theorem clearCounters (h : GovernorOk g) : GovernorOk g.clearCounters :=
  ⟨h.target, h.setPoint, h.integral, h.demand, h.burst, h.absorbed, h.sums⟩

theorem take (h : GovernorOk g) (hc : ConfigOk cfg) (m : Mode) (anchor : Option Nat) (r : LineRecord) :
    GovernorOk (g.take cfg m anchor r) := by
  unfold Governor.take
  (repeat' split)
  · exact (h.regulate hc anchor _).fire.account _
  · exact ⟨h.target, h.setPoint, h.integral, h.demand, h.burst, Nat.le_refl _, h.sums⟩
  · exact h.fire.account _
  · exact h.inactive

end GovernorOk

/-- The Telegram Controller empties the governor's sums with a composition, and leaves the rest. -/
theorem countStatus_gov (s : State) : (countStatus s).gov = s.gov ∨ (countStatus s).gov = s.gov.emptied := by
  unfold countStatus
  split
  · exact .inr rfl
  · exact .inl rfl

theorem modeRecord_gov (r : LineRecord) (s : State) :
    (modeRecord r s).gov = s.gov ∨ (modeRecord r s).gov = s.gov.emptied := by
  unfold modeRecord enterRecover telegramRecoverEntry
  dsimp only
  split
  · by_cases hr : s.cfg.recallOrigin = true
    · exact .inr (by simp [hr, composeStatus])
    · exact .inl (by simp [hr])
  all_goals exact .inl rfl

theorem GovernorOk.of_composed {g g' : Governor} (h : GovernorOk g) (hg : g' = g ∨ g' = g.emptied) : GovernorOk g' := by
  rcases hg with hg | hg
  · exact hg ▸ h
  · exact hg ▸ h.emptied

theorem opsKeep_governorOk : OpsKeep governorOk fun s => (s.cfg, s.gov) where
  same hv h := by
    simp only [Prod.mk.injEq] at hv
    rw [governorOk, hv.1, hv.2]
    exact h
  reset := ⟨defaultConfig_ok, ⟨by decide, by decide⟩, ⟨by decide, by decide⟩, by decide, by decide, by decide,
      by decide,
    by decide⟩
  telegramTick s h := .inr ⟨by simpa using h.1, h.2.of_composed (telegramTick_gov s)⟩
  statusDue s _ h := .inr ⟨by simpa using h.1, by simpa using h.2.of_composed (countStatus_gov s)⟩
  modeRecord r s h := .inr ⟨by simpa using h.1, h.2.of_composed (modeRecord_gov r s)⟩
  governorRecord s h := .inr (by
    unfold takeGovernorRecord
    split
    · exact h
    · exact ⟨h.1, h.2.take h.1 _ _ _⟩)
  startFails s _ h := .inr ⟨defaultConfig_ok, by
    simpa [startFails, startLine, setBaseFeed] using h.2.started (f := 50000) ⟨by decide, by decide⟩⟩
  startSucceeds d _ s _ h := .inr ⟨clampConfig_ok d, by
    simpa [startSucceeds, startLine, setBaseFeed] using h.2.started (clampConfig_ok d).fcfg⟩
  clearAll s h := .inr ⟨by simpa using h.1, by simpa using h.2.clearCounters⟩
  restartRunning s _ _ h := .inr ⟨by simpa using h.1, by
    simpa [restartRunning, restartBlocks_eq, restartTelegrams, clearDuplicate, restartGovernor] using
      h.2.inactive.started h.1.fcfg⟩

/-- Settles O53: the meter with its lock, and the governor with its figures, each kept by every operation. -/
theorem everyStepKeepsTheMeterAndTheGovernor : Obligations.EveryStepKeepsTheMeterAndTheGovernor :=
  ⟨opsKeep_meterOk.everyStepKeeps, opsKeep_governorOk.everyStepKeeps⟩

end Sys2Proof.Machine

/-! # The queue, the supply, and the state right after power-on (O1 to O4) -/

namespace Sys2Proof.Machine

/-- Settles O1. -/
theorem stepTakesTheFrontCommand : Obligations.StepTakesTheFrontCommand := by
  refine ⟨fun c rest s h => ?_, fun s h => ?_⟩
  · simp only [step, h]
    rfl
  · simp only [step, h]

theorem foldl_takeTick_pending (p : Pins) (blocks : List TickBlock) :
    ∀ s, (blocks.foldl (takeTick p) s).pending = s.pending := by
  induction blocks with
  | nil => exact fun _ => rfl
  | cons b rest ih => exact fun s => (ih _).trans (by simp)

/-- A command other than the two of the supply answers with an effect that leaves the queue alone, but for an attempt
that does not bring 64 bytes. -/
theorem exec_answers (c : Instr) (s : State) (hon : c ≠ .powerOn) (hoff : c ≠ .powerLost) :
    (∃ t : State, t.pending = s.pending ∧ exec c s = answer s t) ∨
      ∃ dt bytes, c = .attemptComplete dt bytes ∧ bytes.length ≠ 64 ∧ exec c s = .fault .notSixtyFourBytes := by
  cases c
  case powerOn => exact absurd rfl hon
  case powerLost => exact absurd rfl hoff
  case attemptComplete dt bytes =>
    change (∃ t : State, _ ∧ execAttemptComplete dt bytes s = _) ∨
      ∃ d b, _ = _ ∧ _ ∧ execAttemptComplete dt bytes s = _
    unfold execAttemptComplete
    split
    · exact .inl ⟨_, by simp, rfl⟩
    · exact .inr ⟨dt, bytes, rfl, ‹_›, rfl⟩
  case stationTick blocks p => exact .inl ⟨_, (foldl_takeTick_pending p blocks _).trans (by simp), rfl⟩
  case circuitDarkEntry | sawDarkEntry | circuitRunEntry | gateRunEntry =>
    refine .inl ⟨_, ?_, rfl⟩
    split
    · dsimp only
      split <;> simp
    · rfl
  all_goals
    refine .inl ⟨_, ?_, rfl⟩
    (repeat' split) <;> simp

theorem answer_next (s t : State) : answer s t = .next (if s.powered = true then t else s) := by
  unfold answer
  split <;> rfl

/-- Settles O2: the queue is no block's. -/
theorem execKeepsTheQueue : Obligations.ExecKeepsTheQueue := by
  intro c s t h
  by_cases hon : c = .powerOn
  · subst hon
    cases h
    rfl
  by_cases hoff : c = .powerLost
  · subst hoff
    cases h
    rfl
  obtain ⟨u, hu, he⟩ | ⟨dt, bytes, -, -, he⟩ := exec_answers c s hon hoff
  · rw [he, answer_next] at h
    cases h
    split
    · exact hu
    · rfl
  · rw [he] at h
    cases h

/-- Settles O3. -/
theorem commandsCompleteAndNeedPower : Obligations.CommandsCompleteAndNeedPower := by
  refine ⟨fun c s => ?_, fun _ => rfl, fun _ => rfl, fun c s t hs hon hoff h => ?_⟩
  · by_cases hon : c = .powerOn
    · subst hon
      exact .inl ⟨_, rfl⟩
    by_cases hoff : c = .powerLost
    · subst hoff
      exact .inl ⟨_, rfl⟩
    obtain ⟨u, -, he⟩ | hf := exec_answers c s hon hoff
    · exact .inl ⟨_, he.trans (answer_next s u)⟩
    · exact .inr hf
  · obtain ⟨u, -, he⟩ | ⟨dt, bytes, -, -, he⟩ := exec_answers c s hon hoff
    · rw [he, answer_unpowered hs] at h
      cases h
      rfl
    · rw [he] at h
      cases h

/-- Settles O4: the values are read off, and every invariant that a step keeps begins at power-on. -/
theorem powerOnValuesAndInvariants : Obligations.PowerOnValuesAndInvariants := by
  have hline : ∀ k, State.reset.tele.claimSchedules.get k = none ∧ State.reset.tele.releaseSchedules.get k = none := by
    intro k
    cases k <;> exact ⟨rfl, rfl⟩
  have htable : ∀ k, State.reset.circ.table.get k = ⟨.off, false⟩ := by
    intro k
    cases k <;> rfl
  refine ⟨by decide, by decide, by decide, by decide, ⟨rfl, rfl, rfl, rfl, rfl, rfl, rfl, rfl, rfl, hline⟩, by decide,
    ⟨rfl, rfl, rfl, rfl, rfl, rfl, rfl, rfl, rfl, htable⟩, by decide, by decide, by decide, by decide, by decide, ?_⟩
  have hcounters : countersOk State.reset := by unfold countersOk; decide
  exact ⟨hcounters, opsKeep_configOk.reset, opsKeep_gridOk.reset, opsKeep_meterOk.reset, opsKeep_governorOk.reset,
    opsKeep_qualityOk.reset, opsKeep_modeOk.reset, opsKeep_tableOk.reset, opsKeep_claimsOk.reset,
    opsKeep_transmitterOk.reset, opsKeep_circuitsOk.reset, opsKeep_rotationOk.reset, opsKeep_sawOk.reset,
    opsKeep_gateOk.reset, opsKeep_heldQuiet.reset⟩

end Sys2Proof.Machine

/-! # The station tick (O5, O6) -/

namespace Sys2Proof.Machine

/-! ### A command that names blocks -/

section
variable {s : State} (b : TickBlock) (p : Pins)

theorem exec_stationTick (h : s.powered = true) (blocks : List TickBlock) :
    exec (.stationTick blocks p) s = .next (blocks.foldl (takeTick p) (beginTick s)) := by
  change answer s _ = _
  rw [answer_powered h]

theorem beginTick_of_waiting (h : s.time.tickWaiting ≠ []) : beginTick s = s := by
  unfold beginTick
  rw [if_neg (by simpa using h)]

theorem beginTick_waiting (h : s.time.tickWaiting = []) : (beginTick s).time.tickWaiting = TickBlock.all := by
  unfold beginTick
  rw [if_pos (by simp [h])]
  rfl

theorem beginTick_waiting_ne (s : State) : (beginTick s).time.tickWaiting ≠ [] := by
  by_cases h : s.time.tickWaiting = []
  · rw [beginTick_waiting h]
    nofun
  · rwa [beginTick_of_waiting h]

/-- A tick that is in time comes 20,000 µs after the one before (R1). -/
theorem beginTick_time (h : s.time.tickWaiting = []) (hg : gridOk s) (hn : s.time.now < s.time.lastTick + 20000) :
    (beginTick s).time =
      { s.time with
        now := s.time.lastTick + 20000, lastTick := s.time.lastTick + 20000, tickWaiting := TickBlock.all } := by
  have hi : nextInstant 20000 s.time.lastTick s.time.now = s.time.lastTick + 20000 := by
    have := hg.tick
    have := hg.tickPast
    unfold nextInstant ceilDiv
    split <;> omega
  unfold beginTick
  rw [if_pos (by simp [h]), hi]
  simp only [State.setTime_time]
  rw [elapseTo_now hn.le]

theorem takeTick_of_mem (h : b ∈ s.time.tickWaiting) :
    takeTick p s b =
      (blockTick p b s).setTime { s.time with tickWaiting := s.time.tickWaiting.filter fun c => !(c == b) } := by
  unfold takeTick
  rw [if_pos (by simpa using h), blockTick_setTime]

theorem takeTick_of_not_mem (h : b ∉ s.time.tickWaiting) : takeTick p s b = s := by
  unfold takeTick
  rw [if_neg (by simpa using h)]

theorem foldl_takeTick_of_none (h : s.time.tickWaiting = []) (blocks : List TickBlock) :
    blocks.foldl (takeTick p) s = s := by
  induction blocks with
  | nil => rfl
  | cons b rest ih => rw [List.foldl_cons, takeTick_of_not_mem b p (by simp [h]), ih]

/-- A block that waits takes the tick. -/
theorem exec_stationTick_of_mem (hp : s.powered = true) (h : b ∈ s.time.tickWaiting) :
    exec (.stationTick [b] p) s =
      .next ((blockTick p b s).setTime { s.time with tickWaiting := s.time.tickWaiting.filter fun c => !(c == b) })
          := by
  rw [exec_stationTick p hp, beginTick_of_waiting (List.ne_nil_of_mem h)]
  exact congrArg _ (takeTick_of_mem b p h)

/-- The one block that still waits takes the tick. -/
theorem exec_stationTick_of_last (hp : s.powered = true) (h : s.time.tickWaiting = [b]) :
    exec (.stationTick [b] p) s = .next ((blockTick p b s).setTime { s.time with tickWaiting := [] }) := by
  rw [exec_stationTick_of_mem b p hp (by simp [h]), h]
  simp

end

/-! ### What the circuits and the saw hand at a tick: requests -/

/-- All that is handed between the blocks, the requests to the Admission Controller aside. -/
def Handed.unasked (h : Handed) : Handed := { h with requests := [] }

theorem handed_of_unasked {s t : State} (h : t.handed.unasked = s.handed.unasked) :
    t.handed = { s.handed with requests := t.handed.requests } :=
  calc t.handed = { t.handed.unasked with requests := t.handed.requests } := rfl
    _ = { s.handed with requests := t.handed.requests } := by rw [h]; rfl

@[simp] theorem handRequest_unasked (r : Request) (s : State) : (handRequest r s).handed.unasked = s.handed.unasked
    := rfl

theorem foldl_unasked {α : Type} (f : α → State → State) (h : ∀ x s,
    (f x s).handed.unasked = s.handed.unasked) (l : List α) :
    ∀ s, (l.foldl (fun t x => f x t) s).handed.unasked = s.handed.unasked := by
  induction l with
  | nil => exact fun _ => rfl
  | cons x rest ih => exact fun s => (ih _).trans (h x s)

@[simp] theorem toWaiting_unasked (k : Circ) (r : Bool) (s : State) : (toWaiting k r s).handed.unasked =
    s.handed.unasked := by
  simp [toWaiting]

@[simp] theorem toOffWithdrawing_unasked (k : Circ) (s : State) : (toOffWithdrawing k s).handed.unasked =
    s.handed.unasked := by
  simp [toOffWithdrawing]

@[simp] theorem raiseCircuit4_unasked (s : State) : (raiseCircuit4 s).handed.unasked = s.handed.unasked := by
  unfold raiseCircuit4
  (repeat' split) <;> simp

@[simp] theorem withdrawCircuit4_unasked (s : State) : (withdrawCircuit4 s).handed.unasked = s.handed.unasked := by
  unfold withdrawCircuit4
  (repeat' split) <;> simp

@[simp] theorem enterStopping_unasked (s : State) : (enterStopping s).handed.unasked = s.handed.unasked := by
  simp only [enterStopping]
  (repeat' split) <;> simp

@[simp] theorem clutchAsserted_unasked (s : State) : (clutchAsserted s).handed.unasked = s.handed.unasked := by
  unfold clutchAsserted
  (repeat' split) <;> simp

@[simp] theorem clutchDropped_unasked (s : State) : (clutchDropped s).handed.unasked = s.handed.unasked := by
  unfold clutchDropped
  (repeat' split) <;> simp

@[simp] theorem stopPressed_unasked (s : State) : (stopPressed s).handed.unasked = s.handed.unasked := by
  unfold stopPressed
  (repeat' split) <;> simp

@[simp] theorem startPressed_unasked (s : State) : (startPressed s).handed.unasked = s.handed.unasked := by
  unfold startPressed
  (repeat' split) <;> simp

@[simp] theorem sawInputs_unasked (p : Pins) (s : State) : (sawInputs p s).handed.unasked = s.handed.unasked := by
  simp only [sawInputs, onEvent]
  (repeat' split) <;> simp

@[simp] theorem countEngage_unasked (r : Nat) (s : State) : (countEngage r s).handed.unasked = s.handed.unasked := by
  unfold countEngage
  (repeat' split) <;> simp

@[simp] theorem countSpinup_unasked (r : Nat) (s : State) : (countSpinup r s).handed.unasked = s.handed.unasked := by
  unfold countSpinup
  (repeat' split) <;> simp

@[simp] theorem countReady_unasked (r : Nat) (s : State) : (countReady r s).handed.unasked = s.handed.unasked := by
  unfold countReady
  (repeat' split) <;> simp

@[simp] theorem countSawTimer_unasked (s : State) : (countSawTimer s).handed.unasked = s.handed.unasked := by
  unfold countSawTimer
  (repeat' split) <;> simp

@[simp] theorem sawTick_unasked (p : Pins) (s : State) : (sawTick p s).handed.unasked = s.handed.unasked := by
  unfold sawTick
  (repeat' split) <;> simp

@[simp] theorem sawShed_unasked (s : State) : (sawShed s).handed.unasked = s.handed.unasked := by
  unfold sawShed
  (repeat' split) <;> simp

@[simp] theorem levelAsserted_unasked (k : Circ) (s : State) : (levelAsserted k s).handed.unasked = s.handed.unasked
    := by
  unfold levelAsserted
  (repeat' split) <;> simp

@[simp] theorem levelDropped_unasked (k : Circ) (s : State) : (levelDropped k s).handed.unasked = s.handed.unasked := by
  unfold levelDropped
  (repeat' split) <;> simp

@[simp] theorem edgePressed_unasked (k : Circ) (s : State) : (edgePressed k s).handed.unasked = s.handed.unasked := by
  unfold edgePressed
  (repeat' split) <;> simp

@[simp] theorem demandEvent_unasked (k : Circ) (b : Bool) (s : State) :
    (demandEvent k b s).handed.unasked = s.handed.unasked := by
  unfold demandEvent
  (repeat' split) <;> simp

@[simp] theorem takeDemand_unasked (k : Circ) (d : Debouncer) (v : Bool) (s : State) :
    (takeDemand k d v s).handed.unasked = s.handed.unasked := by
  unfold takeDemand
  (repeat' split) <;> simp

@[simp] theorem demandStep_unasked (p : Pins) (s : State) : (demandStep p s).handed.unasked = s.handed.unasked := by
  simp [demandStep]

@[simp] theorem pauseOut_unasked (k : Circ) (s : State) : (pauseOut k s).handed.unasked = s.handed.unasked := by
  unfold pauseOut
  (repeat' split) <;> simp

@[simp] theorem countPause_unasked (k : Circ) (s : State) : (countPause k s).handed.unasked = s.handed.unasked := by
  unfold countPause
  (repeat' split) <;> simp

@[simp] theorem pauseStep_unasked (s : State) : (pauseStep s).handed.unasked = s.handed.unasked := by
  unfold pauseStep
  split
  case isTrue => exact foldl_unasked _ countPause_unasked Circ.switched s
  case isFalse => rfl

@[simp] theorem shedState_unasked (k : Circ) (s : State) : (shedState k s).handed.unasked = s.handed.unasked := by
  unfold shedState
  (repeat' split) <;> simp

@[simp] theorem shedOne_unasked (st : Stage) (s : State) : (shedOne st s).handed.unasked = s.handed.unasked := by
  unfold shedOne
  (repeat' split) <;> simp

@[simp] theorem stageStep_unasked (st : Stage) (s : State) : (stageStep st s).handed.unasked = s.handed.unasked := by
  unfold stageStep
  (repeat' split) <;> simp

@[simp] theorem restoreCircuit_unasked (s : State) (k : Circ) : (restoreCircuit s k).handed.unasked =
    s.handed.unasked := by
  simp only [restoreCircuit]
  (repeat' split) <;> simp

@[simp] theorem restoreAll_unasked (s : State) : (restoreAll s).handed.unasked = s.handed.unasked := by
  exact foldl_unasked (fun k t => restoreCircuit t k) (fun k t => restoreCircuit_unasked t k) _ s

@[simp] theorem restoreStep_unasked (s : State) : (restoreStep s).handed.unasked = s.handed.unasked := by
  unfold restoreStep
  (repeat' split) <;> simp

@[simp] theorem circuitTick_unasked (p : Pins) (s : State) : (circuitTick p s).handed.unasked = s.handed.unasked := by
  simp [circuitTick]

end Sys2Proof.Machine

/-! # What the blocks leave alone at a tick, and the debouncing of their inputs (O5, O6) -/

namespace Sys2Proof.Machine

/-! ### The Admission Controller hands answers -/

/-- All that is handed between the blocks, the answers of the Admission Controller aside. -/
def Handed.unanswered (h : Handed) : Handed := { h with answers := [] }

theorem handed_of_unanswered {s t : State} (h : t.handed.unanswered = s.handed.unanswered) :
    t.handed = { s.handed with answers := t.handed.answers } :=
  calc t.handed = { t.handed.unanswered with answers := t.handed.answers } := rfl
    _ = { s.handed with answers := t.handed.answers } := by rw [h]; rfl

@[simp] theorem admitClaim_unanswered (c : OwnClaim) (s : State) :
    (admitClaim c s).handed.unanswered = s.handed.unanswered := rfl

@[simp] theorem deferClaim_unanswered (c : OwnClaim) (s : State) :
    (deferClaim c s).handed.unanswered = s.handed.unanswered := by
  rw [deferClaim_handed]
  rfl

@[simp] theorem applyVerdicts_unanswered (l : List (OwnClaim × Bool)) (s : State) :
    (applyVerdicts l s).handed.unanswered = s.handed.unanswered := by
  induction l generalizing s with
  | nil => rfl
  | cons x rest ih => obtain ⟨c, _ | _⟩ := x <;> simp [applyVerdicts, ih]

@[simp] theorem decideGroup_unanswered (s : State) : (decideGroup s).handed.unanswered = s.handed.unanswered := by
  unfold decideGroup
  split <;> simp

@[simp] theorem admissionTick_unanswered (s : State) :
    (admissionTick s).handed.unanswered = s.handed.unanswered := by
  simp [admissionTick, countHoldoffs]

/-! ### The Telegram Controller hands an evaluation -/

theorem telegramTick_handed (s : State) :
    (telegramTick s).handed = { s.handed with evaluations := (telegramTick s).handed.evaluations } := by
  have counted : (telegramTick s).handed =
      (if s.mc.mode.online then countStatus (countRecall (countDuplicate s)) else countDuplicate s).handed := by
    simp only [telegramTick, Circ.all, List.foldl]
    simp
  rw [counted]
  unfold countStatus
  split
  · split <;> simp [composeStatus, countRecall, countDuplicate]
  · simp [countDuplicate]

/-! ### The Mode Controller clears marks and hands the entries to RUN -/

/-- A tick of the dark duration clears the marks, or nothing of the circuits. -/
theorem countDark_cases (s : State) :
    (countDark s).handed = s.handed ∧ ((countDark s).circ = s.circ ∨ (countDark s).circ = s.circ.clearMarks) := by
  unfold countDark
  dsimp only
  split
  · exact ⟨rfl, .inr rfl⟩
  · exact ⟨rfl, .inl rfl⟩

theorem modeTick_circ (s : State) : (modeTick s).circ = { s.circ with table := (modeTick s).circ.table } := by
  unfold modeTick
  split
  case h_1 =>
    obtain ⟨-, h | h⟩ := countDark_cases s
    · rw [h]
    · rw [h]
      rfl
  case h_2 => unfold countRecallWait; (repeat' split) <;> rfl
  case h_3 => unfold countStagger; (repeat' split) <;> rfl
  case h_4 => rfl

theorem modeTick_handed (s : State) :
    (modeTick s).handed =
      { s.handed with
        circuitRun := (modeTick s).handed.circuitRun
        gateRun := (modeTick s).handed.gateRun
        evaluations := (modeTick s).handed.evaluations } := by
  unfold modeTick
  split
  case h_1 => rw [(countDark_cases s).1]
  case h_2 => unfold countRecallWait; (repeat' split) <;> rfl
  case h_3 => unfold countStagger; (repeat' split) <;> rfl
  case h_4 => rfl

/-! ### The tick -/

/-- The parts of the state that a block's tick works on; it leaves the others, and what it hands nothing of, alone. -/
theorem blockTick_leaves (b : TickBlock) (p : Pins) (s : State) :
    let t := blockTick p b s
    match b with
    | .telegram =>
      t = { s with
        tele := t.tele
        gov :=
          { s.gov with
            sumAbsorbed := t.gov.sumAbsorbed, sumCapacity := t.gov.sumCapacity, sumCount := t.gov.sumCount }
        handed := { s.handed with evaluations := t.handed.evaluations } }
    | .neighbour => t = { s with table := t.table, handed := { s.handed with removed := t.handed.removed } }
    | .admission =>
      t = { s with adm := t.adm, tele := t.tele, handed := { s.handed with answers := t.handed.answers } }
    | .circuit =>
      t = { s with circ := t.circ, saw := t.saw, handed := { s.handed with requests := t.handed.requests } }
    | .saw =>
      t = { s with saw := t.saw, circ := t.circ, handed := { s.handed with requests := t.handed.requests } }
    | .gate => t = { s with gate := t.gate }
    | .mode =>
      t = { s with
        mc := t.mc
        circ := { s.circ with table := t.circ.table }
        handed :=
          { s.handed with
            circuitRun := t.handed.circuitRun, gateRun := t.handed.gateRun,
                evaluations := t.handed.evaluations } } := by
  cases b with
  | telegram =>
    have hg : (telegramTick s).gov =
        { s.gov with
          sumAbsorbed := (telegramTick s).gov.sumAbsorbed
          sumCapacity := (telegramTick s).gov.sumCapacity
          sumCount := (telegramTick s).gov.sumCount } := by
      obtain h | h := telegramTick_gov s
      · rw [h]
      · rw [h]
        rfl
    apply State.ext_fields <;> simp [blockTick, ← hg, ← telegramTick_handed s]
  | neighbour => rfl
  | admission =>
    have hh := handed_of_unanswered (admissionTick_unanswered s)
    apply State.ext_fields <;> simp [blockTick, ← hh]
  | circuit =>
    have hh := handed_of_unasked (circuitTick_unasked p s)
    apply State.ext_fields <;> simp [blockTick, ← hh]
  | saw =>
    have hh := handed_of_unasked (sawTick_unasked p s)
    apply State.ext_fields <;> simp [blockTick, ← hh]
  | gate =>
    apply State.ext_fields
    all_goals simp [blockTick]
  | mode => apply State.ext_fields <;> simp [blockTick, ← modeTick_circ s, ← modeTick_handed s]

/-- Settles O5. -/
theorem tickFallsOnTheGrid : Obligations.TickFallsOnTheGrid := by
  refine ⟨fun b p s hp hg hw hn => ?_, fun b p s hp hw hb => ?_, fun b p s hp hb => ?_, fun b rest p s t hp he => ?_,
    fun p s hp => ?_, fun b p s hp hw => ?_⟩
  · have ht := beginTick_time hw hg hn
    have hb : b ∈ (beginTick s).time.tickWaiting := by
      rw [beginTick_waiting hw]
      cases b <;> decide
    refine ⟨_, exec_stationTick p hp [b], ?_⟩
    rw [List.foldl_cons, List.foldl_nil, takeTick_of_mem b p hb]
    simp [ht]
  · rw [exec_stationTick p hp, beginTick_of_waiting hw]
    exact congrArg _ (takeTick_of_not_mem b p hb)
  · exact ⟨_, exec_stationTick_of_last (s := s.setTime { s.time with tickWaiting := [b] }) b p hp rfl, by
      rw [exec_stationTick_of_mem b p hp hb, blockTick_setTime]
      rfl⟩
  · rw [exec_stationTick p hp] at he ⊢
    cases he
    rw [List.foldl_cons]
    split
    case isTrue h => exact congrArg _ (foldl_takeTick_of_none p h rest)
    case isFalse h =>
      rw [exec_stationTick p (by simpa using hp), beginTick_of_waiting h]
      rfl
  · refine ⟨_, exec_stationTick p hp [], fun hw => beginTick_of_waiting hw, fun hw => ⟨beginTick_waiting hw,
      fun b => ?_⟩⟩
    rw [List.foldl_nil, exec_stationTick p hp, exec_stationTick p (by simpa using hp),
      beginTick_of_waiting (beginTick_waiting_ne s)]
  · refine ⟨_, exec_stationTick_of_last b p hp hw, ?_⟩
    have h := blockTick_leaves b p s
    cases b <;> exact congrArg (fun t => t.setTime { s.time with tickWaiting := [] }) h

/-! ### The inputs -/

theorem Debouncer.sample_level (d : Debouncer) : d.sample d.level = ⟨d.level, 0⟩ := debouncer_sample_same d

/-- A change is believed at the third sample in a row (R116). -/
theorem Debouncer.sample_three {d : Debouncer} {v : Bool} (hv : d.level ≠ v) (hr : d.run = 0) :
    d.sample v = ⟨d.level, 1⟩ ∧ (d.sample v).sample v = ⟨d.level, 2⟩ ∧ ((d.sample v).sample v).sample v = ⟨v, 0⟩ := by
  have h₁ : d.sample v = ⟨d.level, 1⟩ := by rw [debouncer_sample_other hv.symm]; simp [hr]
  have h₂ : (⟨d.level, 1⟩ : Debouncer).sample v = ⟨d.level, 2⟩ := debouncer_sample_other hv.symm
  have h₃ : (⟨d.level, 2⟩ : Debouncer).sample v = ⟨v, 0⟩ := debouncer_sample_other hv.symm
  rw [h₁, h₂, h₃]
  exact ⟨rfl, rfl, rfl⟩

/-! #### The demand inputs: after the sampling the tick leaves their debouncers alone -/

@[simp] theorem setCircuitState_demand (k : Circ) (st : CircuitState) (s : State) :
    (setCircuitState k st s).circ.demand = s.circ.demand := rfl

@[simp] theorem toWaiting_demand (k : Circ) (r : Bool) (s : State) :
    (toWaiting k r s).circ.demand = s.circ.demand := rfl

@[simp] theorem toOffWithdrawing_demand (k : Circ) (s : State) :
    (toOffWithdrawing k s).circ.demand = s.circ.demand := rfl

@[simp] theorem setTimer_demand (st : Stage) (n : Nat) (s : State) :
    (setTimer st n s).circ.demand = s.circ.demand := by
  cases st <;> rfl

theorem foldl_demand {f : Circ → State → State} (hf : ∀ k s, (f k s).circ.demand = s.circ.demand) (l : List Circ) :
    ∀ s, (l.foldl (fun t k => f k t) s).circ.demand = s.circ.demand := by
  induction l with
  | nil => exact fun _ => rfl
  | cons k rest ih => exact fun s => (ih _).trans (hf k s)

@[simp] theorem pauseStep_demand (s : State) : (pauseStep s).circ.demand = s.circ.demand := by
  unfold pauseStep
  split
  · refine foldl_demand (fun k t => ?_) _ s
    unfold countPause pauseOut
    (repeat' split) <;> simp
  · rfl

@[simp] theorem withdrawCircuit4_demand (s : State) : (withdrawCircuit4 s).circ.demand = s.circ.demand := by
  unfold withdrawCircuit4
  (repeat' split) <;> simp

@[simp] theorem shedState_demand (k : Circ) (s : State) : (shedState k s).circ.demand = s.circ.demand := by
  unfold shedState sawShed
  (repeat' split) <;> simp [enterStopping_circ]

@[simp] theorem Circuits.countShed_demand (st : Stage) (c : Circuits) : (c.countShed st).demand = c.demand := by
  cases st <;> rfl

@[simp] theorem shedOne_demand (st : Stage) (s : State) : (shedOne st s).circ.demand = s.circ.demand := by
  unfold shedOne
  split <;> simp

@[simp] theorem stageStep_demand (st : Stage) (s : State) : (stageStep st s).circ.demand = s.circ.demand := by
  unfold stageStep
  (repeat' split) <;> simp

@[simp] theorem restoreStep_demand (s : State) : (restoreStep s).circ.demand = s.circ.demand := by
  unfold restoreStep
  split
  · split
    · refine foldl_demand (f := fun k t => restoreCircuit t k) (fun k t => ?_) _ s
      dsimp only [restoreCircuit]
      split <;> simp
    · rfl
  · rfl

@[simp] theorem circuitTick_demand (p : Pins) (s : State) :
    (circuitTick p s).circ.demand = (sampleDemand p s).circ.demand := by
  simp [circuitTick, demandStep, takeDemand_demand]

/-! #### The inputs of the saw -/

/-- The debouncers of the drive's five inputs. -/
def Saw.inputs (w : Saw) : Debouncer × Debouncer × Debouncer × Debouncer × Debouncer :=
  (w.start, w.stop, w.clutchClosed, w.forwardLimit, w.returnLimit)

@[simp] theorem Saw.cleared_inputs (w : Saw) : w.cleared.inputs = w.inputs := rfl

@[simp] theorem enterIdle_inputs (s : State) : (enterIdle s).saw.inputs = s.saw.inputs := rfl

@[simp] theorem enterFault_inputs (c : FaultCode) (s : State) : (enterFault c s).saw.inputs = s.saw.inputs := rfl

@[simp] theorem enterSpinup_inputs (n : Bool) (s : State) : (enterSpinup n s).saw.inputs = s.saw.inputs := rfl

@[simp] theorem enterReady_inputs (s : State) : (enterReady s).saw.inputs = s.saw.inputs := rfl

@[simp] theorem stopping_inputs (s : State) : (enterStopping s).saw.inputs = s.saw.inputs := by
  obtain ⟨hc, hr, hf, hp, ht⟩ := enterStopping_inputs s
  simp [Saw.inputs, *]

@[simp] theorem enterReturning_inputs (s : State) : (enterReturning s).saw.inputs = s.saw.inputs := by
  simp only [enterReturning]
  split <;> rfl

@[simp] theorem endBackoff_inputs (s : State) : (endBackoff s).saw.inputs = s.saw.inputs := by
  unfold endBackoff
  split <;> simp

@[simp] theorem clutchAsserted_inputs (s : State) : (clutchAsserted s).saw.inputs = s.saw.inputs := by
  unfold clutchAsserted
  split <;> simp

@[simp] theorem clutchDropped_inputs (s : State) : (clutchDropped s).saw.inputs = s.saw.inputs := by
  unfold clutchDropped
  split <;> simp

@[simp] theorem returnAsserted_inputs (s : State) : (returnAsserted s).saw.inputs = s.saw.inputs := by
  unfold returnAsserted
  split <;> simp

@[simp] theorem forwardAsserted_inputs (s : State) : (forwardAsserted s).saw.inputs = s.saw.inputs := by
  unfold forwardAsserted
  split <;> simp

@[simp] theorem stopPressed_inputs (s : State) : (stopPressed s).saw.inputs = s.saw.inputs := by
  unfold stopPressed
  (repeat' split) <;> simp

@[simp] theorem startPressed_inputs (s : State) : (startPressed s).saw.inputs = s.saw.inputs := by
  unfold startPressed
  split
  case h_1 => split <;> simp [Saw.inputs]
  case h_2 => simp
  case h_3 => rfl

theorem onEvent_inputs {f : State → State} (hf : ∀ s, (f s).saw.inputs = s.saw.inputs) (b : Bool) (s : State) :
    (onEvent b f s).saw.inputs = s.saw.inputs := by
  cases b
  · rfl
  · exact hf s

@[simp] theorem sawInputs_inputs (p : Pins) (s : State) :
    (sawInputs p s).saw.inputs = (sampleSaw p s).saw.inputs := by
  simp [sawInputs, onEvent_inputs]

@[simp] theorem testIdleClutch_inputs (s : State) : (testIdleClutch s).saw.inputs = s.saw.inputs := by
  unfold testIdleClutch
  split <;> simp

@[simp] theorem countSawTimer_inputs (s : State) : (countSawTimer s).saw.inputs = s.saw.inputs := by
  unfold countSawTimer countEngage countSpinup countReady countRelease
  (repeat' split) <;> first | rfl | simp

@[simp] theorem sawTick_inputs (p : Pins) (s : State) : (sawTick p s).saw.inputs = (sampleSaw p s).saw.inputs := by
  unfold sawTick
  split <;> simp

/-! #### The limits of the gate -/

/-- The debouncers of the gate's two limits. -/
def Gate.limits (g : Gate) : Debouncer × Debouncer := (g.openLimit, g.closedLimit)

theorem Gate.takeLimits_limits (p : Pins) (g : Gate) :
    (g.takeLimits p).limits = (g.openLimit.sample p.openLimit, g.closedLimit.sample p.closedLimit) := by
  unfold takeLimits
  (repeat' split) <;> rfl

theorem Gate.countPulse_limits (g : Gate) : g.countPulse.limits = g.limits := by
  unfold countPulse
  (repeat' split) <;> rfl

theorem gateTick_limits (p : Pins) (s : State) :
    (gateTick p s).gate.limits = (s.gate.openLimit.sample p.openLimit, s.gate.closedLimit.sample p.closedLimit) := by
  have raised : ∀ t : State, (sheddingRaise t).gate.limits = t.gate.limits := fun t => by
    unfold sheddingRaise
    split <;> rfl
  rw [gateTick, raised, State.setGate_gate, Gate.countPulse_limits, ← Gate.takeLimits_limits]
  rfl

/-- Settles O6. -/
theorem inputsAreDebounced : Obligations.InputsAreDebounced := by
  refine ⟨fun d v hv hr => ?_, fun d v hv => ?_, fun p s hp hw => ?_, fun p s hp hw => ?_, fun p s hp hw => ?_⟩
  · obtain ⟨h₁, h₂, h₃⟩ := Debouncer.sample_three hv hr
    rw [h₃, h₂, h₁]
    exact ⟨rfl, rfl, rfl⟩
  · rw [← hv, Debouncer.sample_level]
  · exact ⟨_, exec_stationTick_of_last .circuit p hp hw, circuitTick_demand p s⟩
  · refine ⟨_, exec_stationTick_of_last .saw p hp hw, ?_⟩
    have h := sawTick_inputs p s
    simp only [Saw.inputs, Prod.mk.injEq] at h
    exact h
  · refine ⟨_, exec_stationTick_of_last .gate p hp hw, ?_⟩
    have h := gateTick_limits p s
    simp only [Gate.limits, Prod.mk.injEq] at h
    exact h

end Sys2Proof.Machine

/-! # The Ballast Governor's cycle ends, and the meter's small events (O9, O12, O13, O14) -/

namespace Sys2Proof.Machine

/-! ### The Line Record taken by the governor -/

section Governor
variable {cfg : Config} {m : Mode} {anchor : Option Nat} {r : LineRecord} {g : Governor} {ms : Nat}

theorem Governor.take_good (h : governs m r.lock = true) (hc : r.cls = .good) (hms : r.ms = some ms) :
    g.take cfg m anchor r = ((g.regulate cfg anchor r.filtered).fire).account cfg ms := by
  simp [Governor.take, h, hc, hms]

theorem Governor.take_missing (h : governs m r.lock = true) (hc : r.cls = .missing) :
    g.take cfg m anchor r = g.silent := by
  simp [Governor.take, h, hc]

theorem Governor.take_bad (h : governs m r.lock = true) (hc : r.cls = .badRange ∨ r.cls = .badVoltage)
    (hms : r.ms = some ms) : g.take cfg m anchor r = g.fire.account cfg ms := by
  obtain hc | hc := hc <;> simp [Governor.take, h, hc, hms]

theorem Governor.take_inactive (h : governs m r.lock = false) : g.take cfg m anchor r = g.inactive := by
  simp [Governor.take, h]

theorem Governor.fire_eq (g : Governor) :
    g.fire =
      { g with
        burst := if 1000 ≤ g.burst + g.demand then g.burst + g.demand - 1000 else g.burst + g.demand
        switch := 1000 ≤ g.burst + g.demand } := by
  unfold fire
  split <;> simp [*]

/-- The set-point moves to the target, or toward it by 10 mHz (R23). -/
theorem slew_eq (fs target : Nat) :
    slew fs target =
      if fs ≤ target + 10 ∧ target ≤ fs + 10 then target else if fs < target then fs + 10 else fs - 10 := by
  simp only [slew, Bool.and_eq_true, decide_eq_true_eq, and_comm]

/-- The target is the anchor's set-point within its limits, or the own one (R22). -/
theorem chooseTarget_eq (cfg : Config) (anchor : Option Nat) :
    chooseTarget cfg anchor =
      if cfg.adopt = true ∧ cfg.anchor = false then
        match anchor with
        | some sp => if sp < 48000 then 48000 else if 52000 < sp then 52000 else sp
        | none => cfg.fcfg
      else cfg.fcfg :=
  if_congr (by simp) rfl rfl

end Governor

/-- The governor takes the record handed to it first. -/
theorem exec_governorCycleEnd {s : State} {r : LineRecord} {rest : List LineRecord} (hp : s.powered = true)
    (h : s.handed.governorRecords = r :: rest) :
    exec .governorCycleEnd s =
      .next
        ((s.setGov (s.gov.take s.cfg s.mc.mode s.table.anchorSetPoint r)).setHanded
          { s.handed with governorRecords := rest }) := by
  change answer s (takeGovernorRecord s) = _
  rw [answer_powered hp, takeGovernorRecord, h]

theorem governs_iff {m : Mode} {l : Lock} : governs m l = true ↔ m.online = true ∧ l.trusted = true := by
  simp [governs]

/-- Settles O12. -/
theorem governingAtAGoodCycleEnd : Obligations.GoverningAtAGoodCycleEnd := by
  intro r rest ms s hp hr hm hl hc hms anchorSetPoint target fs e hover a d w c
  have htarget : chooseTarget s.cfg s.table.anchorSetPoint = target := chooseTarget_eq _ _
  have hfs : slew s.gov.setPoint target = fs := slew_eq _ _
  rw [exec_governorCycleEnd hp hr, Governor.take_good (governs_iff.2 ⟨hm, hl⟩) hc hms, Governor.fire_eq]
  simp only [Governor.regulate, htarget, hfs, if_neg (Nat.not_le.2 hover)]
  rfl

/-- Settles O13. -/
theorem governingAtOtherCycleEnds : Obligations.GoverningAtOtherCycleEnds := by
  intro r rest ms s hp hr governs' answered w c
  refine ⟨fun h => ?_, fun h hc => ?_, fun h hc hms => ?_, ?_⟩
  · have hg : governs s.mc.mode r.lock = false := Bool.eq_false_iff.2 (mt governs_iff.1 h)
    exact (exec_governorCycleEnd hp hr).trans (by rw [Governor.take_inactive hg]; rfl)
  · exact (exec_governorCycleEnd hp hr).trans (by rw [Governor.take_missing (governs_iff.2 h) hc]; rfl)
  · exact (exec_governorCycleEnd hp hr).trans
      (by rw [Governor.take_bad (governs_iff.2 h) hc hms, Governor.fire_eq]; rfl)
  · intro h hc hms anchorSetPoint target fs hover
    refine (exec_governorCycleEnd hp hr).trans ?_
    have htarget : chooseTarget s.cfg s.table.anchorSetPoint = target := chooseTarget_eq _ _
    have hfs : slew s.gov.setPoint target = fs := slew_eq _ _
    rw [Governor.take_good (governs_iff.2 h) hc hms, Governor.fire_eq]
    have hfull : 1000 ≤ s.gov.burst + 1000 := Nat.le_add_left _ _
    simp only [Governor.regulate, htarget, hfs, if_pos hover, if_pos hfull, decide_eq_true hfull, Nat.add_sub_cancel]
    rfl

/-! ### Burst firing (R31) -/

/-- One decision keeps B below 1000 and fires one cycle for each 1000 per-mille. -/
theorem Governor.fire_spec {g : Governor} (hb : g.burst ≤ 999) (hd : g.demand ≤ 1000) :
    g.fire.burst = (g.burst + g.demand) % 1000 ∧ bit g.fire.switch = (g.burst + g.demand) / 1000 := by
  unfold fire
  split
  · exact ⟨show g.burst + g.demand - 1000 = _ by omega, show 1 = _ by omega⟩
  · exact ⟨show g.burst + g.demand = _ by omega, show 0 = _ by omega⟩

/-- A decision on a demand, with the cycles fired so far. -/
def fireAt (p : Governor × Nat) (d : Nat) : Governor × Nat :=
  (({ p.1 with demand := d } : Governor).fire, p.2 + bit ({ p.1 with demand := d } : Governor).fire.switch)

theorem foldl_fireAt (ds : List Nat) :
    ∀ (g : Governor) (n : Nat), g.burst ≤ 999 → (∀ d ∈ ds, d ≤ 1000) →
      (ds.foldl fireAt (g, n)).1.burst = (g.burst + ds.sum) % 1000 ∧
        (ds.foldl fireAt (g, n)).2 = n + (g.burst + ds.sum) / 1000 := by
  induction ds with
  | nil =>
    intro g n hb _
    simp only [List.foldl_nil, List.sum_nil]
    omega
  | cons d rest ih =>
    intro g n hb hd
    obtain ⟨hd, hrest⟩ := List.forall_mem_cons.1 hd
    obtain ⟨hburst, hswitch⟩ := Governor.fire_spec (g := { g with demand := d }) hb hd
    dsimp only at hburst hswitch
    obtain ⟨h₁, h₂⟩ := ih (fireAt (g, n) d).1 (fireAt (g, n) d).2 (by simp only [fireAt]; omega) hrest
    rw [List.foldl_cons, List.sum_cons]
    refine ⟨h₁.trans ?_, h₂.trans ?_⟩ <;> simp only [fireAt, hburst, hswitch] <;> omega

/-- Settles O14, by induction on the cycle ends. -/
theorem burstFiringConservesDemand : Obligations.BurstFiringConservesDemand := by
  intro g ds hb hd fired
  obtain ⟨hburst, hfired⟩ : fired.1.burst = _ ∧ fired.2 = _ := foldl_fireAt ds g 0 hb hd
  refine ⟨?_, hfired.trans (Nat.zero_add _), hburst⟩
  rw [hburst]
  omega

/-! ### Chatter, samples and the lock events -/

theorem meterRuns_of_start {s : State} (h : s.mc.mode = .start) : s.meterRuns = false := by
  simp [State.meterRuns, h]

theorem clampSample_eq (v : Int) : clampSample v = if v < -511 then -511 else if 511 < v then 511 else v := rfl

/-- Settles O9. -/
theorem chatterSamplesAndLock : Obligations.ChatterSamplesAndLock := by
  refine ⟨fun dt s hp hm he => ?_, fun v s hp hm => ?_, fun s hp hm hl hg => ?_, fun s hp hm hl hb => ?_,
    fun s hp hm => ⟨fun dt => ⟨?_, ?_⟩, fun v => ?_, ?_, ?_, ?_⟩⟩
  · change answer s (reportCrossing (elapse dt s)) = _
    have hrun : (elapse dt s).meterRuns = true := (elapse_meterRuns dt s).trans (meterRuns_of_ne_start hm)
    have hearly : ¬8000 ≤ (elapse dt s).meter.elapsed := by
      rw [elapse_meter_running hm]
      dsimp only
      omega
    rw [answer_powered hp, reportCrossing, if_pos hrun, if_neg hearly]
    rw [elapse_meter_running hm]
    rfl
  · intro t sample
    change answer s (addSample v (toSampleInstant s)) = _
    have hrun : (toSampleInstant s).meterRuns = true := by
      simpa [State.meterRuns] using hm
    have hmeter : (toSampleInstant s).meter = _ := elapse_meter_running hm _
    have hsum : (toSampleInstant s).meter.sumSq = s.meter.sumSq := by rw [hmeter]
    have hcount : (toSampleInstant s).meter.samples = s.meter.samples := by rw [hmeter]
    rw [answer_powered hp, addSample, if_pos hrun, hsum, hcount]
    rfl
  · change answer s (if lockAcquiredDue s then _ else s) = _
    have hdue : lockAcquiredDue s = true := by simp [lockAcquiredDue, meterRuns_of_ne_start hm, hl, hg]
    rw [answer_powered hp, if_pos hdue]
    simp [setLock, lockStep, acquireStep, Meter.lockRuns, hl, hg, countLockLoss, Lock.trusted]
    rfl
  · change answer s (if lockLostDue s then _ else s) = _
    have hdue : lockLostDue s = true := by
      simp [lockLostDue, meterRuns_of_ne_start hm, hl, hb, lockStep, loseStep, Meter.lockRuns, Lock.trusted]
    rw [answer_powered hp, if_pos hdue]
    simp [setLock, lockStep, loseStep, Meter.lockRuns, hl, hb, countLockLoss, Lock.trusted]
    rfl
  · change answer s (reportCrossing (elapse dt s)) = _
    rw [answer_powered hp, reportCrossing, elapse_meterRuns, meterRuns_of_start hm]
    rfl
  · rw [elapse_meter, meterRuns_of_start hm]
    rfl
  · have hidle : (toSampleInstant s).meterRuns = false := by simp [State.meterRuns, hm]
    have hmeter : (toSampleInstant s).meter = s.meter := by
      rw [toSampleInstant, State.setTime_meter, elapseTo, elapse_meter, meterRuns_of_start hm]
      rfl
    have htele : (toSampleInstant s).tele = { s.tele with gapTimer := (toSampleInstant s).tele.gapTimer } := by
      rw [toSampleInstant, State.setTime_tele, elapseTo, elapse_tele]
      split <;> rfl
    refine ⟨toSampleInstant s, ?_, hmeter, ?_⟩
    · change answer s (addSample v (toSampleInstant s)) = _
      rw [answer_powered hp, addSample, hidle]
      rfl
    · apply State.ext_fields
      all_goals simp [hmeter, ← htele]
  · change answer s (missingCrossing s) = _
    rw [answer_powered hp, missingCrossing, meterRuns_of_start hm]
    rfl
  · change answer s (if lockAcquiredDue s then _ else s) = _
    rw [answer_powered hp, lockAcquiredDue, meterRuns_of_start hm]
    rfl
  · change answer s (if lockLostDue s then _ else s) = _
    rw [answer_powered hp, lockLostDue, meterRuns_of_start hm]
    rfl

end Sys2Proof.Machine

/-! # The cycle ends of the Line Meter (O8) -/

namespace Sys2Proof.Machine

theorem Lock.trusted_iff (l : Lock) : l.trusted = true ↔ l = .locked ∨ l = .doubtful := by
  cases l <;> simp [trusted]

/-- A cycle end publishes the meter's new record to the four readers (R16). -/
theorem cycleEnd_eq (p : Option Nat) (s : State) :
    cycleEnd p s =
      { s with
        meter := s.meter.cycleEnd s.cfg p
        handed :=
          { s.handed with
            governorRecords := s.handed.governorRecords ++ [(s.meter.cycleEnd s.cfg p).record]
            circuitRecords := s.handed.circuitRecords ++ [(s.meter.cycleEnd s.cfg p).record]
            sawRecords := s.handed.sawRecords ++ [(s.meter.cycleEnd s.cfg p).record]
            modeRecords := s.handed.modeRecords ++ [(s.meter.cycleEnd s.cfg p).record] } } := rfl

/-- What stands after `dt` µs and a cycle end that leaves the meter as `m`. -/
def published (dt : Nat) (m : Meter) (s : State) : State :=
  { s with
    time := { s.time with now := s.time.now + dt }
    tele := (elapse dt s).tele
    meter := m
    handed :=
      { s.handed with
        governorRecords := s.handed.governorRecords ++ [m.record]
        circuitRecords := s.handed.circuitRecords ++ [m.record]
        sawRecords := s.handed.sawRecords ++ [m.record]
        modeRecords := s.handed.modeRecords ++ [m.record] } }

theorem cycleEnd_elapse (p : Option Nat) (dt : Nat) (x : Meter) (s : State) :
    cycleEnd p ((elapse dt s).setMeter x) = published dt (x.cycleEnd s.cfg p) s := by
  rw [cycleEnd_eq]
  apply State.ext_fields
  all_goals simp [published, elapse_time]

theorem exec_zeroCrossing_accepted {s : State} {dt : Nat} (hp : s.powered = true) (hm : s.mc.mode ≠ .start)
    (h : 8000 ≤ min 65535 (s.meter.elapsed + dt)) :
    exec (.zeroCrossing dt) s =
      .next
        (published dt
          (Meter.cycleEnd s.cfg (some (min 65535 (s.meter.elapsed + dt))) { s.meter with elapsed := 0, silence := 0 })
          s) := by
  change answer s (reportCrossing (elapse dt s)) = _
  have helapsed : (elapse dt s).meter.elapsed = min 65535 (s.meter.elapsed + dt) := by rw [elapse_meter_running hm]
  rw [answer_powered hp, reportCrossing, elapse_meterRuns, if_pos (meterRuns_of_ne_start hm), helapsed, if_pos h,
    cycleEnd_elapse, elapse_meter_running hm]

theorem exec_missingCrossingEvent {s : State} (hp : s.powered = true) (hm : s.mc.mode ≠ .start) :
    exec .missingCrossingEvent s =
      .next
        (published (40000 - s.meter.silence)
          (Meter.cycleEnd s.cfg none
            { s.meter with
              elapsed := min 65535 (s.meter.elapsed + (40000 - s.meter.silence)), silence := 0 }) s) := by
  change answer s (missingCrossing s) = _
  rw [answer_powered hp, missingCrossing, if_pos (meterRuns_of_ne_start hm)]
  dsimp only
  rw [cycleEnd_elapse, elapse_meter_running hm]

theorem countLockLoss_eq (found after : Lock) (n : Nat) :
    countLockLoss found after n =
      if (found = .locked ∨ found = .doubtful) ∧ after = .lost then min 65535 (n + 1) else n := by
  simp only [countLockLoss, Bool.and_eq_true, Lock.trusted_iff, beq_iff_eq]
  rfl

/-- The class of an accepted crossing (R9). -/
theorem classify_some (vmin period vrms : Nat) :
    classify vmin (some period) vrms =
      if period < 16000 ∨ 25000 < period then .badRange else if vrms < vmin then .badVoltage else .good := by
  simp only [classify, Bool.or_eq_true, decide_eq_true_eq]

theorem filterFrequency_eq (k : Nat) (found : Lock) (filtered freq : Nat) :
    filterFrequency k found filtered freq =
      if found = .locked ∨ found = .doubtful then
        ((filtered : Int) + Int.tdiv ((freq : Int) - filtered) (2 ^ k)).toNat
      else freq := by
  simp only [filterFrequency, Lock.trusted_iff]

/-- Settles O8: the lock tables are read off row by row. -/
theorem cycleEndsOfTheMeter : Obligations.CycleEndsOfTheMeter := by
  intro s hp hm g b lockAfter losses count published'
  have hlock : ∀ good, lockAfter good =
      ((lockStep s.cfg.na s.cfg.nl good s.meter.lockRuns).lock,
        (lockStep s.cfg.na s.cfg.nl good s.meter.lockRuns).goodRun,
        (lockStep s.cfg.na s.cfg.nl good s.meter.lockRuns).badRun) := by
    intro good
    unfold lockStep acquireStep loseStep
    cases hl : s.meter.lock <;> cases good <;> simp [lockAfter, hl, Meter.lockRuns, g, b] <;> split <;> rfl
  have hlosses : ∀ good, losses good =
      countLockLoss s.meter.lock (lockStep s.cfg.na s.cfg.nl good s.meter.lockRuns).lock s.meter.lockLosses := by
    intro good
    rw [countLockLoss_eq]
    simp only [losses, hlock]
  refine ⟨?_, ?_⟩
  · intro dt h period ms cls good f filtered
    rw [exec_zeroCrossing_accepted hp hm h]
    have hcls : classify s.cfg.vmin (some period) (isqrt ms) = cls := classify_some ..
    refine congrArg (fun m => Host.Outcome.next (published dt m s)) ?_
    simp only [hlock, hlosses]
    have hms : meanSquare s.meter.sumSq s.meter.samples = ms := rfl
    have hgood : (cls == .good) = good := rfl
    simp only [Meter.cycleEnd, hms]
    rw [hcls, hgood]
    clear_value good
    cases good with
    | false => rfl
    | true =>
      have hf : filterFrequency s.cfg.k s.meter.lock s.meter.filtered f = filtered := filterFrequency_eq ..
      rw [← hf]
      rfl
  · intro h dt
    rw [exec_missingCrossingEvent hp hm]
    refine congrArg (fun m => Host.Outcome.next (published dt m s)) ?_
    simp only [hlock, hlosses]
    rfl

end Sys2Proof.Machine

/-! # The receiver: framed telegrams arrive (O15, O16, O17) -/

namespace Sys2Proof.Machine

/-! ### Bytes and words -/

theorem byteOf_toNat {n : Nat} (h : n < 256) : (byteOf n).toNat = n := by
  simp only [byteOf, BitVec.toNat_ofNat]
  omega

theorem wordAt_be16 {n : Nat} (h : n < 65536) (front back : List Byte) :
    wordAt (front ++ be16 n ++ back) front.length = n := by
  have hlow : (byteOf n).toNat = n % 256 := by simp [byteOf]
  have hhigh : (byteOf (n / 256)).toNat = n / 256 := byteOf_toNat (by omega)
  simp only [wordAt, byteAt, be16, List.append_assoc, List.getD_eq_getElem?_getD]
  rw [List.getElem?_append_right (Nat.le_refl _), List.getElem?_append_right (Nat.le_succ _)]
  simp [hlow, hhigh]
  omega

theorem wordAt_be16_self {n : Nat} (h : n < 65536) : wordAt (be16 n) 0 = n := by
  simpa using wordAt_be16 h [] []

theorem crc16_toNat_lt (bytes : List Byte) : (crc16 bytes).toNat < 65536 := (crc16 bytes).isLt

theorem flagsOf_flagsByte (f : StatusFlags) : flagsOf (flagsByte f) = f := by
  obtain ⟨a, b, c, d, e, g, h⟩ := f
  revert a b c d e g h
  decide

/-! ### The recall sequence stands in a body (R65) -/

theorem standsIn_iff (part : List Byte) : ∀ l, standsIn part l = true ↔ part <:+: l
  | [] => by simp [standsIn]
  | b :: bs => by
    rw [standsIn, Bool.or_eq_true, standsIn_iff part bs, List.infix_cons_iff, List.isPrefixOf_iff_prefix]

theorem standsIn_of_short {part l : List Byte} (h : l.length < part.length) : standsIn part l = false := by
  rw [← Bool.not_eq_true, standsIn_iff]
  exact fun hi => absurd hi.length_le (Nat.not_le.2 h)

theorem recallSequence_length (hamlet : Nat) : (recallSequence hamlet).length = 11 := rfl

/-- The recall sequence stands in a STATUS body exactly where the STATUS carries it. -/
theorem standsIn_statusBytes (hamlet : Nat) (b : StatusBody) :
    standsIn (recallSequence hamlet) (statusBytes hamlet b) = b.carriesRecall := by
  cases h : b.carriesRecall with
  | true =>
    rw [standsIn_iff]
    simp only [statusBytes, h, if_pos]
    exact (List.suffix_append _ _).isInfix
  | false =>
    apply standsIn_of_short
    rw [recallSequence_length]
    simp only [statusBytes, h]
    split <;> simp [be16]

/-! ### The receiver collects a telegram (R60) -/

@[simp] theorem setRx_setRx (x y : RxState) (s : State) : setRx x (setRx y s) = setRx x s := rfl

theorem setRx_self {x : RxState} {s : State} (h : s.tele.rx = x) : setRx x s = s := by
  subst h
  rfl

theorem receiveTelegram_setRx (header body check : List Byte) (x : RxState) (s : State) :
    receiveTelegram header body check (setRx x s) = setRx x (receiveTelegram header body check s) := by
  simp only [receiveTelegram, apply_ite (setRx x)]
  rfl

/-- Bytes before the last are collected. -/
theorem foldl_receiveByte_body {header : List Byte} (bytes : List Byte) :
    ∀ (got : List Byte) (s : State), s.tele.rx = .body header got →
      got.length + bytes.length < byteAt header 3 + 2 →
      bytes.foldl (fun t b => receiveByte b t) s = setRx (.body header (got ++ bytes)) s := by
  induction bytes with
  | nil =>
    intro got s hs _
    rw [List.append_nil]
    exact (setRx_self hs).symm
  | cons b rest ih =>
    intro got s hs hl
    rw [List.length_cons] at hl
    have hb : receiveByte b s = setRx (.body header (got ++ [b])) s := by
      rw [receiveByte, hs]
      exact if_pos (by omega)
    have hlen : (got ++ [b]).length + rest.length < byteAt header 3 + 2 := by
      rw [List.length_append, List.length_singleton]
      omega
    rw [List.foldl_cons, hb, ih (got ++ [b]) _ rfl hlen, setRx_setRx, List.append_assoc]
    rfl

theorem receiveByte_header {got : List Byte} {s : State} (hs : s.tele.rx = .header got) (hl : got.length + 1 < 4)
    (b : Byte) : receiveByte b s = setRx (.header (got ++ [b])) s := by
  rw [receiveByte, hs]
  exact if_pos hl

theorem receiveByte_length {h k n : Byte} {s : State} (hs : s.tele.rx = .header [h, k, n]) (len : Byte) :
    receiveByte len s =
      if 24 < len.toNat then setRx .hunt (s.setTele (s.tele.failCheck s.cfg.eq))
      else setRx (.body [h, k, n, len] []) s := by
  rw [receiveByte, hs]
  exact if_neg (by simp)

theorem receiveByte_last {header got : List Byte} {s : State} (hs : s.tele.rx = .body header got)
    (hl : ¬got.length + 1 < byteAt header 3 + 2) (b : Byte) :
    receiveByte b s =
      setRx .hunt
        (receiveTelegram header ((got ++ [b]).take (byteAt header 3)) ((got ++ [b]).drop (byteAt header 3)) s) := by
  rw [receiveByte, hs]
  exact if_neg hl

theorem failCheck_setRx (x y : RxState) (s : State) :
    setRx x ((setRx y s).setTele ((setRx y s).tele.failCheck (setRx y s).cfg.eq)) =
      setRx x (s.setTele (s.tele.failCheck s.cfg.eq)) := rfl

section
variable {s : State} (hon : s.mc.mode.online = true) (hrx : s.tele.rx = .header []) (h k n : Byte)
include hon hrx

/-- Three header bytes are collected, and the fourth gives the length of the body, or abandons the telegram. -/
theorem receiveBytes_header (len : Byte) (rest : List Byte) :
    receiveBytes ([h, k, n, len] ++ rest) s =
      rest.foldl (fun t b => receiveByte b t)
        (if 24 < len.toNat then setRx .hunt (s.setTele (s.tele.failCheck s.cfg.eq))
          else setRx (.body [h, k, n, len] []) s) := by
  rw [receiveBytes, if_pos hon]
  simp only [List.cons_append, List.nil_append, List.foldl_cons]
  rw [receiveByte_header hrx (by simp) h, receiveByte_header (got := [h]) rfl (by simp) k, setRx_setRx,
    receiveByte_header (got := [h, k]) rfl (by simp) n, setRx_setRx, receiveByte_length (h := h) (k := k) (n := n) rfl,
    setRx_setRx, failCheck_setRx]

theorem receiveBytes_abandoned {len : Byte} (hlen : 24 < len.toNat) :
    receiveBytes [h, k, n, len] s = setRx .hunt (s.setTele (s.tele.failCheck s.cfg.eq)) := by
  have := receiveBytes_header hon hrx h k n len []
  rwa [if_pos hlen] at this

/-- A whole telegram goes through the receive filter, and the receiver hunts again. -/
theorem receiveBytes_whole {body check : List Byte} (hb : body.length ≤ 24) (hc : check.length = 2) :
    receiveBytes ([h, k, n, byteOf body.length] ++ body ++ check) s =
      setRx .hunt (receiveTelegram [h, k, n, byteOf body.length] body check s) := by
  have hlen : byteAt [h, k, n, byteOf body.length] 3 = body.length := byteOf_toNat (by omega)
  have hbody : ¬24 < (byteOf body.length).toNat := Nat.not_lt.2 (hlen.trans_le hb)
  obtain ⟨a, b, rfl⟩ := List.length_eq_two.1 hc
  rw [List.append_assoc, receiveBytes_header hon hrx, if_neg hbody,
    show body ++ [a, b] = (body ++ [a]) ++ [b] by simp, List.foldl_append,
    foldl_receiveByte_body (body ++ [a]) [] _ rfl (by rw [hlen]; simp), List.nil_append, setRx_setRx]
  have hlast : ¬(body ++ [a]).length + 1 < byteAt [h, k, n, byteOf body.length] 3 + 2 := by
    rw [hlen]
    simp
  have hsplit : body ++ [a] ++ [b] = body ++ [a, b] := by simp
  rw [List.foldl_cons, List.foldl_nil, receiveByte_last (got := body ++ [a]) rfl hlast, hsplit, hlen, List.take_left,
      List.drop_left, receiveTelegram_setRx, setRx_setRx]

end

/-! ### The receive filter (R61, R62) -/

/-- R62 spelled out. -/
theorem malformed_eq_false_iff (kind sender : Nat) (body : List Byte) :
    malformed kind sender body = false ↔
      1 ≤ sender ∧ sender ≤ 31 ∧
        (kind = 1 ∧ ¬(body.getD 4 0).getLsbD 1 = true ∧ (body.length = 5 ∨ body.length = 16) ∨
          kind = 1 ∧ (body.getD 4 0).getLsbD 1 = true ∧ (body.length = 7 ∨ body.length = 18) ∨
          kind = 2 ∧ body.length = 6 ∧ byteAt body 0 ≤ 4 ∧ byteAt body 1 ≤ 3 ∨
          kind = 3 ∧ body.length = 1 ∧ byteAt body 0 ≤ 4) := by
  have hflag : (flagsOf (body.getD 4 0)).setPointPresent = (body.getD 4 0).getLsbD 1 := rfl
  simp only [malformed, hflag]
  generalize (body.getD 4 0).getLsbD 1 = present
  by_cases h₁ : kind = 1
  · subst h₁
    cases present <;> simp <;> omega
  by_cases h₂ : kind = 2
  · subst h₂
    simp
    omega
  by_cases h₃ : kind = 3
  · subst h₃
    simp
    omega
  simp [h₁, h₂, h₃]

section
variable {s : State} {header body check : List Byte}

theorem receiveTelegram_of_crc (hcrc : (crc16 (header ++ body)).toNat ≠ wordAt check 0) :
    receiveTelegram header body check s = s.setTele (s.tele.failCheck s.cfg.eq) :=
  if_pos (bne_iff_ne.2 hcrc)

variable (hcrc : (crc16 (header ++ body)).toNat = wordAt check 0)
include hcrc

theorem receiveTelegram_of_hamlet (hh : byteAt header 0 ≠ s.cfg.hamlet) :
    receiveTelegram header body check s =
      s.setTele { s.tele with foreignHamlet := satInc s.tele.foreignHamlet } := by
  simp only [receiveTelegram]
  rw [if_neg (by simpa using hcrc), if_pos (bne_iff_ne.2 hh)]

variable (hh : byteAt header 0 = s.cfg.hamlet)
include hh

theorem receiveTelegram_of_malformed (hm : malformed (byteAt header 1) (byteAt header 2) body = true) :
    receiveTelegram header body check s =
      s.setTele ({ s.tele with malformed := satInc s.tele.malformed }.qualityDown s.cfg.eq) := by
  simp only [receiveTelegram]
  rw [if_neg (by simpa using hcrc), if_neg (by simpa using hh), if_pos hm]

variable (hm : malformed (byteAt header 1) (byteAt header 2) body = false)
include hm

theorem receiveTelegram_of_own (ho : byteAt header 2 = s.loader.strapLatch) :
    receiveTelegram header body check s =
      s.setTele
        { s.tele with duplicateStation := satInc s.tele.duplicateStation, duplicateTimer := 500 } := by
  simp only [receiveTelegram]
  rw [if_neg (by simpa using hcrc), if_neg (by simpa using hh), if_neg (by simp [hm]), if_pos (beq_iff_eq.2 ho)]

theorem receiveTelegram_of_good (ho : byteAt header 2 ≠ s.loader.strapLatch) :
    receiveTelegram header body check s =
      (s.setTele ({ s.tele with received := satInc s.tele.received }.qualityUp)).setHanded
        (dispatchTelegram s.cfg.hamlet (byteAt header 1) (byteAt header 2) body s.handed) := by
  simp only [receiveTelegram]
  rw [if_neg (by simpa using hcrc), if_neg (by simpa using hh), if_neg (by simp [hm]), if_neg (by simpa using ho)]

end

/-- A good telegram hands a recall where the sequence stands in it, and its own kind of event (R65, R66). -/
theorem dispatchTelegram_eq (hamlet kind sender : Nat) (body : List Byte) (h : Handed) :
    dispatchTelegram hamlet kind sender body h =
      { h with
        recalls := h.recalls + bit (standsIn (recallSequence hamlet) body)
        statuses := (dispatchTelegram hamlet kind sender body h).statuses
        heard := (dispatchTelegram hamlet kind sender body h).heard } := by
  unfold dispatchTelegram
  generalize standsIn (recallSequence hamlet) body = sounds
  generalize (kind == 1) = status
  generalize (kind == 2) = claim
  cases sounds <;> cases status <;> cases claim <;> rfl

theorem cutShort_of_not_collecting {s : State} (h : s.tele.rx = .closed ∨ s.tele.rx = .hunt) : cutShort s = s := by
  unfold cutShort
  obtain h | h := h <;> rw [h] <;> exact ite_self _

theorem cutShort_of_collecting {s : State}
    (h : (∃ got, s.tele.rx = .header got) ∨ ∃ header got, s.tele.rx = .body header got) :
    cutShort s = if s.mc.mode.online then setRx .hunt (s.setTele (s.tele.failCheck s.cfg.eq)) else s := by
  unfold cutShort
  obtain ⟨_, h⟩ | ⟨_, _, h⟩ := h <;> rw [h]

/-! ### The commands -/

/-- Time counts the quiet-gap timer only. -/
theorem elapse_tele_gapTimer (dt : Nat) (s : State) : ∃ g, (elapse dt s).tele = { s.tele with gapTimer := g } := by
  rw [elapse_tele]
  split
  · exact ⟨_, rfl⟩
  · exact ⟨s.tele.gapTimer, rfl⟩

@[simp] theorem elapse_rx (dt : Nat) (s : State) : (elapse dt s).tele.rx = s.tele.rx := by
  obtain ⟨g, hg⟩ := elapse_tele_gapTimer dt s
  rw [hg]

theorem exec_telegramArrival {s : State} (hp : s.powered = true) (hon : s.mc.mode.online = true)
    (hrx : s.tele.rx = .header []) (dt : Nat) (h k n : Byte) {body check : List Byte} (hb : body.length ≤ 24)
    (hc : check.length = 2) :
    exec (.telegramArrival dt ([h, k, n, byteOf body.length] ++ body ++ check)) s =
      .next (setRx .hunt (receiveTelegram [h, k, n, byteOf body.length] body check (elapse dt s))) := by
  change answer s (receiveBytes _ (elapse dt s)) = _
  rw [answer_powered hp,
    receiveBytes_whole (s := elapse dt s) (by simpa using hon) (by simpa using hrx) h k n hb hc]

/-! #### The carrier ends (R51, R60) -/

/-- The transmitter where the carrier ends after `dt` µs. -/
def carrierGone (dt : Nat) (t : Telegram) : Telegram :=
  if t.tx = .carrierWait then { t with carrier := false, tx := .gap, gapTimer := 0 }
  else if t.tx = .gap then { t with carrier := false, gapTimer := t.gapTimer + dt }
  else { t with carrier := false }

theorem elapse_carrierDown (dt : Nat) (s : State) : (elapse dt s).tele.carrierDown = carrierGone dt s.tele := by
  rw [elapse_tele]
  cases htx : s.tele.tx <;> simp [Telegram.carrierDown, htx, TxState.isGap, carrierGone]

/-- The telegram cut short fails its check; the transmitter goes on as it does without one. -/
def cutShortAt (eq dt : Nat) (t : Telegram) : Telegram :=
  { carrierGone dt t with
    rx := .hunt
    crcFailures := min 65535 (t.crcFailures + 1)
    qualityCount := min eq (t.qualityCount + 1)
    quality := if eq ≤ t.qualityCount + 1 then .poor else t.quality }

theorem failCheck_carrierDown (eq dt : Nat) (s : State) :
    ({ (elapse dt s).tele.failCheck eq with rx := .hunt } : Telegram).carrierDown = cutShortAt eq dt s.tele := by
  rw [elapse_tele]
  cases htx : s.tele.tx <;>
    simp [Telegram.carrierDown, htx, TxState.isGap, cutShortAt, carrierGone, Telegram.failCheck, Telegram.qualityDown,
      satInc]

section
variable {s : State} (hp : s.powered = true) (dt : Nat)
include hp

theorem exec_carrierEnds_of_not_collecting (h : s.tele.rx = .closed ∨ s.tele.rx = .hunt) :
    exec (.carrierEnds dt) s = .next ((elapse dt s).setTele (carrierGone dt s.tele)) := by
  change answer s ((cutShort (elapse dt s)).setTele (cutShort (elapse dt s)).tele.carrierDown) = _
  rw [answer_powered hp, cutShort_of_not_collecting (by simpa using h), elapse_carrierDown]

theorem exec_carrierEnds_of_collecting
    (h : (∃ got, s.tele.rx = .header got) ∨ ∃ header got, s.tele.rx = .body header got) :
    exec (.carrierEnds dt) s =
      .next
        ((elapse dt s).setTele
          (if s.mc.mode.online then cutShortAt s.cfg.eq dt s.tele else carrierGone dt s.tele)) := by
  obtain ⟨hmode, -, hcfg, -⟩ := (elapse_frame dt s).2.2.2.2.2.2.2.2
  change answer s ((cutShort (elapse dt s)).setTele (cutShort (elapse dt s)).tele.carrierDown) = _
  rw [answer_powered hp, cutShort_of_collecting (by simpa using h), hmode, hcfg]
  split
  · rw [← failCheck_carrierDown]
    rfl
  · rw [elapse_carrierDown]

end

/-! #### A whole telegram, step by step of the filter (R61) -/

section
variable {s : State} (hp : s.powered = true) (hon : s.mc.mode.online = true) (hrx : s.tele.rx = .header [])
  {h k n : Byte} {body check : List Byte} (hb : body.length ≤ 24) (hc : check.length = 2) (dt : Nat)
include hp hon hrx hb hc

theorem exec_telegramArrival_of_crc
    (hcrc : (crc16 ([h, k, n, byteOf body.length] ++ body)).toNat ≠ wordAt check 0) :
    exec (.telegramArrival dt ([h, k, n, byteOf body.length] ++ body ++ check)) s =
      .next
        ((elapse dt s).setTele
          { (elapse dt s).tele with
            rx := .hunt
            qualityCount := min s.cfg.eq (s.tele.qualityCount + 1)
            quality := if s.cfg.eq ≤ s.tele.qualityCount + 1 then .poor else s.tele.quality
            crcFailures := min 65535 (s.tele.crcFailures + 1) }) := by
  obtain ⟨-, -, hcfg, -⟩ := (elapse_frame dt s).2.2.2.2.2.2.2.2
  obtain ⟨g, hg⟩ := elapse_tele_gapTimer dt s
  rw [exec_telegramArrival hp hon hrx dt _ _ _ hb hc, receiveTelegram_of_crc hcrc, hcfg]
  refine congrArg (fun x => Host.Outcome.next ((elapse dt s).setTele x)) ?_
  rw [hg]
  rfl

variable (hcrc : (crc16 ([h, k, n, byteOf body.length] ++ body)).toNat = wordAt check 0)
include hcrc

theorem exec_telegramArrival_of_hamlet (hh : h.toNat ≠ s.cfg.hamlet) :
    exec (.telegramArrival dt ([h, k, n, byteOf body.length] ++ body ++ check)) s =
      .next
        ((elapse dt s).setTele
          { (elapse dt s).tele with rx := .hunt, foreignHamlet := min 65535 (s.tele.foreignHamlet + 1) }) := by
  obtain ⟨-, -, hcfg, -⟩ := (elapse_frame dt s).2.2.2.2.2.2.2.2
  obtain ⟨g, hg⟩ := elapse_tele_gapTimer dt s
  rw [exec_telegramArrival hp hon hrx dt _ _ _ hb hc, receiveTelegram_of_hamlet hcrc (by rw [hcfg]; exact hh)]
  refine congrArg (fun x => Host.Outcome.next ((elapse dt s).setTele x)) ?_
  rw [hg]
  rfl

variable (hh : h.toNat = s.cfg.hamlet)
include hh

theorem exec_telegramArrival_of_malformed (hm : malformed k.toNat n.toNat body = true) :
    exec (.telegramArrival dt ([h, k, n, byteOf body.length] ++ body ++ check)) s =
      .next
        ((elapse dt s).setTele
          { (elapse dt s).tele with
            rx := .hunt
            qualityCount := min s.cfg.eq (s.tele.qualityCount + 1)
            quality := if s.cfg.eq ≤ s.tele.qualityCount + 1 then .poor else s.tele.quality
            malformed := min 65535 (s.tele.malformed + 1) }) := by
  obtain ⟨-, -, hcfg, -⟩ := (elapse_frame dt s).2.2.2.2.2.2.2.2
  obtain ⟨g, hg⟩ := elapse_tele_gapTimer dt s
  rw [exec_telegramArrival hp hon hrx dt _ _ _ hb hc,
    receiveTelegram_of_malformed hcrc (by rw [hcfg]; exact hh) (by exact hm), hcfg]
  refine congrArg (fun x => Host.Outcome.next ((elapse dt s).setTele x)) ?_
  rw [hg]
  rfl

variable (hm : malformed k.toNat n.toNat body = false)
include hm

theorem exec_telegramArrival_of_own (ho : n.toNat = s.loader.strapLatch) :
    exec (.telegramArrival dt ([h, k, n, byteOf body.length] ++ body ++ check)) s =
      .next
        ((elapse dt s).setTele
          { (elapse dt s).tele with
            rx := .hunt
            duplicateStation := min 65535 (s.tele.duplicateStation + 1)
            duplicateTimer := 500 }) := by
  obtain ⟨-, hloader, hcfg, -⟩ := (elapse_frame dt s).2.2.2.2.2.2.2.2
  obtain ⟨g, hg⟩ := elapse_tele_gapTimer dt s
  rw [exec_telegramArrival hp hon hrx dt _ _ _ hb hc,
    receiveTelegram_of_own hcrc (by rw [hcfg]; exact hh) (by exact hm) (by rw [hloader]; exact ho)]
  refine congrArg (fun x => Host.Outcome.next ((elapse dt s).setTele x)) ?_
  rw [hg]
  rfl

theorem exec_telegramArrival_of_good (ho : n.toNat ≠ s.loader.strapLatch) :
    exec (.telegramArrival dt ([h, k, n, byteOf body.length] ++ body ++ check)) s =
      .next
        (((elapse dt s).setTele
            { (elapse dt s).tele with
              rx := .hunt
              received := min 65535 (s.tele.received + 1)
              qualityCount := s.tele.qualityCount - 1
              quality := if s.tele.qualityCount = 1 then .good else s.tele.quality }).setHanded
          (dispatchTelegram s.cfg.hamlet k.toNat n.toNat body s.handed)) := by
  obtain ⟨-, hloader, hcfg, -, hhanded⟩ := (elapse_frame dt s).2.2.2.2.2.2.2.2
  obtain ⟨g, hg⟩ := elapse_tele_gapTimer dt s
  rw [exec_telegramArrival hp hon hrx dt _ _ _ hb hc,
    receiveTelegram_of_good hcrc (by rw [hcfg]; exact hh) (by exact hm) (by rw [hloader]; exact ho), hcfg, hhanded]
  refine congrArg (fun x => Host.Outcome.next (((elapse dt s).setTele x).setHanded _)) ?_
  rw [hg]
  rfl

end

/-- Settles O17. -/
theorem carrierAndReceiver : Obligations.CarrierAndReceiver := by
  refine ⟨fun dt s hp => ?_, fun dt s hp => ⟨exec_carrierEnds_of_not_collecting hp dt, fun hrx => ?_⟩,
    fun dt before s hp hon hcar hrx => ?_, fun dt h k n len s hp hon hrx hlen => ?_, ?_⟩
  · change answer s ((elapse dt s).setTele (elapse dt s).tele.carrierUp) = _
    rw [answer_powered hp]
    refine congrArg (fun x => Host.Outcome.next ((elapse dt s).setTele x)) ?_
    rw [elapse_tele]
    cases htx : s.tele.tx <;> simp [Telegram.carrierUp, htx, TxState.isGap]
  · exact exec_carrierEnds_of_collecting hp dt hrx
  · obtain ⟨g, hg⟩ := elapse_tele_gapTimer dt s
    change answer s (huntBits _ (elapse dt s)) = _
    have hunts : huntBits (before ++ delimiterBits) (elapse dt s) = setRx (.header []) (elapse dt s) := by
      unfold huntBits
      rw [if_pos]
      simp [hon, hcar, hrx, hg, delimiterBits]
      decide
    rw [answer_powered hp, hunts]
    rfl
  · obtain ⟨g, hg⟩ := elapse_tele_gapTimer dt s
    change answer s (receiveBytes _ (elapse dt s)) = _
    rw [answer_powered hp,
      receiveBytes_abandoned (s := elapse dt s) (by simpa using hon) (by simpa using hrx) h k n hlen]
    refine congrArg (fun x => Host.Outcome.next ((elapse dt s).setTele x)) ?_
    simp [Telegram.failCheck, Telegram.qualityDown, hg, satInc]
  · intro dt h k n body check s hp hon hrx hb hc header arrival e setPointPresent wellFormed worse
    have hwf : wellFormed ↔ malformed k.toNat n.toNat body = false := (malformed_eq_false_iff ..).symm
    refine ⟨exec_telegramArrival_of_crc hp hon hrx hb hc dt, fun hcrc =>
      ⟨exec_telegramArrival_of_hamlet hp hon hrx hb hc dt hcrc, fun hh hm => ?_, fun hh hm ho => ?_,
        fun hh hm ho => ?_⟩⟩
    · exact exec_telegramArrival_of_malformed hp hon hrx hb hc dt hcrc hh
        (Bool.eq_true_of_not_eq_false fun h' => hm (hwf.2 h'))
    · exact exec_telegramArrival_of_own hp hon hrx hb hc dt hcrc hh (hwf.1 hm) ho
    · refine ⟨_, exec_telegramArrival_of_good hp hon hrx hb hc dt hcrc hh (hwf.1 hm) ho, ?_⟩
      exact congrArg (State.setHanded _) (dispatchTelegram_eq ..)

end Sys2Proof.Machine

/-! # A framed telegram arrives as it was sent (O15, O16) -/

namespace Sys2Proof.Machine

/-- The receiver after a good telegram of the hamlet, with what it has handed (R61, R63). -/
def takenIn (dt : Nat) (s : State) (handed : Handed) : State :=
  { elapse dt s with
    tele :=
      { (elapse dt s).tele with
        rx := .hunt
        received := min 65535 (s.tele.received + 1)
        qualityCount := s.tele.qualityCount - 1
        quality := if s.tele.qualityCount = 1 then .good else s.tele.quality }
    handed := handed }

/-- A well-formed telegram of another station of the hamlet is taken in. -/
theorem exec_telegramArrival_frame {s : State} (hp : s.powered = true) (hon : s.mc.mode.online = true)
    (hrx : s.tele.rx = .header []) (hh : s.cfg.hamlet ≤ 254) {kind sender : Nat} (hk : kind < 256)
    (hs : sender ≠ s.loader.strapLatch) {body : List Byte} (hb : body.length ≤ 24)
    (hm : malformed kind sender body = false) (hsender : sender ≤ 31) (dt : Nat) :
    exec (.telegramArrival dt ((frame s.cfg.hamlet kind sender body).drop 4)) s =
      .next (takenIn dt s (dispatchTelegram s.cfg.hamlet kind sender body s.handed)) := by
  have hframe : (frame s.cfg.hamlet kind sender body).drop 4 =
      [byteOf s.cfg.hamlet, byteOf kind, byteOf sender, byteOf body.length] ++ body ++
        be16 (crc16 ([byteOf s.cfg.hamlet, byteOf kind, byteOf sender, byteOf body.length] ++ body)).toNat := rfl
  generalize hheader : [byteOf s.cfg.hamlet, byteOf kind, byteOf sender, byteOf body.length] = header at hframe
  have h₀ : byteAt header 0 = s.cfg.hamlet := hheader ▸ byteOf_toNat (by omega)
  have h₁ : byteAt header 1 = kind := hheader ▸ byteOf_toNat hk
  have h₂ : byteAt header 2 = sender := hheader ▸ byteOf_toNat (by omega)
  have hcrc : (crc16 (header ++ body)).toNat = wordAt (be16 (crc16 (header ++ body)).toNat) 0 :=
    (wordAt_be16_self (crc16_toNat_lt _)).symm
  have hhamlet : byteAt header 0 = (elapse dt s).cfg.hamlet := by simp [h₀]
  have hown : byteAt header 2 ≠ (elapse dt s).loader.strapLatch := by simpa [h₂] using hs
  rw [hframe, ← hheader, exec_telegramArrival hp hon hrx dt _ _ _ hb rfl, hheader,
    receiveTelegram_of_good hcrc hhamlet (by rw [h₁, h₂]; exact hm) hown, h₁, h₂]
  obtain ⟨g, hg⟩ := elapse_tele_gapTimer dt s
  refine congrArg _ ?_
  apply State.ext_fields
  case tele =>
    simp only [setRx, takenIn, State.setHanded_tele, State.setTele_tele, hg]
    rfl
  case handed => simp [setRx, takenIn]
  all_goals rfl

theorem claimBytes_spec {tag effective amount hold : Nat} (ht : tag < 256) (he : effective < 256)
    (ha : amount < 65536) (hh : hold < 65536) :
    byteAt (claimBytes tag effective amount hold) 0 = tag ∧
      byteAt (claimBytes tag effective amount hold) 1 = effective ∧
      wordAt (claimBytes tag effective amount hold) 2 = amount ∧
      wordAt (claimBytes tag effective amount hold) 4 = hold := by
  refine ⟨byteOf_toNat ht, byteOf_toNat he, wordAt_be16 ha [_, _] (be16 hold), ?_⟩
  have := wordAt_be16 hh ([byteOf tag, byteOf effective] ++ be16 amount) []
  rwa [List.append_nil] at this

/-- Settles O15. -/
theorem claimAndReleaseArriveAsSent : Obligations.ClaimAndReleaseArriveAsSent := by
  intro dt sender s hp hon hrx hh hs₁ hs₂ hs good
  refine ⟨fun tag effective amount hold ht he ha hhold => ?_, fun tag ht => ?_⟩
  · obtain ⟨h₀, h₁, h₂, h₃⟩ := claimBytes_spec (by omega : tag < 256) (by omega : effective < 256) ha hhold
    have hm : malformed 2 sender (claimBytes tag effective amount hold) = false :=
      (malformed_eq_false_iff ..).2 ⟨hs₁, hs₂, .inr (.inr (.inl ⟨rfl, rfl, h₀.trans_le ht, h₁.trans_le he⟩))⟩
    have hr : standsIn (recallSequence s.cfg.hamlet) (claimBytes tag effective amount hold) = false :=
      standsIn_of_short (show 6 < 11 by decide)
    have hl : (claimBytes tag effective amount hold).length ≤ 24 := show 6 ≤ 24 by decide
    have hd : dispatchTelegram s.cfg.hamlet 2 sender (claimBytes tag effective amount hold) s.handed =
        { s.handed with heard := s.handed.heard ++ [.claim sender tag effective amount hold] } := by
      simp only [dispatchTelegram, hr, h₀, h₁, h₂, h₃]
      rfl
    rw [exec_telegramArrival_frame hp hon hrx hh (by decide) hs hl hm hs₂, hd]
    rfl
  · have h₀ : byteAt [byteOf tag] 0 = tag := byteOf_toNat (by omega)
    have hm : malformed 3 sender [byteOf tag] = false :=
      (malformed_eq_false_iff ..).2 ⟨hs₁, hs₂, .inr (.inr (.inr ⟨rfl, rfl, h₀.trans_le ht⟩))⟩
    have hr : standsIn (recallSequence s.cfg.hamlet) [byteOf tag] = false :=
      standsIn_of_short (show 1 < 11 by decide)
    have hl : [byteOf tag].length ≤ 24 := show 1 ≤ 24 by decide
    have hd : dispatchTelegram s.cfg.hamlet 3 sender [byteOf tag] s.handed =
        { s.handed with heard := s.handed.heard ++ [.release sender tag] } := by
      simp only [dispatchTelegram, hr, h₀]
      rfl
    rw [exec_telegramArrival_frame hp hon hrx hh (by decide) hs hl hm hs₂, hd]
    rfl

/-! ### STATUS -/

/-- The bytes of the set-point field. -/
def setPointBytes (b : StatusBody) : List Byte := (b.setPointField.map be16).getD []

theorem statusBytes_eq (hamlet : Nat) (b : StatusBody) :
    statusBytes hamlet b =
      be16 b.ballast ++ be16 b.capacity ++ [flagsByte b.flags] ++ setPointBytes b ++
        if b.carriesRecall then recallSequence hamlet else [] := by
  unfold statusBytes setPointBytes
  cases b.setPointField <;> rfl

section
variable {hamlet : Nat} {b : StatusBody}

theorem statusBytes_length (hamlet : Nat) (b : StatusBody) :
    (statusBytes hamlet b).length =
      5 + (if b.setPointField.isSome then 2 else 0) + if b.carriesRecall then 11 else 0 := by
  rw [statusBytes_eq, setPointBytes]
  cases b.setPointField <;> cases b.carriesRecall <;> rfl

theorem statusBytes_flags (hamlet : Nat) (b : StatusBody) : (statusBytes hamlet b).getD 4 0 = flagsByte b.flags := by
  rw [statusBytes_eq]
  rfl

theorem statusBytes_ballast (h : b.ballast < 65536) : wordAt (statusBytes hamlet b) 0 = b.ballast := by
  rw [statusBytes_eq]
  exact wordAt_be16 h [] _

theorem statusBytes_capacity (h : b.capacity < 65536) : wordAt (statusBytes hamlet b) 2 = b.capacity := by
  rw [statusBytes_eq]
  exact wordAt_be16 h (be16 b.ballast) _

theorem statusBytes_setPoint {x : Nat} (hx : b.setPointField = some x) (h : x < 65536) :
    wordAt (statusBytes hamlet b) 5 = x := by
  rw [statusBytes_eq, setPointBytes, hx]
  exact wordAt_be16 h (be16 b.ballast ++ be16 b.capacity ++ [flagsByte b.flags]) _

theorem statusBytes_wellFormed {sender : Nat} (hs₁ : 1 ≤ sender) (hs₂ : sender ≤ 31)
    (hf : b.flags.setPointPresent = b.setPointField.isSome) : malformed 1 sender (statusBytes hamlet b) = false := by
  have hflag : ((statusBytes hamlet b).getD 4 0).getLsbD 1 = b.setPointField.isSome :=
    calc _ = (flagsOf (flagsByte b.flags)).setPointPresent := by rw [statusBytes_flags]; rfl
      _ = b.setPointField.isSome := by rw [flagsOf_flagsByte, hf]
  rw [malformed_eq_false_iff, hflag, statusBytes_length]
  refine ⟨hs₁, hs₂, ?_⟩
  cases b.setPointField <;> cases b.carriesRecall <;> simp

/-- What is heard of a composed STATUS is what it was composed of. -/
theorem heardStatus_statusBytes {sender : Nat} (hb : b.ballast < 65536) (hc : b.capacity < 65536)
    (hx : ∀ x ∈ b.setPointField, x < 65536) (hf : b.flags.setPointPresent = b.setPointField.isSome) :
    heardStatus sender (statusBytes hamlet b) =
      { sender := sender
        flags := b.flags
        ballast := b.ballast
        capacity := b.capacity
        setPoint := b.setPointField.map (· + 40000) } := by
  unfold heardStatus
  rw [statusBytes_flags, flagsOf_flagsByte, statusBytes_ballast hb, statusBytes_capacity hc, hf]
  cases h : b.setPointField with
  | none => rfl
  | some x =>
    rw [statusBytes_setPoint h (hx x h)]
    rfl

end

/-- Settles O16. -/
theorem statusArrivesAsComposed : Obligations.StatusArrivesAsComposed := by
  intro dt sender b s hp hon hrx hh hs₁ hs₂ hs hb hc hx hf
  have hl : (statusBytes s.cfg.hamlet b).length ≤ 24 := by
    rw [statusBytes_length]
    (repeat' split) <;> omega
  have hd : dispatchTelegram s.cfg.hamlet 1 sender (statusBytes s.cfg.hamlet b) s.handed =
      { s.handed with
        recalls := s.handed.recalls + bit b.carriesRecall
        statuses := s.handed.statuses ++ [heardStatus sender (statusBytes s.cfg.hamlet b)] } := by
    simp only [dispatchTelegram, standsIn_statusBytes]
    cases b.carriesRecall <;> rfl
  rw [exec_telegramArrival_frame hp hon hrx hh (by decide) hs hl (statusBytes_wellFormed hs₁ hs₂ hf) hs₂, hd,
    heardStatus_statusBytes hb hc hx hf]
  rfl

end Sys2Proof.Machine

/-! # The transmitter and the timers of the Telegram Controller (O18, O19, O20) -/

namespace Sys2Proof.Machine

/-! ### The transmitter settles -/

theorem Telegram.settle_list (t : Telegram) : t.settle.list = t.list := by rw [settle_keeps]

theorem Telegram.settle_slot (t : Telegram) : t.settle.slot = t.slot := by rw [settle_keeps]

theorem Telegram.settle_statusCount (t : Telegram) : t.settle.statusCount = t.statusCount := by rw [settle_keeps]

theorem Telegram.settle_statusSuperseded (t : Telegram) : t.settle.statusSuperseded = t.statusSuperseded := by
  rw [settle_keeps]

theorem Telegram.settle_claimSchedules (t : Telegram) : t.settle.claimSchedules = t.claimSchedules := by
  rw [settle_keeps]

theorem Telegram.settle_releaseSchedules (t : Telegram) : t.settle.releaseSchedules = t.releaseSchedules := by
  rw [settle_keeps]

/-- IDLE starts the gap where an entry waits (R51). -/
theorem Telegram.settle_tx_of_idle {t : Telegram} (h : t.tx = .idle) :
    t.settle.tx = if t.queued then (if t.carrier then .carrierWait else .gap) else .idle := by
  unfold settle
  rw [h]
  cases t.queued
  · exact h
  · cases hc : t.carrier <;> simp [startGap, hc]

/-- In SENDING, and with an entry in GAP and CARRIER-WAIT, nothing changes (R51). -/
theorem Telegram.settle_of_busy {t : Telegram} (h : t.tx.isSending = true ∨ t.queued = true ∧ t.tx ≠ .idle) :
    t.settle = t := by
  unfold settle
  obtain h | ⟨hq, hi⟩ := h
  · cases hx : t.tx <;> simp_all [TxState.isSending]
  · cases hx : t.tx <;> simp_all

theorem Telegram.queued_iff (t : Telegram) : t.queued = true ↔ ¬(t.list = [] ∧ t.slot = none) := by
  unfold queued
  cases t.slot <;> cases t.list <;> simp

/-! ### A transmission starts and completes (R50, R53) -/

section
variable {s : State} (hp : s.powered = true) (hon : s.mc.mode.online = true)
include hp hon

/-- The gap has run out. -/
theorem exec_quietGapExpiry (htx : s.tele.tx = .gap) :
    exec .quietGapExpiry s =
      .next (startTransmission (elapse (8000 + 2000 * s.loader.strapLatch - s.tele.gapTimer) s)) := by
  change answer s (gapExpiry s) = _
  rw [answer_powered hp, gapExpiry, if_pos (by simp [htx, TxState.isGap, hon])]
  rfl

omit hp hon in
/-- What sending an entry of a queue leaves of it, `dt` µs on. -/
theorem send_elapse (item : TxItem) (kind : Nat) (body : List Byte) (dt : Nat) {x : Telegram} {g : Nat}
    {list : List Copy} {slot : Option StatusBody} (hx : x = { s.tele with gapTimer := g, list := list, slot := slot }) :
    send item kind body ((elapse dt s).setTele x) =
      { elapse dt s with
        tele :=
          { s.tele with
            slot := slot
            list := list
            tx := .sending
              ⟨item, frame s.cfg.hamlet kind s.loader.strapLatch body,
                s.time.now + dt + ((frame s.cfg.hamlet kind s.loader.strapLatch body).length * 10000 + 2) / 3⟩
            gapTimer := 0
            rx := .closed } } := by
  subst hx
  refine congrArg (elapse dt s).setTele ?_
  simp only [State.setTele_cfg, State.setTele_loader, State.setTele_time, elapse_frame, elapse_time]
  rfl

omit hp hon in
theorem startTransmission_claim {tag : Circ} {rest : List Copy} {body : List Byte} (hl : s.tele.list = .claim tag ::
    rest)
    (hb : claimCopyBody tag s = some body) :
    startTransmission s = send (.claim tag true) 2 body (s.setTele { s.tele with list := rest }) := by
  rw [startTransmission, hl]
  dsimp only
  rw [hb]

omit hp hon in
theorem startTransmission_release {tag : Circ} {rest : List Copy} (hl : s.tele.list = .release tag :: rest) :
    startTransmission s = send (.release tag true) 3 [byteOf tag.idx] (s.setTele { s.tele with list := rest }) := by
  rw [startTransmission, hl]

omit hp hon in
theorem startTransmission_status {b : StatusBody} (hl : s.tele.list = []) (hb : s.tele.slot = some b) :
    startTransmission s = send .status 1 (statusBytes s.cfg.hamlet b) (s.setTele { s.tele with slot := none }) := by
  rw [startTransmission, hl]
  dsimp only
  rw [hb]

theorem exec_transmissionComplete {out : Outgoing} (htx : s.tele.tx = .sending out) :
    exec .transmissionComplete s =
      .next
        ((elapseTo out.doneAt s).setTele
          (({ s.tele with sent := satInc s.tele.sent }.reportCompletion out.item).afterSending)) := by
  have htele : (elapseTo out.doneAt s).tele = s.tele :=
    elapse_tele_of_not_gap (isGap_eq_false (by rw [htx]; nofun)) _
  change answer s (transmissionComplete s) = _
  rw [answer_powered hp, transmissionComplete]
  simp only [htx, hon, if_true, htele]

end

theorem Telegram.afterSending_eq (t : Telegram) :
    t.afterSending =
      { t with
        tx := if t.queued then (if t.carrier then .carrierWait else .gap) else .idle
        gapTimer := 0
        rx := .hunt } := by
  unfold afterSending startGap
  cases t.queued
  · rfl
  · cases hc : t.carrier <;> rfl

/-- Settles O18. -/
theorem transmissionStartsAndCompletes : Obligations.TransmissionStartsAndCompletes := by
  refine ⟨fun s hp hon htx => ?_, fun item bytes at_ s hp hon htx => ?_⟩
  · intro dt starts
    obtain ⟨g, hg⟩ := elapse_tele_gapTimer dt s
    have hstart := exec_quietGapExpiry hp hon htx
    refine ⟨fun tag rest c r hold hl hc hhold => ?_, fun tag rest hl => ?_, fun b hl hb => ?_⟩
    · have hbody : claimCopyBody tag (elapse dt s) = some (claimBytes tag.idx c.effective c.amount hold) := by
        have htag : c.circuit = tag := by simpa using List.find?_some hc
        have hhold' : claimHold s.cfg.ts c = some hold := by
          obtain ⟨hst, rfl⟩ | ⟨hst, rfl⟩ := hhold <;> simp [claimHold, hst]
        have hfind : (s.adm.own.find? fun c => c.circuit == tag) = some c := hc
        simp [claimCopyBody, hfind, hhold', htag]
      refine hstart.trans (congrArg _ ?_)
      rw [startTransmission_claim (by rw [hg]; exact hl) hbody]
      exact send_elapse (slot := s.tele.slot) _ _ _ dt (by rw [hg])
    · refine hstart.trans (congrArg _ ?_)
      rw [startTransmission_release (by rw [hg]; exact hl)]
      exact send_elapse (slot := s.tele.slot) _ _ _ dt (by rw [hg])
    · refine hstart.trans (congrArg _ ?_)
      rw [startTransmission_status (by rw [hg]; exact hl) (by rw [hg]; exact hb),
        (elapse_frame dt s).2.2.2.2.2.2.2.2.2.2.1]
      refine send_elapse (list := []) (g := g) _ _ _ dt ?_
      rw [hg, ← hl]
  · intro completes next
    have hdone := exec_transmissionComplete hp hon htx
    have hafter : ∀ x : Telegram, ({ s.tele with sent := satInc s.tele.sent }.reportCompletion item) = x →
        exec .transmissionComplete s = .next ((elapseTo at_ s).setTele x.afterSending) := by
      rintro _ rfl
      exact hdone
    refine ⟨fun hi => ?_, fun tag n hi hsc => ?_, fun tag n hi hsc => ?_⟩
    · refine (hafter { s.tele with sent := satInc s.tele.sent } ?_).trans ?_
      · obtain rfl | ⟨tag, rfl | rfl⟩ := hi <;> rfl
      · rw [Telegram.afterSending_eq]
        rfl
    · subst hi
      refine (hafter _ rfl).trans ?_
      rw [Telegram.afterSending_eq]
      simp only [Telegram.reportCompletion, hsc]
      rfl
    · subst hi
      refine (hafter _ rfl).trans ?_
      rw [Telegram.afterSending_eq]
      simp only [Telegram.reportCompletion, hsc]
      rfl

/-! ### The timers at their ends -/

theorem superseded_eq (slot : Option StatusBody) (n : Nat) :
    (if slot.isSome then satInc n else n) = if slot = none then n else min 65535 (n + 1) := by
  cases slot <;> rfl

theorem exec_statusIntervalExpiry {s : State} (hp : s.powered = true) (hon : s.mc.mode.online = true)
    (hi : s.tele.statusCount + 1 = s.cfg.ia) :
    exec .statusIntervalExpiry s = .next (settleTx (composeStatus (s.setTele { s.tele with statusCount := 0 }))) := by
  change answer s (if _ then _ else s) = _
  rw [answer_powered hp, if_pos (by simp [hon, hi]), countStatus, if_pos hi.ge]

/-- A copy that falls due joins the list, and the transmitter settles. -/
theorem exec_claimCopyDue {tag : Circ} {n : Nat} {s : State} (hp : s.powered = true)
    (h : s.tele.claimSchedules.get tag = some ⟨n, some 4⟩) :
    exec (.claimCopyDue tag) s =
      .next
        (s.setTele
          ({ s.tele with
              claimSchedules := s.tele.claimSchedules.set tag (some ⟨n, none⟩)
              list := s.tele.list ++ [.claim tag] } : Telegram).settle) := by
  change answer s (if _ then settleTx (countClaimCopy tag s) else s) = _
  rw [answer_powered hp, if_pos (by rw [h]; rfl), countClaimCopy_eq, h]
  rfl

theorem exec_releaseCopyDue {tag : Circ} {n : Nat} {s : State} (hp : s.powered = true)
    (h : s.tele.releaseSchedules.get tag = some ⟨n, some 4⟩) :
    exec (.releaseCopyDue tag) s =
      .next
        (s.setTele
          ({ s.tele with
              releaseSchedules := s.tele.releaseSchedules.set tag (some ⟨n, none⟩)
              list := s.tele.list ++ [.release tag] } : Telegram).settle) := by
  change answer s (if _ then settleTx (countReleaseCopy tag s) else s) = _
  rw [answer_powered hp, if_pos (by rw [h]; rfl), countReleaseCopy_eq, h]
  rfl

/-- Settles O19. -/
theorem telegramTimersExpire : Obligations.TelegramTimersExpire := by
  refine ⟨fun s hp hon hi => ?_, fun s hp hon hr => ?_, fun s hp hd => ?_, fun tag n s hp hsc => ?_,
    fun tag n s hp hsc => ?_, fun s hp hon hq hc => ?_⟩
  · intro ballast capacity
    refine ⟨_, exec_statusIntervalExpiry hp hon hi, ?_⟩
    have hkeeps := settle_keeps (composeStatus (s.setTele { s.tele with statusCount := 0 })).tele
    have hsuperseded := congrArg Telegram.statusSuperseded hkeeps
    exact ⟨congrArg Telegram.statusCount hkeeps, congrArg Telegram.slot hkeeps,
      hsuperseded.trans (superseded_eq s.tele.slot s.tele.statusSuperseded), Telegram.settle_list _, rfl⟩
  · change answer s (if _ then countRecall s else s) = _
    rw [answer_powered hp, if_pos (by simp [hon, hr]), countRecall, hr]
    rfl
  · change answer s (if _ then countDuplicate s else s) = _
    rw [answer_powered hp, if_pos (by simp [hd]), countDuplicate, hd]
    rfl
  · refine ⟨_, exec_claimCopyDue hp hsc, Telegram.settle_list _, ?_, Telegram.settle_slot _, fun hi => ?_, rfl⟩
    · rw [State.setTele_tele, settle_keeps]
      exact five_get_set_self ..
    · rw [State.setTele_tele, Telegram.settle_tx_of_idle (by exact hi)]
      exact if_pos (by simp [Telegram.queued_iff])
  · refine ⟨_, exec_releaseCopyDue hp hsc, Telegram.settle_list _, ?_, Telegram.settle_slot _, fun hi => ?_, rfl⟩
    · rw [State.setTele_tele, settle_keeps]
      exact five_get_set_self ..
    · rw [State.setTele_tele, Telegram.settle_tx_of_idle (by exact hi)]
      exact if_pos (by simp [Telegram.queued_iff])
  · change answer s (if _ then _ else s) = _
    rw [answer_powered hp, if_pos (by simp [hon, hq, hc]), Telegram.qualityDown, hc, if_pos (Nat.le_refl _),
      Nat.min_self]
    rfl

/-! ### The tick -/

theorem Mode.online_iff (m : Mode) : m.online = true ↔ m = .recover ∨ m = .stagger ∨ m = .run := by
  cases m <;> simp [online]

/-- The timers that a tick of the Telegram Controller counts before the schedules. -/
def timersCounted (s : State) : State :=
  if s.mc.mode.online then countStatus (countRecall (countDuplicate s)) else countDuplicate s

/-- The queue and the schedules after a tick, the transmitter not yet settled. -/
def schedulesCounted (t : Telegram) : Telegram :=
  { t with
    claimSchedules :=
      ⟨counted t.claimSchedules.c0, counted t.claimSchedules.c1, counted t.claimSchedules.c2,
        counted t.claimSchedules.c3, counted t.claimSchedules.c4⟩
    releaseSchedules :=
      ⟨counted t.releaseSchedules.c0, counted t.releaseSchedules.c1, counted t.releaseSchedules.c2,
        counted t.releaseSchedules.c3, counted t.releaseSchedules.c4⟩
    list :=
      t.list ++ (Circ.all.filter fun k => isDue (t.claimSchedules.get k)).map Copy.claim ++
        (Circ.all.filter fun k => isDue (t.releaseSchedules.get k)).map Copy.release }

theorem telegramTick_eq (s : State) :
    telegramTick s = (timersCounted s).setTele (schedulesCounted (timersCounted s).tele).settle := by
  unfold telegramTick
  dsimp only
  rw [countReleaseCopies_eq, countClaimCopies_eq]
  rfl

theorem timersCounted_of_offline {s : State} (h : s.mc.mode.online = false) :
    timersCounted s = s.setTele { s.tele with duplicateTimer := s.tele.duplicateTimer - 1 } := by
  rw [timersCounted, h]
  rfl

theorem timersCounted_of_waiting {s : State} (h : s.mc.mode.online = true) (hi : ¬s.cfg.ia ≤ s.tele.statusCount + 1) :
    timersCounted s =
      s.setTele
        { s.tele with
          duplicateTimer := s.tele.duplicateTimer - 1
          recallDuration := s.tele.recallDuration - 1
          statusCount := s.tele.statusCount + 1 } := by
  rw [timersCounted, if_pos h, countStatus]
  exact if_neg hi

theorem timersCounted_of_due {s : State} (h : s.mc.mode.online = true) (hi : s.cfg.ia ≤ s.tele.statusCount + 1) :
    timersCounted s =
      composeStatus
        (s.setTele
          { s.tele with
            duplicateTimer := s.tele.duplicateTimer - 1
            recallDuration := s.tele.recallDuration - 1
            statusCount := 0 }) := by
  rw [timersCounted, if_pos h, countStatus]
  exact if_pos hi

/-- The timers are counted, a STATUS may be composed, and nothing else changes. -/
theorem timersCounted_eq (s : State) :
    timersCounted s =
      { s with
        gov := (timersCounted s).gov
        handed := (timersCounted s).handed
        tele :=
          { s.tele with
            duplicateTimer := s.tele.duplicateTimer - 1
            recallDuration := if s.mc.mode.online then s.tele.recallDuration - 1 else s.tele.recallDuration
            statusCount := (timersCounted s).tele.statusCount
            slot := (timersCounted s).tele.slot
            statusSuperseded := (timersCounted s).tele.statusSuperseded } } := by
  cases hon : s.mc.mode.online with
  | false =>
    rw [timersCounted_of_offline hon]
    rfl
  | true =>
    by_cases hi : s.cfg.ia ≤ s.tele.statusCount + 1
    · rw [timersCounted_of_due hon hi]
      rfl
    · rw [timersCounted_of_waiting hon hi]
      rfl

theorem schedulesCounted_get (t : Telegram) (k : Circ) :
    (schedulesCounted t).claimSchedules.get k = counted (t.claimSchedules.get k) ∧
      (schedulesCounted t).releaseSchedules.get k = counted (t.releaseSchedules.get k) := by
  cases k <;> exact ⟨rfl, rfl⟩

/-- Where no STATUS is due, the queue's slot, the sums and what is handed stay. -/
theorem timersCounted_of_not_due {s : State} (h : ¬(s.mc.mode.online = true ∧ s.cfg.ia ≤ s.tele.statusCount + 1)) :
    (timersCounted s).tele.slot = s.tele.slot ∧
      (timersCounted s).tele.statusSuperseded = s.tele.statusSuperseded ∧
      (timersCounted s).gov = s.gov ∧ (timersCounted s).handed = s.handed ∧
      (timersCounted s).tele.statusCount =
        if s.mc.mode.online then s.tele.statusCount + 1 else s.tele.statusCount := by
  cases hon : s.mc.mode.online with
  | false =>
    rw [timersCounted_of_offline hon]
    exact ⟨rfl, rfl, rfl, rfl, rfl⟩
  | true =>
    rw [timersCounted_of_waiting hon fun hi => h ⟨hon, hi⟩]
    exact ⟨rfl, rfl, rfl, rfl, rfl⟩

/-- Settles O20. -/
theorem telegramTickCounts : Obligations.TelegramTickCounts := by
  intro p s hp hw online composes ballast capacity status counted' due list
  have hcounted : counted' = counted := by
    funext sc
    obtain _ | ⟨n, _ | c⟩ := sc <;> rfl
  have hdue : due = isDue := by
    funext sc
    obtain _ | ⟨n, _ | c⟩ := sc <;> rfl
  have honline : online ↔ s.mc.mode.online = true := (Mode.online_iff _).symm
  have hcomposes : composes ↔ s.mc.mode.online = true ∧ s.cfg.ia ≤ s.tele.statusCount + 1 := and_congr_left' honline
  have hdueStatus : composes → _ := fun hc => timersCounted_of_due (hcomposes.1 hc).1 (hcomposes.1 hc).2
  have hnoStatus : ¬composes → _ := fun hc => timersCounted_of_not_due (mt hcomposes.2 hc)
  have hb := timersCounted_eq s
  have hbt := congrArg State.tele hb
  have htick : blockTick p .telegram s = _ := telegramTick_eq s
  generalize timersCounted s = b at hb hbt htick hdueStatus hnoStatus
  have hkeeps := settle_keeps (schedulesCounted b.tele)
  have hlist : (schedulesCounted b.tele).list = list := by
    have hl : b.tele.list = s.tele.list := by rw [hbt]
    have hc : b.tele.claimSchedules = s.tele.claimSchedules := by rw [hbt]
    have hr : b.tele.releaseSchedules = s.tele.releaseSchedules := by rw [hbt]
    simp only [list, hdue, schedulesCounted, hl, hc, hr]
  have hslot : (schedulesCounted b.tele).slot = b.tele.slot := rfl
  have htx : (schedulesCounted b.tele).tx = s.tele.tx := by
    change b.tele.tx = _
    rw [hbt]
  have hcarrier : (schedulesCounted b.tele).carrier = s.tele.carrier := by
    change b.tele.carrier = _
    rw [hbt]
  have hgap : (schedulesCounted b.tele).gapTimer = s.tele.gapTimer := by
    change b.tele.gapTimer = _
    rw [hbt]
  refine ⟨_, exec_stationTick_of_last .telegram p hp hw, ?_⟩
  rw [htick]
  refine ⟨?_, fun k => ?_, fun hc => ?_, fun hc => ?_, fun ho hc => ?_, fun ho => ?_, fun hi => ?_, fun hi => ?_, ?_⟩
  · exact (Telegram.settle_list _).trans hlist
  · rw [hcounted]
    obtain ⟨h₁, h₂⟩ := schedulesCounted_get b.tele k
    refine ⟨?_, ?_⟩
    · rw [State.setTime_tele, State.setTele_tele, Telegram.settle_claimSchedules, h₁, hbt]
    · rw [State.setTime_tele, State.setTele_tele, Telegram.settle_releaseSchedules, h₂, hbt]
  · have hd := hdueStatus hc
    have hslot' : b.tele.slot = some status := by
      have hr : decide (0 < s.tele.recallDuration - 1) = decide (1 < s.tele.recallDuration) :=
        decide_eq_decide.2 Nat.sub_pos_iff_lt
      rw [hd]
      exact congrArg (fun x => some { composedStatus s with carriesRecall := x }) hr
    refine ⟨(Telegram.settle_slot _).trans hslot', (Telegram.settle_statusCount _).trans ?_,
      (Telegram.settle_statusSuperseded _).trans ?_, ?_, ?_⟩
    · change b.tele.statusCount = 0
      rw [hd]
      rfl
    · change b.tele.statusSuperseded = _
      rw [hd]
      exact superseded_eq s.tele.slot s.tele.statusSuperseded
    · rw [hd]
      rfl
    · rw [hd]
      rfl
  · obtain ⟨h₁, h₂, h₃, h₄, -⟩ := hnoStatus hc
    exact ⟨(Telegram.settle_slot _).trans h₁, (Telegram.settle_statusSuperseded _).trans h₂, h₃, h₄⟩
  · obtain ⟨-, -, -, -, h⟩ := hnoStatus hc
    exact (Telegram.settle_statusCount _).trans (h.trans (if_pos (honline.1 ho)))
  · obtain ⟨-, -, -, -, h⟩ := hnoStatus fun hc => ho hc.1
    exact (Telegram.settle_statusCount _).trans (h.trans (if_neg (mt honline.2 ho)))
  · have hq : (schedulesCounted b.tele).queued = true ↔ ¬(list = [] ∧ (schedulesCounted b.tele).settle.slot = none)
      := by
      rw [Telegram.queued_iff, hlist, Telegram.settle_slot]
    refine (Telegram.settle_tx_of_idle (htx.trans hi)).trans ?_
    rw [hcarrier]
    by_cases hempty : list = [] ∧ (schedulesCounted b.tele).settle.slot = none
    · exact (if_neg fun h => hq.1 h hempty).trans (if_pos hempty).symm
    · exact (if_pos (hq.2 hempty)).trans (if_neg hempty).symm
  · have hbusy : (schedulesCounted b.tele).settle = schedulesCounted b.tele := by
      refine Telegram.settle_of_busy ?_
      rw [htx, Telegram.queued_iff]
      refine hi.imp id fun ⟨hl, ht⟩ => ⟨fun h => hl ?_, ht⟩
      exact (Telegram.settle_list _).trans h.1
    exact ⟨(congrArg Telegram.tx hbusy).trans htx, (congrArg Telegram.gapTimer hbusy).trans hgap⟩
  · refine (congrArg (fun u : State => (u.setTele (schedulesCounted b.tele).settle).setTime
      { s.time with tickWaiting := [] }) hb).trans ?_
    refine congrArg (fun x => { s with
      time := { s.time with tickWaiting := [] }, gov := b.gov, handed := b.handed, tele := x }) ?_
    simp only [State.setTime_tele, State.setTele_tele, Telegram.settle_statusCount, Telegram.settle_slot,
      Telegram.settle_statusSuperseded, Telegram.settle_claimSchedules, Telegram.settle_releaseSchedules,
      Telegram.settle_list, honline]
    rw [settle_keeps, hbt]
    rfl

end Sys2Proof.Machine

/-! # Known and surplus neighbours, the ages, headroom and precedence (O22, O23, O24) -/

namespace Sys2Proof.Machine

/-! ### Hearing a STATUS of a known station, or with a full table (R71, R73, R74) -/

theorem Table.hear_of_known {h : HeardStatus} {t : Table} (hk : ∃ n ∈ t.records, n.station = h.sender) :
    t.hear h = ({ t with records := refresh h t.records }, none) := by
  rw [Table.hear, if_pos ((holdsStation_iff ..).2 hk)]

section
variable {h : HeardStatus} {t : Table} (hnew : ∀ n ∈ t.records, n.station ≠ h.sender) (hfull : 16 ≤ t.records.length)
include hnew hfull

theorem Table.hear_of_full {old : Neighbour} (hold : oldestStale t.records = some old) :
    t.hear h =
      ({ t with records := insertRecord h.record (removeStation old.station t.records) }, some old.station) := by
  have hunheld : ¬holdsStation h.sender t.records = true := by simpa [holdsStation_iff] using hnew
  simp only [Table.hear, if_neg hunheld, if_neg (Nat.not_lt.2 hfull), hold]

theorem Table.hear_of_overflow (hold : oldestStale t.records = none) :
    t.hear h = ({ t with overflow := satInc t.overflow }, none) := by
  have hunheld : ¬holdsStation h.sender t.records = true := by simpa [holdsStation_iff] using hnew
  simp only [Table.hear, if_neg hunheld, if_neg (Nat.not_lt.2 hfull), hold]

end

/-- `y` is at least as good to give up as `x`: older, or as old with a station number at least as high (R73). -/
def yieldsTo (x y : Neighbour) : Prop := x.age < y.age ∨ x.age = y.age ∧ x.station ≤ y.station

theorem olderStale_spec (x y : Neighbour) :
    (olderStale x y = x ∨ olderStale x y = y) ∧ yieldsTo x (olderStale x y) ∧ yieldsTo y (olderStale x y) := by
  unfold olderStale yieldsTo
  split
  case isTrue h =>
    simp only [Bool.or_eq_true, Bool.and_eq_true, decide_eq_true_eq, beq_iff_eq] at h
    exact ⟨.inr rfl, by omega, by omega⟩
  case isFalse h =>
    simp only [Bool.or_eq_true, Bool.and_eq_true, decide_eq_true_eq, beq_iff_eq] at h
    exact ⟨.inl rfl, by omega, by omega⟩

theorem yieldsTo.trans {x y z : Neighbour} (h : yieldsTo x y) (h' : yieldsTo y z) : yieldsTo x z := by
  unfold yieldsTo at *
  omega

theorem yieldsTo.refl (x : Neighbour) : yieldsTo x x := .inr ⟨rfl, Nat.le_refl _⟩

/-- The record to give up is the oldest STALE one, and there is one where any record is STALE (R73). -/
theorem oldestStale_spec (l : List Neighbour) :
    match oldestStale l with
    | none => ∀ n ∈ l, n.condition ≠ .stale
    | some m => m ∈ l ∧ m.condition = .stale ∧ ∀ n ∈ l, n.condition = .stale → yieldsTo n m := by
  induction l with
  | nil => simp [oldestStale]
  | cons x xs ih =>
    rw [oldestStale]
    cases hxs : oldestStale xs with
    | none =>
      simp only [hxs] at ih
      by_cases hx : x.condition = .stale
      · simp only [if_pos hx]
        refine ⟨List.mem_cons_self, hx, fun n hn hs => ?_⟩
        obtain rfl | hn := List.mem_cons.1 hn
        · exact .refl _
        · exact absurd hs (ih n hn)
      · simp only [if_neg hx]
        exact List.forall_mem_cons.2 ⟨hx, ih⟩
    | some m =>
      simp only [hxs] at ih
      obtain ⟨hm, hms, hbest⟩ := ih
      by_cases hx : x.condition = .stale
      · simp only [if_pos hx]
        obtain ⟨hor, hxo, hmo⟩ := olderStale_spec x m
        refine ⟨?_, ?_, fun n hn hs => ?_⟩
        · obtain h | h := hor <;> simp [h, hm]
        · obtain h | h := hor <;> rw [h] <;> assumption
        · obtain rfl | hn := List.mem_cons.1 hn
          · exact hxo
          · exact (hbest n hn hs).trans hmo
      · simp only [if_neg hx]
        refine ⟨List.mem_cons_of_mem _ hm, hms, fun n hn hs => ?_⟩
        obtain rfl | hn := List.mem_cons.1 hn
        · exact absurd hs hx
        · exact hbest n hn hs

theorem mem_removeStation {station : Nat} {l : List Neighbour} {n : Neighbour} :
    n ∈ removeStation station l ↔ n ∈ l ∧ n.station ≠ station := by
  simp [removeStation]

/-- The effect of the command, with the table that heard the STATUS. -/
theorem exec_neighbourStatusHeard_online {h : HeardStatus} {rest : List HeardStatus} {s : State}
    (hp : s.powered = true) (hon : s.mc.mode.online = true) (hst : s.handed.statuses = h :: rest) :
    exec .neighbourStatusHeard s =
      .next
        { s with
          table := (s.table.hear h).1
          handed :=
            { s.handed with
              statuses := rest
              removed := s.handed.removed ++ (s.table.hear h).2.toList
              hamletRaised := s.handed.hamletRaised + bit (!s.table.shedding && (s.table.hear h).1.shedding) } } := by
  rw [exec_neighbourStatusHeard_cons hp hst]
  exact congrArg _ (if_pos hon)

/-- Settles O22. -/
theorem knownAndSurplusNeighbours : Obligations.KnownAndSurplusNeighbours := by
  intro h rest s hp hon hst
  refine ⟨_, exec_neighbourStatusHeard_online hp hon hst, ?_, fun hk => ?_, fun hnew hfull => ?_,
    fun hnew hfull hstale => ?_⟩
  · have hraised : bit (!s.table.shedding && (s.table.hear h).1.shedding) =
        if s.table.shedding = false ∧ (s.table.hear h).1.shedding = true then 1 else 0 := by
      cases s.table.shedding <;> cases (s.table.hear h).1.shedding <;> rfl
    rw [hraised]
  · rw [Table.hear_of_known hk]
    exact ⟨rfl, List.append_nil _, rfl⟩
  · have hspec := oldestStale_spec s.table.records
    cases hold : oldestStale s.table.records with
    | none =>
      rw [Table.hear_of_overflow (fun n hn => (hnew n hn).1) hfull hold]
      exact ⟨rfl, List.append_nil _⟩
    | some old =>
      simp only [hold] at hspec
      obtain ⟨hmem, hs, -⟩ := hspec
      rw [(hnew old hmem).2] at hs
      cases hs
  · have hspec := oldestStale_spec s.table.records
    cases hold : oldestStale s.table.records with
    | none =>
      simp only [hold] at hspec
      obtain ⟨n, hn, hs⟩ := hstale
      exact absurd hs (hspec n hn)
    | some old =>
      simp only [hold] at hspec
      obtain ⟨hmem, hs, hbest⟩ := hspec
      rw [Table.hear_of_full hnew hfull hold]
      refine ⟨old, hmem, hs, hbest, rfl, rfl, fun n hn => ?_, fun n hn hne => ?_, h.record, ?_, rfl, rfl, rfl⟩
      · obtain rfl | hn := (mem_insertRecord ..).1 hn
        · exact (hnew old hmem).symm
        · exact (mem_removeStation.1 hn).2
      · exact (mem_insertRecord ..).2 (.inr (mem_removeStation.2 ⟨hn, hne⟩))
      · exact (mem_insertRecord ..).2 (.inl rfl)

/-! ### The ages (R75, R76) -/

theorem find_of_split {n : Neighbour} {before after : List Neighbour} {t : Table}
    (hr : t.records = before ++ n :: after) (hne : ∀ m ∈ before ++ after, m.station ≠ n.station) :
    t.find n.station = some n := by
  have hb : before.find? (fun m => m.station == n.station) = none := by
    rw [List.find?_eq_none]
    intro m hm
    simpa using hne m (List.mem_append_left _ hm)
  rw [Table.find, hr, List.find?_append, hb]
  simp

theorem map_of_split {n : Neighbour} {before after : List Neighbour} (f : Neighbour → Neighbour)
    (hne : ∀ m ∈ before ++ after, m.station ≠ n.station) :
    (before ++ n :: after).map (fun m => if m.station = n.station then f m else m) = before ++ f n :: after := by
  have hsame : ∀ l : List Neighbour, (∀ m ∈ l, m.station ≠ n.station) →
      l.map (fun m => if m.station = n.station then f m else m) = l := fun l hl =>
    (List.map_congr_left fun m hm => if_neg (hl m hm)).trans (List.map_id' l)
  rw [List.map_append, List.map_cons, hsame before fun m hm => hne m (List.mem_append_left _ hm),
    hsame after fun m hm => hne m (List.mem_append_right _ hm), if_pos rfl]

theorem removeStation_of_split {n : Neighbour} {before after : List Neighbour}
    (hne : ∀ m ∈ before ++ after, m.station ≠ n.station) :
    removeStation n.station (before ++ n :: after) = before ++ after := by
  have hkeep : ∀ l : List Neighbour, (∀ m ∈ l, m.station ≠ n.station) →
      l.filter (fun m => m.station != n.station) = l := fun l hl =>
    List.filter_eq_self.2 fun m hm => by simpa using hl m hm
  rw [removeStation, List.filter_append, List.filter_cons_of_neg (by simp),
    hkeep before fun m hm => hne m (List.mem_append_left _ hm),
    hkeep after fun m hm => hne m (List.mem_append_right _ hm)]

/-- Settles O23. -/
theorem neighboursAgeOut : Obligations.NeighboursAgeOut := by
  refine ⟨fun p s hp hw => ?_, fun n before after s hp hr hne hf ha hlt => ?_, fun n before after s hp hr hne ha => ?_,
    fun station rest s hp hr => ?_⟩
  · intro aged
    have hkept : (aged.filter fun n => !n.agedOut s.cfg.ia) = aged.filter fun n => n.age < 8 * s.cfg.ia :=
      List.filter_congr fun n _ => by
        rw [Neighbour.agedOut, ← decide_not]
        exact decide_eq_decide.2 Nat.not_le
    rw [exec_stationTick_of_last .neighbour p hp hw, ← hkept]
    rfl
  · have hdue : staleDue n.station s = true := by
      rw [staleDue, find_of_split hr hne]
      simp [Neighbour.isFresh, hf, ha]
    have haged : n.aged s.cfg.ia = { n with age := n.age + 1, condition := .stale } := by
      have hsat : satInc n.age = n.age + 1 := Nat.min_eq_right hlt
      rw [Neighbour.aged, hsat, if_pos ha.ge]
    change answer s (if staleDue n.station s then _ else s) = _
    rw [answer_powered hp, if_pos hdue, hr, map_of_split (Neighbour.aged s.cfg.ia) hne, haged]
    rfl
  · have hdue : agedOutDue n.station s = true := by
      rw [agedOutDue, find_of_split hr hne]
      simp [ha]
    change answer s (if agedOutDue n.station s then _ else s) = _
    rw [answer_powered hp, if_pos hdue, hr, removeStation_of_split hne]
    rfl
  · change answer s (match s.handed.removed with | [] => s | n :: rest => _) = _
    rw [answer_powered hp, hr]
    rfl

/-! ### Headroom and precedence (R89, R94) -/

/-- R89: by effective class, then by owner, then by tag. -/
theorem precedes_iff (x y : Nat × Nat × Nat) :
    precedes x y = true ↔ x.1 < y.1 ∨ x.1 = y.1 ∧ (x.2.1 < y.2.1 ∨ x.2.1 = y.2.1 ∧ x.2.2 < y.2.2) := by
  simp [precedes]

theorem precedes_eq_decide (x y : Nat × Nat × Nat) :
    precedes x y = decide (x.1 < y.1 ∨ x.1 = y.1 ∧ (x.2.1 < y.2.1 ∨ x.2.1 = y.2.1 ∧ x.2.2 < y.2.2)) :=
  Bool.eq_iff_iff.2 ((precedes_iff x y).trans decide_eq_true_iff.symm)

/-- Settles O24. -/
theorem headroomAndPrecedence : Obligations.HeadroomAndPrecedence := by
  refine ⟨fun s c => ?_, fun x y z => ⟨?_, fun hne => ?_, fun hxy hyz => ?_⟩⟩
  · intro own before spare competing'
    have hspare : sparePower s = spare := by
      cases hq : s.tele.quality with
      | good => simp only [sparePower, spare, hq, if_true]; rfl
      | poor => simp only [sparePower, spare, hq, reduceCtorEq, if_false]; rfl
    have hcompeting : competing s c = competing' := by
      simp only [competing, precedes_eq_decide]
      rfl
    rw [headroom, decide_eq_true_eq, margin, hspare, hcompeting]
  · rw [Bool.eq_false_iff, ne_eq, precedes_iff]
    omega
  · have hapart : ¬(x.1 = y.1 ∧ x.2.1 = y.2.1 ∧ x.2.2 = y.2.2) := fun ⟨h, h', h''⟩ =>
      hne (Prod.ext h (Prod.ext h' h''))
    rw [precedes_eq_decide, precedes_eq_decide, ← decide_not]
    exact decide_eq_decide.2 (by omega)
  · rw [precedes_iff] at *
    omega

end Sys2Proof.Machine

/-! # The decisions about own claims: deferrals and admissions of a group (O25, O26, O28) -/

namespace Sys2Proof.Machine

/-! ### What a verdict makes of the claims (R96, R100) -/

theorem deferAll_eq (l : List OwnClaim) (s : State) : deferAll l s = applyVerdicts (l.map fun c => (c, false)) s := by
  induction l generalizing s with
  | nil => rfl
  | cons c rest ih => exact ih (deferClaim c s)

/-- What the verdicts make of an own claim: SETTLING, DEFERRED, gone with its retries exhausted, or the claim itself. -/
def outcome (cfg : Config) (vs : List (OwnClaim × Bool)) (o : OwnClaim) : Option OwnClaim :=
  if (o, true) ∈ vs then some { o with state := .settling cfg.ts }
  else if (o, false) ∈ vs then
    if (o.deferral cfg).exhausted cfg.lr then none else some (o.deferral cfg)
  else some o

/-- What a verdict is answered: ADMITTED, REFUSED where the retries are exhausted, or nothing. -/
def verdictAnswer (cfg : Config) : OwnClaim × Bool → Option Answer
  | (c, true) => some (.admitted c.circuit)
  | (c, false) => if (c.deferral cfg).exhausted cfg.lr then some (.refused c.circuit) else none

/-- What one verdict makes of an own claim of a list in which circuits do not repeat. -/
def verdictOf (cfg : Config) (v : OwnClaim × Bool) (o : OwnClaim) : Option OwnClaim :=
  if v.2 then some (if o.circuit = v.1.circuit then { o with state := .settling cfg.ts } else o)
  else deferOf cfg v.1 o

/-- One verdict applied. -/
def applyVerdict (v : OwnClaim × Bool) (s : State) : State := if v.2 then admitClaim v.1 s else deferClaim v.1 s

theorem applyVerdicts_cons (v : OwnClaim × Bool) (vs : List (OwnClaim × Bool)) (s : State) :
    applyVerdicts (v :: vs) s = applyVerdicts vs (applyVerdict v s) := by
  obtain ⟨c, _ | _⟩ := v <;> rfl

theorem applyVerdict_own (v : OwnClaim × Bool) (s : State) :
    (applyVerdict v s).adm.own = s.adm.own.filterMap (verdictOf s.cfg v) := by
  obtain ⟨c, _ | _⟩ := v
  · exact deferClaim_own c s
  · refine (admitClaim_own c s).trans ?_
    rw [← List.filterMap_eq_map]
    rfl

theorem applyVerdict_cfg (v : OwnClaim × Bool) (s : State) : (applyVerdict v s).cfg = s.cfg := by
  obtain ⟨c, _ | _⟩ := v <;> simp [applyVerdict]

theorem verdictOf_circuit {cfg : Config} {v : OwnClaim × Bool} {o d : OwnClaim} (h : verdictOf cfg v o = some d) :
    o.circuit = v.1.circuit ∧ d.circuit = v.1.circuit ∨ o.circuit ≠ v.1.circuit ∧ d = o := by
  obtain ⟨c, _ | _⟩ := v <;> by_cases ho : o.circuit = c.circuit
  · simp only [verdictOf, deferOf, ho, if_true, Bool.false_eq_true, if_false] at h
    split at h
    · cases h
    · cases h
      exact .inl ⟨ho, rfl⟩
  · simp only [verdictOf, deferOf, ho, Bool.false_eq_true, if_false] at h
    cases h
    exact .inr ⟨ho, rfl⟩
  · simp only [verdictOf, ho, if_true] at h
    cases h
    exact .inl ⟨ho, rfl⟩
  · simp only [verdictOf, ho, if_true, if_false] at h
    cases h
    exact .inr ⟨ho, rfl⟩

/-- A claim whose circuit no verdict names stands. -/
theorem outcome_of_not_named {cfg : Config} {vs : List (OwnClaim × Bool)} {o : OwnClaim}
    (h : o.circuit ∉ vs.map fun v => v.1.circuit) : outcome cfg vs o = some o := by
  have hnone : ∀ b, (o, b) ∉ vs := fun b hb => h (List.mem_map.2 ⟨_, hb, rfl⟩)
  rw [outcome, if_neg (hnone true), if_neg (hnone false)]

/-- The first verdict, then the others, are the verdicts of the list. -/
theorem verdictOf_bind_outcome {cfg : Config} {v : OwnClaim × Bool} {vs : List (OwnClaim × Bool)} {o : OwnClaim}
    (hfresh : v.1.circuit ∉ vs.map fun v => v.1.circuit) (hself : o.circuit = v.1.circuit → o = v.1) :
    (verdictOf cfg v o).bind (outcome cfg vs) = outcome cfg (v :: vs) o := by
  by_cases ho : o.circuit = v.1.circuit
  · obtain ⟨c, b⟩ := v
    obtain rfl : o = c := hself ho
    have hnone : ∀ b, (o, b) ∉ vs := fun b hb => hfresh (List.mem_map.2 ⟨_, hb, rfl⟩)
    have hkept : ∀ d : OwnClaim, d.circuit = o.circuit → outcome cfg vs d = some d := fun d hd =>
      outcome_of_not_named (by rwa [hd])
    cases b with
    | true =>
      rw [outcome, if_pos List.mem_cons_self, verdictOf, if_pos rfl, if_pos rfl, Option.bind_some]
      exact hkept _ rfl
    | false =>
      have htrue : (o, true) ∉ (o, false) :: vs := by simp [hnone]
      rw [outcome, if_neg htrue, if_pos List.mem_cons_self, verdictOf, if_neg Bool.false_ne_true, deferOf, if_pos rfl]
      split
      · rfl
      · exact hkept _ rfl
  · have hkeep : verdictOf cfg v o = some o := by
      obtain ⟨c, _ | _⟩ := v <;> simp only [verdictOf, deferOf, ho, Bool.false_eq_true, if_true, if_false]
    have hmem : ∀ b, (o, b) ∈ v :: vs ↔ (o, b) ∈ vs := fun b => by
      rw [List.mem_cons, or_iff_right]
      rintro rfl
      exact ho rfl
    simp only [hkeep, Option.bind_some, outcome, hmem]

theorem applyVerdicts_own (vs : List (OwnClaim × Bool)) :
    ∀ s : State, (vs.map fun v => v.1.circuit).Nodup →
      (∀ v ∈ vs, ∀ o ∈ s.adm.own, o.circuit = v.1.circuit → o = v.1) →
      (applyVerdicts vs s).adm.own = s.adm.own.filterMap (outcome s.cfg vs) := by
  induction vs with
  | nil =>
    intro s _ _
    have hstands : outcome s.cfg [] = some := funext fun o => outcome_of_not_named List.not_mem_nil
    rw [hstands, List.filterMap_some]
    rfl
  | cons v vs ih =>
    intro s hn hself
    obtain ⟨hfresh, hn⟩ := List.nodup_cons.1 hn
    rw [applyVerdicts_cons, ih _ hn, applyVerdict_own, applyVerdict_cfg, List.filterMap_filterMap]
    · exact List.filterMap_congr fun o ho =>
        verdictOf_bind_outcome hfresh (hself v List.mem_cons_self o ho)
    · intro w hw o ho heq
      rw [applyVerdict_own] at ho
      obtain ⟨d, hd, hdo⟩ := List.mem_filterMap.1 ho
      obtain ⟨-, hov⟩ | ⟨-, rfl⟩ := verdictOf_circuit hdo
      · exact absurd (List.mem_map.2 ⟨w, hw, heq.symm.trans hov⟩) hfresh
      · exact hself w (List.mem_cons_of_mem _ hw) o hd heq

theorem applyVerdict_handed (v : OwnClaim × Bool) (s : State) :
    (applyVerdict v s).handed =
      { s.handed with answers := s.handed.answers ++ (verdictAnswer s.cfg v).toList } := by
  obtain ⟨c, _ | _⟩ := v
  · refine (deferClaim_handed c s).trans ?_
    rw [verdictAnswer]
    split <;> rfl
  · rfl

theorem applyVerdicts_handed (vs : List (OwnClaim × Bool)) (s : State) :
    (applyVerdicts vs s).handed =
      { s.handed with answers := s.handed.answers ++ vs.filterMap (verdictAnswer s.cfg) } := by
  induction vs generalizing s with
  | nil => simp [applyVerdicts]
  | cons v vs ih =>
    rw [applyVerdicts_cons, ih, applyVerdict_handed, applyVerdict_cfg, List.filterMap_cons]
    cases verdictAnswer s.cfg v <;> simp

theorem applyVerdicts_heard (vs : List (OwnClaim × Bool)) (s : State) :
    (applyVerdicts vs s).adm.heard = s.adm.heard := by
  induction vs generalizing s with
  | nil => rfl
  | cons v vs ih =>
    obtain ⟨c, _ | _⟩ := v
    · exact (ih _).trans (deferClaim_heard c s)
    · exact (ih _).trans (admitClaim_heard c s)

theorem applyVerdicts_claimOverflow (vs : List (OwnClaim × Bool)) (s : State) :
    (applyVerdicts vs s).adm.claimOverflow = s.adm.claimOverflow := by
  induction vs generalizing s with
  | nil => rfl
  | cons v vs ih =>
    obtain ⟨c, _ | _⟩ := v
    · obtain ⟨-, -, -, -, h⟩ := deferClaim_counters c s
      exact (ih _).trans h
    · exact ih _

theorem applyVerdicts_admissions (vs : List (OwnClaim × Bool)) (s : State) (hle : s.adm.admissions ≤ 65535) :
    (applyVerdicts vs s).adm.admissions = min 65535 (s.adm.admissions + (vs.filter (·.2)).length) := by
  induction vs generalizing s with
  | nil => simp [applyVerdicts, Nat.min_eq_right hle]
  | cons v vs ih =>
    obtain ⟨c, _ | _⟩ := v
    · obtain ⟨-, -, -, h, -⟩ := deferClaim_counters c s
      rw [applyVerdicts, ih _ (h ▸ hle), h, List.filter_cons_of_neg (by simp)]
    · have hsat : (admitClaim c s).adm.admissions = satInc s.adm.admissions := rfl
      rw [applyVerdicts, ih _ (hsat ▸ satInc_le _), hsat, List.filter_cons_of_pos rfl, List.length_cons, satInc]
      omega

/-! ### What the deferrals of a group leave, whatever is admitted between them -/

/-- What a deferral reads and changes beside the claims and the answers. -/
def deferView (s : State) : Telegram × (Nat × Nat × Nat) × Config × Bool :=
  (s.tele, (s.adm.deferrals, s.adm.promotions, s.adm.refusals), s.cfg, s.telegramsWentDark)

theorem deferClaim_view {s t : State} (h : deferView s = deferView t) (c : OwnClaim) :
    deferView (deferClaim c s) = deferView (deferClaim c t) := by
  simp only [deferView, Prod.mk.injEq] at h
  obtain ⟨htele, ⟨hd, hp, hr⟩, hcfg, hdark⟩ := h
  obtain ⟨sd, sp, sr, -, -⟩ := deferClaim_counters c s
  obtain ⟨td, tp, tr, -, -⟩ := deferClaim_counters c t
  simp only [deferView, deferClaim_tele, deferClaim_cfg, deferClaim_telegramsWentDark, sd, sp, sr, td, tp, tr,
    htele, hd, hp, hr, hcfg, hdark]

theorem applyVerdicts_view (vs : List (OwnClaim × Bool)) :
    ∀ {s t : State}, deferView s = deferView t →
      deferView (applyVerdicts vs s) = deferView (deferAll ((vs.filter fun v => !v.2).map Prod.fst) t) := by
  induction vs with
  | nil => exact fun h => h
  | cons v vs ih =>
    intro s t h
    obtain ⟨c, _ | _⟩ := v
    · exact ih (deferClaim_view h c)
    · exact ih (s := admitClaim c s) h

theorem GroupDeferred.of_view {group : List OwnClaim} {s t u : State} (h : GroupDeferred group s t)
    (hv : deferView u = deferView t) : GroupDeferred group s u := by
  simp only [deferView, Prod.mk.injEq] at hv
  obtain ⟨htele, ⟨hd, hp, hr⟩, -, -⟩ := hv
  refine ⟨?_, ?_, ?_, ?_, ?_, ?_, ?_⟩
  · rw [hd, h.deferrals]
  · rw [hp, h.promotions]
  · rw [hr, h.refusals]
  · rw [htele]; exact h.claims
  · rw [htele]; exact h.releases
  · rw [htele]; exact h.list
  · rw [htele]; exact h.slot

theorem GroupDeferred.of_base {group : List OwnClaim} {s t u : State} (h : GroupDeferred group s t)
    (hv : deferView s = deferView u) : GroupDeferred group u t := by
  simp only [deferView, Prod.mk.injEq] at hv
  obtain ⟨htele, ⟨hd, hp, hr⟩, hcfg, hdark⟩ := hv
  refine ⟨?_, ?_, ?_, ?_, ?_, ?_, ?_⟩
  · rw [← hd, h.deferrals]
  · rw [← hp, ← hcfg, h.promotions]
  · rw [← hr, ← hcfg, h.refusals]
  · rw [← htele]; exact h.claims
  · rw [← htele, ← hdark]; exact h.releases
  · rw [← htele, ← hdark]; exact h.list
  · rw [← htele]; exact h.slot

theorem tele_settleTx (s : State) : (settleTx s).tele = s.tele.settle := rfl

theorem GroupDeferred.settleTx {group : List OwnClaim} {s t : State} (h : GroupDeferred group s t) :
    GroupDeferred group s (settleTx t) where
  deferrals := h.deferrals
  promotions := h.promotions
  refusals := h.refusals
  claims := by rw [tele_settleTx, Telegram.settle_claimSchedules]; exact h.claims
  releases := by rw [tele_settleTx, Telegram.settle_releaseSchedules]; exact h.releases
  list := by rw [tele_settleTx, Telegram.settle_list]; exact h.list
  slot := by rw [tele_settleTx, Telegram.settle_slot]; exact h.slot

/-- A group of own claims decided together, by a test that was made before any of them was decided. -/
def decided (p q : OwnClaim → Bool) (l : List OwnClaim) : List (OwnClaim × Bool) := (l.filter p).map fun c => (c, q c)

theorem mem_decided {p q : OwnClaim → Bool} {l : List OwnClaim} {o : OwnClaim} {b : Bool} :
    (o, b) ∈ decided p q l ↔ o ∈ l.filter fun c => p c && q c == b := by
  simp only [decided, List.mem_map, List.mem_filter, Prod.mk.injEq, Bool.and_eq_true, beq_iff_eq]
  constructor
  · rintro ⟨c, ⟨hc, hp⟩, rfl, hq⟩
    exact ⟨hc, hp, hq⟩
  · rintro ⟨hc, hp, hq⟩
    exact ⟨o, ⟨hc, hp⟩, rfl, hq⟩

theorem decided_rejected (p q : OwnClaim → Bool) (l : List OwnClaim) :
    ((decided p q l).filter fun v => !v.2).map Prod.fst = l.filter fun c => p c && !q c := by
  simp only [decided, List.filter_map, List.map_map, List.filter_filter]
  refine (List.map_id' _).trans (List.filter_congr fun c _ => ?_)
  exact Bool.and_comm _ _

theorem decided_admitted (p q : OwnClaim → Bool) (l : List OwnClaim) :
    ((decided p q l).filter (·.2)).length = (l.filter fun c => p c && q c).length := by
  simp only [decided, List.filter_map, List.length_map, List.filter_filter]
  exact congrArg List.length (List.filter_congr fun c _ => Bool.and_comm _ _)

theorem decided_circuits {p q : OwnClaim → Bool} {l : List OwnClaim} (h : (l.map OwnClaim.circuit).Nodup) :
    ((decided p q l).map fun v => v.1.circuit).Nodup := by
  rw [decided, List.map_map]
  exact h.sublist (List.filter_sublist.map _)

theorem decided_self {p q : OwnClaim → Bool} {l : List OwnClaim} (h : (l.map OwnClaim.circuit).Nodup) :
    ∀ v ∈ decided p q l, ∀ o ∈ l, o.circuit = v.1.circuit → o = v.1 := by
  intro v hv o ho heq
  obtain ⟨c, hc, rfl⟩ := List.mem_map.1 hv
  exact List.inj_on_of_nodup_map h ho (List.mem_of_mem_filter hc) heq

end Sys2Proof.Machine

/-! # Shedding raised, heard claims, and the holdoff's expiry (O25, O26, O28) -/

namespace Sys2Proof.Machine

/-! ### A group of own claims decided at one event -/

theorem countersOk.admission {s : State} (h : countersOk s) :
    s.adm.admissions ≤ 65535 ∧ s.adm.deferrals ≤ 65535 ∧ s.adm.promotions ≤ 65535 ∧ s.adm.refusals ≤ 65535 := by
  obtain ⟨-, -, -, -, hadm, -⟩ := (countersOk_iff s).1 h
  simp only [Admission.counts, bounded_cons] at hadm
  obtain ⟨refusals, admissions, deferrals, promotions, -⟩ := hadm
  exact ⟨admissions, deferrals, promotions, refusals⟩

section
variable {s : State} (p q : OwnClaim → Bool)

theorem groupDeferred_of_verdicts (hn : (s.adm.own.map OwnClaim.circuit).Nodup) (hd : s.adm.deferrals ≤ 65535)
    (hp : s.adm.promotions ≤ 65535) (hr : s.adm.refusals ≤ 65535) :
    GroupDeferred (s.adm.own.filter fun c => p c && !q c) s (applyVerdicts (decided p q s.adm.own) s) := by
  refine .of_view ?_ (applyVerdicts_view _ rfl)
  rw [decided_rejected]
  exact deferAll_groupDeferred _ s (hn.sublist (List.filter_sublist.map _)) hd hp hr

theorem groupDeferred_of_decided (hn : (s.adm.own.map OwnClaim.circuit).Nodup) (hc : countersOk s) :
    GroupDeferred (s.adm.own.filter fun c => p c && !q c) s (settleTx (applyVerdicts (decided p q s.adm.own) s)) := by
  obtain ⟨-, deferrals, promotions, refusals⟩ := hc.admission
  exact (groupDeferred_of_verdicts p q hn deferrals promotions refusals).settleTx

theorem own_of_decided (hn : (s.adm.own.map OwnClaim.circuit).Nodup) :
    (settleTx (applyVerdicts (decided p q s.adm.own) s)).adm.own =
      s.adm.own.filterMap fun o =>
        if o ∈ s.adm.own.filter fun c => p c && q c then some { o with state := .settling s.cfg.ts }
        else if o ∈ s.adm.own.filter fun c => p c && !q c then
          if (o.deferral s.cfg).exhausted s.cfg.lr then none else some (o.deferral s.cfg)
        else some o := by
  refine (applyVerdicts_own _ s (decided_circuits hn) (decided_self hn)).trans ?_
  refine List.filterMap_congr fun o _ => ?_
  simp only [outcome, mem_decided, beq_true, beq_false]

theorem answers_of_decided (s : State) :
    (decided p q s.adm.own).filterMap (verdictAnswer s.cfg) =
      s.adm.own.filterMap fun o =>
        if o ∈ s.adm.own.filter fun c => p c && q c then some (.admitted o.circuit)
        else if o ∈ (s.adm.own.filter fun c => p c && !q c) ∧ (o.deferral s.cfg).exhausted s.cfg.lr then
          some (.refused o.circuit)
        else none := by
  rw [decided, List.filterMap_map, ← List.filterMap_eq_filter, List.filterMap_filterMap]
  refine List.filterMap_congr fun o ho => ?_
  cases hp : p o <;> cases hq : q o <;> simp [hp, hq, ho, verdictAnswer, Option.guard]

end

/-- What every decision of a group keeps of the state. -/
theorem state_of_decided (vs : List (OwnClaim × Bool)) (s : State) :
    settleTx (applyVerdicts vs s) =
      { s with
        adm := (settleTx (applyVerdicts vs s)).adm
        tele := (settleTx (applyVerdicts vs s)).tele
        handed := { s.handed with answers := s.handed.answers ++ vs.filterMap (verdictAnswer s.cfg) } } := by
  apply State.ext_fields
  case handed => simp [applyVerdicts_handed]
  all_goals simp

/-! ### The deferral without an admission (R97, R99) -/

theorem deferAll_filter (p : OwnClaim → Bool) (l : List OwnClaim) (s : State) :
    deferAll (l.filter p) s = applyVerdicts (decided p (fun _ => false) l) s := deferAll_eq _ s

section
variable {s : State} (p : OwnClaim → Bool)

theorem groupDeferred_of_deferAll (hn : (s.adm.own.map OwnClaim.circuit).Nodup) (hc : countersOk s) :
    GroupDeferred (s.adm.own.filter p) s (settleTx (deferAll (s.adm.own.filter p) s)) := by
  have h := groupDeferred_of_decided p (fun _ => false) hn hc
  simp only [Bool.not_false, Bool.and_true] at h
  rwa [deferAll_filter]

theorem own_of_deferAll (hn : (s.adm.own.map OwnClaim.circuit).Nodup) :
    (settleTx (deferAll (s.adm.own.filter p) s)).adm.own =
      s.adm.own.filterMap fun o =>
        if o ∈ s.adm.own.filter p then
          if (o.deferral s.cfg).exhausted s.cfg.lr then none else some (o.deferral s.cfg)
        else some o := by
  have h := own_of_decided p (fun _ => false) hn
  simp only [Bool.not_false, Bool.and_true, Bool.and_false, List.filter_false, List.not_mem_nil, if_false] at h
  rwa [deferAll_filter]

theorem answers_of_deferAll (s : State) :
    (settleTx (deferAll (s.adm.own.filter p) s)).handed.answers =
      s.handed.answers ++
        ((s.adm.own.filter p).filter fun o => (o.deferral s.cfg).exhausted s.cfg.lr).map fun o => .refused o.circuit
            := by
  rw [deferAll_filter, state_of_decided]
  refine congrArg (s.handed.answers ++ ·) ?_
  rw [decided, List.filterMap_map, ← List.filterMap_eq_map (f := fun o : OwnClaim => Answer.refused o.circuit)]
  exact (List.filterMap_filter ..).symm

end

/-- What deferring a group of own claims keeps of the state. -/
theorem state_of_deferAll (p : OwnClaim → Bool) (s : State) :
    settleTx (deferAll (s.adm.own.filter p) s) =
      { s with
        adm := (settleTx (deferAll (s.adm.own.filter p) s)).adm
        tele := (settleTx (deferAll (s.adm.own.filter p) s)).tele
        handed := { s.handed with answers := (settleTx (deferAll (s.adm.own.filter p) s)).handed.answers } } := by
  have h := state_of_decided (decided p (fun _ => false) s.adm.own) s
  rw [← deferAll_filter] at h
  have answers := congrArg (fun t => t.handed.answers) h
  exact h.trans (by rw [answers])

/-- What deferring a group of own claims keeps of the claims. -/
theorem adm_of_deferAll (p : OwnClaim → Bool) (s : State) (hc : countersOk s) :
    (settleTx (deferAll (s.adm.own.filter p) s)).adm.heard = s.adm.heard ∧
      (settleTx (deferAll (s.adm.own.filter p) s)).adm.admissions = s.adm.admissions ∧
      (settleTx (deferAll (s.adm.own.filter p) s)).adm.claimOverflow = s.adm.claimOverflow := by
  obtain ⟨admissions, -, -, -⟩ := hc.admission
  rw [deferAll_filter]
  refine ⟨applyVerdicts_heard _ s, (applyVerdicts_admissions _ s admissions).trans ?_, applyVerdicts_claimOverflow _ s⟩
  rw [decided_admitted]
  simp only [Bool.and_false, List.filter_false, List.length_nil]
  omega

/-! ### Shedding raised (R99) -/

/-- The effect of a shedding-raised event on the state that has taken it from the queue of its kind. -/
theorem sheddingRaised_taken {h : Handed} {s : State} (hn : (s.adm.own.map OwnClaim.circuit).Nodup)
    (hc : countersOk s) (hdark : h.dark = s.handed.dark) (hanswers : h.answers = s.handed.answers) :
    let group := s.adm.own.filter OwnClaim.inHoldoff
    let t := sheddingRaised (s.setHanded h)
    GroupDeferred group s t ∧
      t.adm.own =
        s.adm.own.filterMap (fun o =>
          if o ∈ group then
            (if (o.deferral s.cfg).exhausted s.cfg.lr then none else some (o.deferral s.cfg))
          else some o) ∧
      t.handed.answers =
        s.handed.answers ++
          (group.filter fun o => (o.deferral s.cfg).exhausted s.cfg.lr).map (fun o => .refused o.circuit) ∧
      t.adm.heard = s.adm.heard ∧ t.adm.admissions = s.adm.admissions ∧
      t.adm.claimOverflow = s.adm.claimOverflow ∧
      t = { s with adm := t.adm, tele := t.tele, handed := { h with answers := t.handed.answers } } := by
  intro group t
  have hwent : (s.setHanded h).telegramsWentDark = s.telegramsWentDark := by
    simp only [State.telegramsWentDark, State.setHanded_handed, hdark]
  obtain ⟨heard, admissions, overflow⟩ := adm_of_deferAll OwnClaim.inHoldoff (s.setHanded h) hc
  refine ⟨?_, own_of_deferAll (s := s.setHanded h) OwnClaim.inHoldoff hn, ?_, heard, admissions, overflow,
    state_of_deferAll OwnClaim.inHoldoff (s.setHanded h)⟩
  · have hd := groupDeferred_of_deferAll (s := s.setHanded h) OwnClaim.inHoldoff hn hc
    exact hd.of_base (by simp only [deferView, hwent]; rfl)
  · exact (answers_of_deferAll OwnClaim.inHoldoff (s.setHanded h)).trans (by rw [← hanswers]; rfl)

/-- Settles O25. -/
theorem sheddingDefersEveryHoldoffClaim : Obligations.SheddingDefersEveryHoldoffClaim := by
  refine ⟨fun cfg c => ⟨rfl, ?_⟩, fun c s hp hn hc hcase => ?_⟩
  · simp [OwnClaim.exhausted, OwnClaim.deferral, and_assoc]
  · intro group
    obtain ⟨rfl, hpos⟩ | ⟨rfl, hpos⟩ := hcase
    · exact ⟨_, (answer_powered hp _).trans (congrArg _ (if_pos hpos)), sheddingRaised_taken hn hc rfl rfl⟩
    · exact ⟨_, (answer_powered hp _).trans (congrArg _ (if_pos hpos)), sheddingRaised_taken hn hc rfl rfl⟩

/-! ### Heard claims (R97, R106, R108) -/

theorem HeardEntry.hasKey_iff {owner tag : Nat} {h : HeardEntry} :
    h.hasKey owner tag = true ↔ h.owner = owner ∧ h.tag = tag := by
  simp [HeardEntry.hasKey]

theorem any_hasKey_iff {owner tag : Nat} {l : List HeardEntry} :
    l.any (HeardEntry.hasKey owner tag) = true ↔ ∃ h ∈ l, h.owner = owner ∧ h.tag = tag := by
  simp only [List.any_eq_true, HeardEntry.hasKey_iff]

theorem map_hasKey (owner tag : Nat) (entry : HeardEntry) (l : List HeardEntry) :
    (l.map fun h => if h.hasKey owner tag then entry else h) =
      l.map fun h => if h.owner = owner ∧ h.tag = tag then entry else h := by
  simp only [HeardEntry.hasKey_iff]

section
variable {owner tag effective amount hold : Nat} {s : State}

theorem hearClaim_of_no_hold (hon : s.mc.mode.online = true) :
    hearClaim owner tag effective amount 0 s = removeHeard owner tag s := by
  simp [hearClaim, hon]

theorem hearClaim_of_known (hon : s.mc.mode.online = true) (hh : hold ≠ 0)
    (hk : ∃ h ∈ s.adm.heard, h.owner = owner ∧ h.tag = tag) :
    hearClaim owner tag effective amount hold s =
      testAgainst ⟨owner, tag, amount, effective, hold⟩
        (setHeard
          (s.adm.heard.map fun h =>
            if h.owner = owner ∧ h.tag = tag then ⟨owner, tag, amount, effective, hold⟩ else h) s) := by
  simp only [hearClaim, hon, hh, any_hasKey_iff.2 hk, map_hasKey, Bool.not_true, Bool.false_eq_true, if_false, if_true]

theorem hearClaim_of_new (hon : s.mc.mode.online = true) (hh : hold ≠ 0)
    (hk : ¬∃ h ∈ s.adm.heard, h.owner = owner ∧ h.tag = tag) (hroom : s.adm.heard.length < 7) :
    hearClaim owner tag effective amount hold s =
      testAgainst ⟨owner, tag, amount, effective, hold⟩
        (setHeard (s.adm.heard ++ [⟨owner, tag, amount, effective, hold⟩]) s) := by
  simp only [hearClaim, hon, hh, mt any_hasKey_iff.1 hk, hroom, Bool.not_true, Bool.false_eq_true, if_false, if_true]

theorem hearClaim_of_overflow (hon : s.mc.mode.online = true) (hh : hold ≠ 0)
    (hk : ¬∃ h ∈ s.adm.heard, h.owner = owner ∧ h.tag = tag) (hroom : ¬s.adm.heard.length < 7) :
    hearClaim owner tag effective amount hold s =
      s.setAdm { s.adm with claimOverflow := satInc s.adm.claimOverflow } := by
  simp only [hearClaim, hon, hh, mt any_hasKey_iff.1 hk, hroom, Bool.not_true, Bool.false_eq_true, if_false]

/-- Where no own claim is in HOLDOFF and the transmitter is settled, the test changes nothing. -/
theorem testAgainst_of_none (h : HeardEntry) (hn : ∀ c ∈ s.adm.own, c.inHoldoff = false)
    (ht : s.tele.settle = s.tele) : testAgainst h s = s := by
  have hgroup :
      (s.adm.own.filter fun c => c.inHoldoff && precedes h.key (c.key s.loader.strapLatch) && !headroom s c) = [] :=
    List.filter_eq_nil_iff.2 fun c hc => by simp [hn c hc]
  rw [testAgainst, hgroup]
  exact congrArg s.setTele ht

theorem exec_heardClaim_of_claim {rest : List HeardTelegram} (hp : s.powered = true)
    (hh : s.handed.heard = .claim owner tag effective amount hold :: rest) :
    exec .heardClaim s =
      .next (hearClaim owner tag effective amount hold (s.setHanded { s.handed with heard := rest })) := by
  refine (answer_powered hp _).trans ?_
  rw [hh]

theorem exec_heardRelease_of_release {rest : List HeardTelegram} (hp : s.powered = true)
    (hh : s.handed.heard = .release owner tag :: rest) :
    exec .heardRelease s = .next (hearRelease owner tag (s.setHanded { s.handed with heard := rest })) := by
  refine (answer_powered hp _).trans ?_
  rw [hh]

end

/-- A heard CLAIM that is entered or refreshed tests the own claims in HOLDOFF, with the claim in the list (R97). -/
theorem hearClaim_tested {owner tag effective amount hold : Nat} {rest : List HeardTelegram} {s : State}
    (hon : s.mc.mode.online = true) (hpos : 0 < hold)
    (hcase : (∃ h ∈ s.adm.heard, h.owner = owner ∧ h.tag = tag) ∨ s.adm.heard.length < 7)
    (heard : List HeardEntry)
    (hheard : heard =
      if ∃ h ∈ s.adm.heard, h.owner = owner ∧ h.tag = tag then
        s.adm.heard.map fun h =>
          if h.owner = owner ∧ h.tag = tag then ⟨owner, tag, amount, effective, hold⟩ else h
      else s.adm.heard ++ [⟨owner, tag, amount, effective, hold⟩]) :
    hearClaim owner tag effective amount hold (s.setHanded { s.handed with heard := rest }) =
      testAgainst ⟨owner, tag, amount, effective, hold⟩
        (setHeard heard (s.setHanded { s.handed with heard := rest })) := by
  have hne : hold ≠ 0 := Nat.pos_iff_ne_zero.1 hpos
  by_cases hk : ∃ h ∈ s.adm.heard, h.owner = owner ∧ h.tag = tag
  · rw [hheard, if_pos hk]
    exact hearClaim_of_known (s := s.setHanded _) hon hne hk
  · rw [hheard, if_neg hk]
    exact hearClaim_of_new (s := s.setHanded _) hon hne hk (hcase.resolve_left hk)

/-- Settles O26. -/
theorem heardClaimsEnterAndLeave : Obligations.HeardClaimsEnterAndLeave := by
  refine ⟨?_, ?_, fun owner tag rest s hp hon hh => ?_, fun h rest s hp hoff hh => ?_⟩
  · intro owner tag effective amount hold rest s hp hon hh known hcase entry
    rw [exec_heardClaim_of_claim hp hh]
    refine congrArg _ ?_
    let v := s.setHanded { s.handed with heard := rest }
    have hquiet : ∀ heard : List HeardEntry, ¬hold = 0 → (known ∨ s.adm.heard.length < 7) →
        testAgainst entry (setHeard heard v) = setHeard heard v := by
      intro heard hne hentered
      obtain h | ⟨h, h'⟩ | ⟨hnone, hsettled⟩ := hcase
      · exact absurd h hne
      · exact absurd (hentered.resolve_left h) (Nat.not_lt.2 h')
      · exact testAgainst_of_none (s := setHeard heard v) entry hnone hsettled
    by_cases h0 : hold = 0
    · subst h0
      rw [if_pos rfl]
      exact hearClaim_of_no_hold (s := v) hon
    · rw [if_neg h0]
      by_cases hk : known
      · rw [if_pos hk]
        exact (hearClaim_of_known (s := v) hon h0 hk).trans (hquiet _ h0 (.inl hk))
      · rw [if_neg hk]
        by_cases hroom : s.adm.heard.length < 7
        · rw [if_pos hroom]
          exact (hearClaim_of_new (s := v) hon h0 hk hroom).trans (hquiet _ h0 (.inr hroom))
        · rw [if_neg hroom]
          exact hearClaim_of_overflow (s := v) hon h0 hk hroom
  · intro owner tag effective amount hold rest s hp hon hh hn hc hpos known hcase entry heard tested own group
    let u := setHeard heard (s.setHanded { s.handed with heard := rest })
    let p : OwnClaim → Bool := fun c => c.inHoldoff && precedes entry.key (c.key s.loader.strapLatch) && !headroom u c
    have hgroup : u.adm.own.filter p = group := by
      refine List.filter_congr fun o _ => ?_
      simp only [p, precedes_eq_decide]
      rfl
    have htaken : exec .heardClaim s = .next (settleTx (deferAll (u.adm.own.filter p) u)) := by
      rw [exec_heardClaim_of_claim hp hh]
      exact congrArg _ (hearClaim_tested hon hpos hcase heard rfl)
    obtain ⟨kept, admissions, overflow⟩ := adm_of_deferAll p u hc
    have hd : GroupDeferred _ s _ := (groupDeferred_of_deferAll (s := u) p hn hc).of_base rfl
    have hown := own_of_deferAll (s := u) p hn
    have hanswers := answers_of_deferAll p u
    have hrest := state_of_deferAll p u
    simp only [hgroup] at htaken kept admissions overflow hd hown hanswers hrest
    exact ⟨_, htaken, hd, kept, hown, hanswers, admissions, overflow, hrest⟩
  · rw [exec_heardRelease_of_release hp hh, hearRelease]
    exact congrArg _ (if_pos hon)
  · cases h with
    | claim owner tag effective amount hold =>
      refine (exec_heardClaim_of_claim hp hh).trans (congrArg _ ?_)
      have hoff' : (!s.mc.mode.online) = true := by rw [hoff]; rfl
      exact if_pos hoff'
    | release owner tag =>
      rw [exec_heardRelease_of_release hp hh, hearRelease]
      exact congrArg _ (if_neg (by simp [hoff]))

end Sys2Proof.Machine

/-! # The holdoff's expiry, the other timers of the claims, and the requests (O28, O27, O29) -/

namespace Sys2Proof.Machine

/-! ### Claims that leave without a RELEASE (R104, R110) -/

/-- `u` differs from `t` in the queue, the schedules and the transmitter at most. -/
def Telegram.SameApart (t u : Telegram) : Prop :=
  u =
    { t with
      list := u.list
      claimSchedules := u.claimSchedules
      releaseSchedules := u.releaseSchedules
      tx := u.tx
      gapTimer := u.gapTimer }

theorem Telegram.SameApart.trans {t u v : Telegram} (h : t.SameApart u) (h' : u.SameApart v) : t.SameApart v := by
  unfold Telegram.SameApart at *
  rw [h'] ; rw [h]

theorem Telegram.sameApart_settle (t : Telegram) : t.SameApart t.settle := by
  unfold Telegram.SameApart
  rw [settle_keeps]

theorem settleOutAll_sameApart (l : List OwnClaim) (s : State) : s.tele.SameApart (settleOutAll l s).tele := by
  induction l generalizing s with
  | nil => rfl
  | cons c rest ih =>
    have hfirst : s.tele.SameApart (settleOut c.circuit s).tele := rfl
    exact hfirst.trans (ih (settleOut c.circuit s))

theorem settleOutAll_releaseSchedules (l : List OwnClaim) (s : State) :
    (settleOutAll l s).tele.releaseSchedules = s.tele.releaseSchedules := by
  induction l generalizing s with
  | nil => rfl
  | cons c rest ih => exact ih (settleOut c.circuit s)

theorem mem_circuits_filter {l : List OwnClaim} (hn : (l.map OwnClaim.circuit).Nodup) {p : OwnClaim → Bool}
    {c : OwnClaim} (hc : c ∈ l) : c.circuit ∈ (l.filter p).map OwnClaim.circuit ↔ p c = true := by
  constructor
  · intro h
    obtain ⟨d, hd, heq⟩ := List.mem_map.1 h
    obtain ⟨hd, hp⟩ := List.mem_filter.1 hd
    rwa [← List.inj_on_of_nodup_map hn hd hc heq]
  · exact fun hp => List.mem_map.2 ⟨c, List.mem_filter.2 ⟨hc, hp⟩, rfl⟩

theorem settleOutAll_filter {s : State} (hn : (s.adm.own.map OwnClaim.circuit).Nodup) (p : OwnClaim → Bool) :
    (settleOutAll (s.adm.own.filter p) s).adm.own = s.adm.own.filter fun c => !p c := by
  rw [settleOutAll_own]
  refine List.filter_congr fun c hc => congrArg _ ?_
  rw [List.contains_eq_mem]
  exact Bool.eq_iff_iff.2 (decide_eq_true_iff.trans (mem_circuits_filter hn hc))

theorem settleOutAll_adm (l : List OwnClaim) (s : State) :
    (settleOutAll l s).adm = { s.adm with own := (settleOutAll l s).adm.own } := by
  induction l generalizing s with
  | nil => rfl
  | cons c rest ih => exact ih (settleOut c.circuit s)

/-! ### The holdoff's expiry (R96, R98) -/

/-- A claim one tick from its holdoff expiry reaches it. -/
def OwnClaim.atExpiry (c : OwnClaim) : OwnClaim := if c.state = .holdoff 1 then { c with state := .holdoff 0 } else c

theorem OwnClaim.atExpiry_circuit (c : OwnClaim) : c.atExpiry.circuit = c.circuit := by
  unfold OwnClaim.atExpiry
  split <;> rfl

theorem map_atExpiry_circuit (l : List OwnClaim) :
    (l.map OwnClaim.atExpiry).map OwnClaim.circuit = l.map OwnClaim.circuit := by
  rw [List.map_map]
  exact List.map_congr_left fun c _ => c.atExpiry_circuit

theorem OwnClaim.atExpiry_expired {c : OwnClaim} (h : c.state ≠ .holdoff 0) :
    (c.atExpiry.state == .holdoff 0) = (c.state == .holdoff 1) := by
  unfold OwnClaim.atExpiry
  split
  case isTrue hc => simp [hc]
  case isFalse hc => rw [beq_eq_false_iff_ne.2 h, beq_eq_false_iff_ne.2 hc]

theorem map_atExpiry_expired {l : List OwnClaim} (hnone : ∀ c ∈ l, c.state ≠ .holdoff 0) :
    ((l.map OwnClaim.atExpiry).filter fun c => c.state == .holdoff 0).map OwnClaim.circuit =
      (l.filter fun c => c.state == .holdoff 1).map OwnClaim.circuit := by
  rw [List.filter_map, map_atExpiry_circuit]
  exact congrArg _ (List.filter_congr fun c hc => OwnClaim.atExpiry_expired (hnone c hc))

theorem map_atExpiry_standing {l : List OwnClaim} (hnone : ∀ c ∈ l, c.state ≠ .holdoff 0) :
    ((l.map OwnClaim.atExpiry).filter fun c => !(c.state == .holdoff 0)) = l.filter fun c => c.state != .holdoff 1 := by
  rw [List.filter_map]
  have hsame : (l.filter ((fun c => !(c.state == .holdoff 0)) ∘ OwnClaim.atExpiry)) =
      l.filter fun c => c.state != .holdoff 1 :=
    List.filter_congr fun c hc => congrArg _ (OwnClaim.atExpiry_expired (hnone c hc))
  rw [hsame]
  refine (List.map_congr_left fun c hc => ?_).trans (List.map_id' _)
  exact if_neg (bne_iff_ne.1 (List.mem_filter.1 hc).2)

/-- Settles O28. -/
theorem holdoffExpiryDecidesTheGroup : Obligations.HoldoffExpiryDecidesTheGroup := by
  intro s hp hn hnone hc
  let u := setOwn (s.adm.own.map OwnClaim.atExpiry) s
  have hnu : (u.adm.own.map OwnClaim.circuit).Nodup := (map_atExpiry_circuit _).symm ▸ hn
  have htaken : exec .holdoffExpiry s = .next (settleTx (decideGroup u)) := answer_powered hp _
  refine ⟨fun hrun => ?_, fun hrun => ?_⟩
  · have hgroup : decideGroup u = settleOutAll (u.adm.own.filter fun c => c.state == .holdoff 0) u := if_neg hrun
    rw [htaken, hgroup]
    refine ⟨_, rfl, ?_⟩
    intro gone
    have hgone : (u.adm.own.filter fun c => c.state == .holdoff 0).map OwnClaim.circuit = gone :=
      map_atExpiry_expired hnone
    refine ⟨fun k => ?_, ?_⟩
    · rw [tele_settleTx, Telegram.settle_claimSchedules, settleOutAll_claimSchedules, hgone]
      rfl
    · apply State.ext_fields
      case tele =>
        have hlist : (settleOutAll (u.adm.own.filter fun c => c.state == .holdoff 0) u).tele.list =
            s.tele.list.filter fun c => !(gone.map Copy.claim).contains c := by
          rw [settleOutAll_list, ← hgone, List.map_map]
          rfl
        have hapart := (settleOutAll_sameApart (u.adm.own.filter fun c => c.state == .holdoff 0) u).trans
          (Telegram.sameApart_settle _)
        unfold Telegram.SameApart at hapart
        rw [Telegram.settle_list, hlist, Telegram.settle_releaseSchedules, settleOutAll_releaseSchedules] at hapart
        exact hapart
      case adm =>
        refine (settleOutAll_adm _ u).trans ?_
        rw [settleOutAll_filter hnu]
        exact congrArg (fun own => { s.adm with own := own }) (map_atExpiry_standing hnone)
      all_goals simp [u]
  · intro own tested admitted group
    have hgroup : decideGroup u = applyVerdicts (decided (fun c => c.state == .holdoff 0) (headroom u) u.adm.own) u :=
      if_pos hrun
    rw [htaken, hgroup]
    obtain ⟨admissions, -, -, -⟩ := hc.admission
    refine ⟨_, rfl, (groupDeferred_of_decided (s := u) _ _ hnu hc).of_base rfl, own_of_decided (s := u) _ _ hnu,
      applyVerdicts_heard _ u, applyVerdicts_claimOverflow _ u, ?_, ?_, ?_⟩
    · refine (applyVerdicts_admissions _ u admissions).trans ?_
      rw [decided_admitted]
      rfl
    · exact (congrArg Handed.answers (applyVerdicts_handed _ u)).trans
        (congrArg (s.handed.answers ++ ·) (answers_of_decided _ _ u))
    · have hstate := state_of_decided (decided (fun c => c.state == .holdoff 0) (headroom u) u.adm.own) u
      have hanswers := congrArg (fun t => t.handed.answers) hstate
      exact hstate.trans (by rw [hanswers]; rfl)

end Sys2Proof.Machine

/-! # Creation and withdrawal, and the other timers of the claims (O27, O29) -/

namespace Sys2Proof.Machine

/-! ### Creation (R91) -/

theorem ownOf_isSome_iff {a : Admission} {k : Circ} : (a.ownOf k).isSome = true ↔ ∃ c ∈ a.own, c.circuit = k := by
  simp [Admission.ownOf]

section
variable {k : Circ} {amount cls : Nat} {restore : Bool} {s : State}

theorem createClaim_of_discarded (h : s.mc.mode ≠ .run ∨ ∃ c ∈ s.adm.own, c.circuit = k) :
    createClaim k amount cls restore s = s := by
  unfold createClaim
  by_cases hrun : s.mc.mode = .run
  · have hheld := ownOf_isSome_iff.2 (h.resolve_left fun hne => hne hrun)
    rw [if_neg (by simp [hrun]), if_pos hheld]
  · exact if_pos (bne_iff_ne.2 hrun)

theorem createClaim_of_taken (h : ¬(s.mc.mode ≠ .run ∨ ∃ c ∈ s.adm.own, c.circuit = k)) :
    createClaim k amount cls restore s =
      if s.cfg.lc < amount then
        handAnswer (.refused k) (s.setAdm { s.adm with refusals := satInc s.adm.refusals })
      else setOwn (s.adm.own ++ [newClaim k amount cls restore]) s := by
  obtain ⟨hrun, hnew⟩ := not_or.1 h
  rw [createClaim, if_neg (by simpa using hrun), if_neg (mt ownOf_isSome_iff.1 hnew)]

theorem exec_creationRequest_of_create {rest : List Request} (hp : s.powered = true)
    (hr : s.handed.requests = .create k amount cls restore :: rest) :
    exec .creationRequest s =
      .next (createClaim k amount cls restore (s.setHanded { s.handed with requests := rest })) := by
  refine (answer_powered hp _).trans ?_
  rw [hr]

end

/-! ### Withdrawal (R105) -/

section
variable {k : Circ} {s : State}

theorem exec_withdrawal_of_withdraw {rest : List Request} (hp : s.powered = true)
    (hr : s.handed.requests = .withdraw k :: rest) :
    exec .withdrawal s = .next (withdrawClaim k (s.setHanded { s.handed with requests := rest })) := by
  refine (answer_powered hp _).trans ?_
  rw [hr]

theorem withdrawClaim_of_announced {c : OwnClaim} (hc : s.adm.ownOf k = some c)
    (ha : (c.inHoldoff || c.inSettling) = true) :
    withdrawClaim k s = settleTx (startReleaseSchedule k (endClaimSchedule k (removeOwn k s))) := by
  simp only [withdrawClaim, hc, ha, if_true]

theorem withdrawClaim_of_silent {c : OwnClaim} (hc : s.adm.ownOf k = some c)
    (ha : (c.inHoldoff || c.inSettling) = false) : withdrawClaim k s = removeOwn k s := by
  simp only [withdrawClaim, hc, ha, Bool.false_eq_true, if_false]

/-- The telegrams of a RELEASE that takes the place of the CLAIM's (R59, R100, R105). -/
theorem release_after_claim (k : Circ) (s : State) :
    let t := (startReleaseSchedule k (endClaimSchedule k s)).tele
    t.claimSchedules = s.tele.claimSchedules.set k none ∧ t.slot = s.tele.slot ∧
      t.releaseSchedules = s.tele.releaseSchedules.set k (if s.telegramsWentDark then none else some ⟨2, none⟩) ∧
      t.list =
        (s.tele.list.filter fun x => x != .claim k && x != .release k) ++
          if s.telegramsWentDark then [] else [.release k] := by
  have hlist : (s.tele.list.filter (· != .claim k)).filter (· != .release k) =
      s.tele.list.filter fun x => x != .claim k && x != .release k := by
    rw [List.filter_filter]
    exact List.filter_congr fun x _ => Bool.and_comm _ _
  cases hdark : s.telegramsWentDark <;>
    simp [startReleaseSchedule, endReleaseSchedule, endClaimSchedule, joinCopy, hdark, hlist]

end

/-- Settles O27. -/
theorem creationAndWithdrawal : Obligations.CreationAndWithdrawal := by
  refine ⟨fun k amount cls restore rest s hp hr => ?_, fun k c rest s hp hr hc => ?_⟩
  · let v := s.setHanded { s.handed with requests := rest }
    rw [exec_creationRequest_of_create hp hr]
    refine congrArg _ ?_
    by_cases h : s.mc.mode ≠ .run ∨ ∃ c ∈ s.adm.own, c.circuit = k
    · rw [if_pos h]
      exact createClaim_of_discarded (s := v) h
    · rw [if_neg h]
      exact createClaim_of_taken (s := v) h
  · let v := s.setHanded { s.handed with requests := rest }
    rw [exec_withdrawal_of_withdraw hp hr]
    cases ha : c.inHoldoff || c.inSettling with
    | false =>
      rw [withdrawClaim_of_silent (s := v) hc ha]
      refine ⟨_, rfl, rfl, rfl, fun _ => rfl, ?_⟩
      rintro ⟨n, hn | hn⟩ <;> simp [OwnClaim.inHoldoff, OwnClaim.inSettling, hn] at ha
    | true =>
      rw [withdrawClaim_of_announced (s := v) hc ha]
      obtain ⟨hclaims, hslot, hreleases, hlist⟩ := release_after_claim k (removeOwn k v)
      refine ⟨_, rfl, by simp [removeOwn, setOwn, v], ?_, ?_, fun _ => ⟨?_, ?_, ?_⟩⟩
      · apply State.ext_fields <;> simp [v]
      · rintro (hn | ⟨n, hn⟩) <;> simp [OwnClaim.inHoldoff, OwnClaim.inSettling, hn] at ha
      · rw [tele_settleTx, Telegram.settle_claimSchedules]
        exact hclaims
      · rw [tele_settleTx, Telegram.settle_slot]
        exact hslot
      · intro others
        rw [tele_settleTx, Telegram.settle_list, Telegram.settle_releaseSchedules]
        have hdark : (removeOwn k v).telegramsWentDark = (s.handed.dark.admission && !s.handed.dark.telegram) := rfl
        rw [hdark] at hreleases hlist
        refine ⟨fun h => ?_, fun h h' => ?_⟩
        · have hd : (s.handed.dark.admission && !s.handed.dark.telegram) = false := by
            obtain h | h := h <;> simp [h]
          rw [hd] at hreleases hlist
          exact ⟨hreleases, hlist⟩
        · rw [h, h'] at hreleases hlist
          exact ⟨hreleases, hlist.trans (List.append_nil _)⟩

/-! ### The timers of the claims (R103, R104, R107) -/

/-- The one claim of a list whose backoff stands at 0 rejoins QUEUED at the last place. -/
theorem rejoin_of_split {c : OwnClaim} {before after : List OwnClaim} (hb : ∀ d ∈ before, d.state ≠ .deferred 0)
    (ha : ∀ d ∈ after, d.state ≠ .deferred 0) :
    rejoin (before ++ { c with state := .deferred 0 } :: after) = before ++ after ++ [{ c with state := .queued }] := by
  have stands : ∀ l : List OwnClaim, (∀ d ∈ l, d.state ≠ .deferred 0) →
      (l.filter fun d => d.state != .deferred 0) = l ∧ (l.filter fun d => d.state == .deferred 0) = [] := fun l hl =>
    ⟨List.filter_eq_self.2 fun d hd => bne_iff_ne.2 (hl d hd),
      List.filter_eq_nil_iff.2 fun d hd => by simpa using hl d hd⟩
  obtain ⟨hb, hb'⟩ := stands before hb
  obtain ⟨ha, ha'⟩ := stands after ha
  rw [rejoin, List.filter_append, List.filter_append, hb, hb', List.filter_cons_of_neg (by simp),
    List.filter_cons_of_pos (by simp), ha, ha']
  rfl

/-- Settles O29. -/
theorem claimTimersExpire : Obligations.ClaimTimersExpire := by
  refine ⟨fun c before after s hp hown hc hothers => ?_, fun c s hp hown hc => ?_, fun owner tag s hp => ?_⟩
  · have hbefore := fun d hd => hothers d (List.mem_append_left after hd)
    have hafter := fun d hd => hothers d (List.mem_append_right before hd)
    have hmap : (s.adm.own.map fun d =>
          if d.circuit = c.circuit ∧ d.state = .deferred 1 then { d with state := .deferred 0 } else d) =
        before ++ { c with state := .deferred 0 } :: after := by
      have stands : ∀ l : List OwnClaim, (∀ d ∈ l, d.circuit ≠ c.circuit ∧ d.state ≠ .deferred 0) →
          (l.map fun d =>
            if d.circuit = c.circuit ∧ d.state = .deferred 1 then { d with state := .deferred 0 } else d) = l := fun
                l hl =>
        (List.map_congr_left fun d hd => if_neg fun h => (hl d hd).1 h.1).trans (List.map_id' l)
      rw [hown, List.map_append, List.map_cons, if_pos ⟨rfl, hc⟩, stands before hbefore, stands after hafter]
    refine (answer_powered hp _).trans ?_
    rw [hmap, rejoin_of_split (fun d hd => (hbefore d hd).2) fun d hd => (hafter d hd).2]
    rfl
  · have hdue : ((s.adm.ownOf c.circuit).any fun c => c.state == .settling 1) = true := by simp [hown, hc]
    refine ⟨_, (answer_powered hp _).trans (congrArg _ (if_pos hdue)), rfl, ?_, ?_, ?_, rfl⟩
    · rw [tele_settleTx, Telegram.settle_claimSchedules]
      exact five_get_set_self ..
    · rw [tele_settleTx, Telegram.settle_list]
      rfl
    · rw [tele_settleTx, Telegram.settle_releaseSchedules]
      rfl
  · exact answer_powered hp _

end Sys2Proof.Machine

/-! # The Admission Controller's tick (O7) -/

namespace Sys2Proof.Machine

/-! ### The queue advance (R92, R93) -/

/-- A claim that is in a list enters HOLDOFF. -/
def heldOff (th : Nat) (l : List OwnClaim) (c : OwnClaim) : OwnClaim := if c ∈ l then { c with state := .holdoff th }
    else c

/-- A waiting copy stays: a CLAIM unless its tag is in the first list,
    a RELEASE unless its tag is in the second (R49). -/
def Copy.kept (claims releases : List Circ) : Copy → Bool
  | .claim k => decide (k ∉ claims)
  | .release k => decide (k ∉ releases)

/-- QUEUED claims entered HOLDOFF, oldest first, as far as the mode, the SHEDDING flags and the commitment let them
(R92); each has its CLAIM schedule with its first copy waiting, and no RELEASE schedule (R57, R59). -/
structure QueueAdvanced (advanced waiting : List OwnClaim) (t u : State) : Prop where
  split : t.adm.own.filter OwnClaim.isQueued = advanced ++ waiting
  adm : u.adm = { t.adm with own := t.adm.own.map (heldOff t.cfg.th advanced) }
  fits :
    advanced ≠ [] →
      t.mc.mode = .run ∧ t.anyShedding = false ∧ t.adm.commitment + (advanced.map OwnClaim.amount).sum ≤ t.cfg.lc
  stops : ∀ c ∈ waiting.head?,
    t.mc.mode ≠ .run ∨ t.anyShedding = true ∨
      t.cfg.lc < t.adm.commitment + (advanced.map OwnClaim.amount).sum + c.amount
  claims : ∀ k,
    u.tele.claimSchedules.get k =
      if k ∈ advanced.map OwnClaim.circuit then some ⟨t.cfg.nrep, none⟩ else t.tele.claimSchedules.get k
  releases : ∀ k,
    u.tele.releaseSchedules.get k =
      if k ∈ advanced.map OwnClaim.circuit then none else t.tele.releaseSchedules.get k
  list :
    u.tele.list =
      (t.tele.list.filter (Copy.kept [] (advanced.map OwnClaim.circuit))) ++
        (advanced.map OwnClaim.circuit).map Copy.claim
  apart : t.tele.SameApart u.tele

theorem mayAdvance_iff {s : State} {c : OwnClaim} :
    mayAdvance s c = true ↔
      s.mc.mode = .run ∧ s.anyShedding = false ∧ s.adm.commitment + c.amount ≤ s.cfg.lc := by
  simp [mayAdvance, and_assoc]

section
variable {s : State} {c : OwnClaim} (hn : (s.adm.own.map OwnClaim.circuit).Nodup) (hc : c ∈ s.adm.own)
include hn hc

/-- In a list in which circuits do not repeat, it is the claim itself that enters HOLDOFF. -/
theorem enterHoldoff_own_of_mem :
    (enterHoldoff c s).adm.own = s.adm.own.map (heldOff s.cfg.th [c]) := by
  rw [enterHoldoff_own]
  refine List.map_congr_left fun d hd => ?_
  by_cases hdc : d.circuit = c.circuit
  · rw [if_pos hdc, heldOff, if_pos (List.mem_singleton.2 (List.inj_on_of_nodup_map hn hd hc hdc))]
  · rw [if_neg hdc, heldOff, if_neg]
    exact fun h => hdc (congrArg _ (List.mem_singleton.1 h))

theorem enterHoldoff_commitment (hq : c.state = .queued) :
    (enterHoldoff c s).adm.commitment = s.adm.commitment + c.amount := by
  have each : ∀ d ∈ s.adm.own,
      (heldOff s.cfg.th [c] d).weight = d.weight + if d.circuit = c.circuit then d.amount else 0 := by
    intro d hd
    by_cases hdc : d.circuit = c.circuit
    · obtain rfl := List.inj_on_of_nodup_map hn hd hc hdc
      simp [heldOff, OwnClaim.weight, OwnClaim.committed, OwnClaim.inHoldoff, OwnClaim.inSettling, hq]
    · have hne : d ≠ c := fun h => hdc (congrArg _ h)
      simp [heldOff, hdc, hne]
  rw [commitment_eq, commitment_eq, enterHoldoff_own_of_mem hn hc, List.map_map]
  refine (congrArg List.sum (List.map_congr_left each)).trans ?_
  rw [List.sum_map_add, OwnOk.sum_of_circuit hn hc]

end

theorem heldOff_circuit (th : Nat) (l : List OwnClaim) (c : OwnClaim) : (heldOff th l c).circuit = c.circuit := by
  unfold heldOff
  split <;> rfl

theorem map_heldOff_circuit (th : Nat) (l own : List OwnClaim) :
    (own.map (heldOff th l)).map OwnClaim.circuit = own.map OwnClaim.circuit := by
  rw [List.map_map]
  exact List.map_congr_left fun c _ => heldOff_circuit th l c

theorem heldOff_isQueued_iff {th : Nat} {l : List OwnClaim} {c : OwnClaim} :
    (heldOff th l c).isQueued = (c.isQueued && decide (c ∉ l)) := by
  by_cases hc : c ∈ l <;> simp [heldOff, OwnClaim.isQueued, hc]

/-- The claims that still wait are those behind the one that entered HOLDOFF. -/
theorem filter_isQueued_heldOff {th : Nat} {own rest : List OwnClaim} {c : OwnClaim} (hn : (own.map
    OwnClaim.circuit).Nodup)
    (hq : own.filter OwnClaim.isQueued = c :: rest) :
    (own.map (heldOff th [c])).filter OwnClaim.isQueued = rest := by
  have hnodup : (c :: rest).Nodup := hq ▸ (List.Nodup.of_map _ hn).filter _
  have hwait : own.filter (OwnClaim.isQueued ∘ heldOff th [c]) = rest := by
    calc own.filter (OwnClaim.isQueued ∘ heldOff th [c])
        = (own.filter OwnClaim.isQueued).filter fun d => decide (d ∉ [c]) := by
          rw [List.filter_filter]
          exact List.filter_congr fun d _ => heldOff_isQueued_iff.trans (Bool.and_comm _ _)
      _ = rest := by
          rw [hq, List.filter_cons_of_neg (by simp)]
          exact List.filter_eq_self.2 fun d hd => by
            simpa using fun h : d = c => (List.nodup_cons.1 hnodup).1 (h ▸ hd)
  rw [List.filter_map, hwait]
  refine (List.map_congr_left fun d hd => if_neg ?_).trans (List.map_id' _)
  exact fun h => (List.nodup_cons.1 hnodup).1 (List.mem_singleton.1 h ▸ hd)

theorem enterHoldoff_tele (c : OwnClaim) (s : State) :
    (enterHoldoff c s).tele.claimSchedules = s.tele.claimSchedules.set c.circuit (some ⟨s.cfg.nrep, none⟩) ∧
      (enterHoldoff c s).tele.releaseSchedules = s.tele.releaseSchedules.set c.circuit none ∧
      (enterHoldoff c s).tele.list = (s.tele.list.filter (· != .release c.circuit)) ++ [.claim c.circuit] ∧
      s.tele.SameApart (enterHoldoff c s).tele := ⟨rfl, rfl, rfl, rfl⟩

theorem oldestQueued_eq (a : Admission) : a.oldestQueued = (a.own.filter OwnClaim.isQueued).head? :=
  List.head?_filter.symm

theorem QueueAdvanced.none {t : State} (h : ∀ c ∈ t.adm.oldestQueued, mayAdvance t c = false) :
    QueueAdvanced [] (t.adm.own.filter OwnClaim.isQueued) t t where
  split := rfl
  adm := by
    have hsame : t.adm.own.map (heldOff t.cfg.th []) = t.adm.own :=
      (List.map_congr_left fun c _ => if_neg List.not_mem_nil).trans (List.map_id' _)
    rw [hsame]
  fits h := absurd rfl h
  stops c hc := by
    have hno := h c (oldestQueued_eq t.adm ▸ hc)
    by_contra hall
    obtain ⟨hrun, hshed, hfit⟩ := (not_or.1 hall).imp_right not_or.1
    have := mayAdvance_iff.2 ⟨not_not.1 hrun, by simpa using hshed, Nat.not_lt.1 hfit⟩
    exact Bool.false_ne_true (hno.symm.trans this)
  claims _ := rfl
  releases _ := rfl
  list := by
    refine ((List.append_nil _).trans (List.filter_eq_self.2 fun c _ => ?_)).symm
    cases c <;> simp [Copy.kept]
  apart := rfl

theorem QueueAdvanced.cons {c : OwnClaim} {rest advanced waiting : List OwnClaim} {t u : State}
    (hn : (t.adm.own.map OwnClaim.circuit).Nodup) (hq : t.adm.own.filter OwnClaim.isQueued = c :: rest)
    (hmay : mayAdvance t c = true) (h : QueueAdvanced advanced waiting (enterHoldoff c t) u) :
    QueueAdvanced (c :: advanced) waiting t u := by
  have hmem : c ∈ t.adm.own ∧ c.isQueued = true := List.mem_filter.1 (hq ▸ List.mem_cons_self)
  have hcom := enterHoldoff_commitment hn hmem.1 (by simpa [OwnClaim.isQueued] using hmem.2)
  have hown := enterHoldoff_own_of_mem hn hmem.1
  have hrest : rest = advanced ++ waiting := by rw [← h.split, hown, filter_isQueued_heldOff hn hq]
  have hnodup : (c :: rest).Nodup := hq ▸ (List.Nodup.of_map _ hn).filter _
  have hcn : c ∉ advanced := fun hc =>
    (List.nodup_cons.1 hnodup).1 (hrest ▸ List.mem_append_left _ hc)
  obtain ⟨tclaims, treleases, tlist, tapart⟩ := enterHoldoff_tele c t
  obtain ⟨hrun, hshed, hfit⟩ := mayAdvance_iff.1 hmay
  refine ⟨?_, ?_, fun _ => ⟨hrun, hshed, ?_⟩, fun d hd => ?_, fun k => ?_, fun k => ?_, ?_, ?_⟩
  · rw [hq, hrest]
    rfl
  · have hadm : u.adm = { t.adm with own := (t.adm.own.map (heldOff t.cfg.th [c])).map (heldOff t.cfg.th advanced) } :=
      hown ▸ h.adm
    have hqueued : ∀ d ∈ advanced, d.isQueued = true := fun d hd => by
      have hd' : d ∈ (enterHoldoff c t).adm.own.filter OwnClaim.isQueued := h.split ▸ List.mem_append_left _ hd
      exact (List.mem_filter.1 hd').2
    rw [hadm, List.map_map]
    refine congrArg (fun own => { t.adm with own := own }) (List.map_congr_left fun d _ => ?_)
    by_cases hdc : d = c
    · subst hdc
      have hout : { d with state := .holdoff t.cfg.th } ∉ advanced := fun hd => by
        simpa [OwnClaim.isQueued] using hqueued _ hd
      simp only [Function.comp_apply, heldOff, List.mem_cons, true_or, if_true, hout, if_false]
    · simp only [Function.comp_apply, heldOff, List.mem_cons, List.not_mem_nil, hdc, false_or, if_false]
  · by_cases hnil : advanced = []
    · simpa [hnil] using hfit
    · obtain ⟨-, -, hle⟩ := h.fits hnil
      have hle : t.adm.commitment + c.amount + (advanced.map OwnClaim.amount).sum ≤ t.cfg.lc := hcom ▸ hle
      rw [List.map_cons, List.sum_cons]
      omega
  · have hstop := h.stops d hd
    rw [hcom] at hstop
    rw [List.map_cons, List.sum_cons, ← Nat.add_assoc]
    exact hstop
  · rw [h.claims, tclaims, List.map_cons]
    by_cases hk : k = c.circuit
    · subst hk
      simp
    · simp [hk, five_get_set_of_ne _ hk]
  · rw [h.releases, treleases, List.map_cons]
    by_cases hk : k = c.circuit
    · subst hk
      simp
    · simp [hk, five_get_set_of_ne _ hk]
  · rw [h.list, tlist, List.filter_append, List.filter_filter, List.map_cons, List.map_cons, List.append_assoc]
    refine congrArg₂ (· ++ ·) (List.filter_congr fun d _ => ?_) rfl
    rw [Bool.eq_iff_iff]
    cases d <;> simp [Copy.kept, and_comm]
  · exact tapart.trans h.apart

theorem advanceQueue_advances (fuel : Nat) :
    ∀ t : State, (t.adm.own.map OwnClaim.circuit).Nodup → (t.adm.own.filter OwnClaim.isQueued).length ≤ fuel →
      ∃ advanced waiting, QueueAdvanced advanced waiting t (advanceQueue fuel t) := by
  induction fuel with
  | zero =>
    intro t _ hlen
    refine ⟨[], _, QueueAdvanced.none fun c hc => ?_⟩
    rw [oldestQueued_eq, List.length_eq_zero_iff.1 (Nat.le_zero.1 hlen)] at hc
    cases hc
  | succ fuel ih =>
    intro t hn hlen
    cases hq : t.adm.own.filter OwnClaim.isQueued with
    | nil =>
      have hno : t.adm.oldestQueued = none := by rw [oldestQueued_eq, hq]; rfl
      have hstays : advanceQueue (fuel + 1) t = t := by simp only [advanceQueue, hno]
      rw [hstays]
      refine ⟨[], _, QueueAdvanced.none fun c hc => ?_⟩
      rw [hno] at hc
      cases hc
    | cons c rest =>
      have hfirst : t.adm.oldestQueued = some c := by rw [oldestQueued_eq, hq]; rfl
      cases hmay : mayAdvance t c with
      | false =>
        have hstays : advanceQueue (fuel + 1) t = t := by
          simp only [advanceQueue, hfirst, hmay, Bool.false_eq_true, if_false]
        rw [hstays]
        refine ⟨[], _, QueueAdvanced.none fun d hd => ?_⟩
        rw [hfirst] at hd
        cases hd
        exact hmay
      | true =>
        have hgoes : advanceQueue (fuel + 1) t = advanceQueue fuel (enterHoldoff c t) := by
          simp only [advanceQueue, hfirst, hmay, if_true]
        have hmem : c ∈ t.adm.own := List.mem_of_mem_filter (hq ▸ List.mem_cons_self)
        have hown := enterHoldoff_own_of_mem hn hmem
        obtain ⟨advanced, waiting, h⟩ := ih (enterHoldoff c t)
          (by rw [hown, map_heldOff_circuit]; exact hn)
          (by rw [hown, filter_isQueued_heldOff hn hq]; rw [hq, List.length_cons] at hlen; omega)
        rw [hgoes]
        exact ⟨c :: advanced, waiting, h.cons hn hq hmay⟩

end Sys2Proof.Machine

/-! # The Admission Controller's tick, assembled (O7) -/

namespace Sys2Proof.Machine

/-! ### The claims whose holdoff has run out (R96, R98, R100, R110) -/

/-- The claims whose holdoff has reached 0 are decided: admitted, deferred, or gone undecided (`lost`). -/
structure GroupDecided (admitted failed lost : List OwnClaim) (u v : State) : Prop where
  adm :
    v.adm =
      { u.adm with
        own := u.adm.own.filterMap fun c =>
          if c ∈ admitted then some { c with state := .settling u.cfg.ts }
          else if c ∈ (failed.filter fun c => (c.deferral u.cfg).exhausted u.cfg.lr) ∨ c ∈ lost then none
          else if c ∈ failed then some (c.deferral u.cfg)
          else some c
        admissions := min 65535 (u.adm.admissions + admitted.length)
        deferrals := min 65535 (u.adm.deferrals + failed.length)
        promotions :=
          min 65535 (u.adm.promotions + (failed.filter fun c => (c.deferral u.cfg).effective < c.effective).length)
        refusals :=
          min 65535 (u.adm.refusals + (failed.filter fun c => (c.deferral u.cfg).exhausted u.cfg.lr).length) }
  handed :
    v.handed =
      { u.handed with
        answers :=
          u.handed.answers ++
            u.adm.own.filterMap fun c =>
              if c ∈ admitted then some (.admitted c.circuit)
              else if c ∈ failed.filter fun c => (c.deferral u.cfg).exhausted u.cfg.lr then some (.refused c.circuit)
              else none }
  claims : ∀ k,
    v.tele.claimSchedules.get k =
      if k ∈ lost.map OwnClaim.circuit ++ failed.map OwnClaim.circuit then none else u.tele.claimSchedules.get k
  releases : ∀ k,
    v.tele.releaseSchedules.get k =
      if k ∈ failed.map OwnClaim.circuit then (if u.telegramsWentDark then none else some ⟨2, none⟩)
      else u.tele.releaseSchedules.get k
  list :
    v.tele.list =
      (u.tele.list.filter
          (Copy.kept (lost.map OwnClaim.circuit ++ failed.map OwnClaim.circuit) (failed.map OwnClaim.circuit))) ++
        if u.telegramsWentDark then [] else (failed.map OwnClaim.circuit).map Copy.release
  apart : u.tele.SameApart v.tele

theorem Admission.eq_of_fields {a b : Admission} (own : a.own = b.own) (heard : a.heard = b.heard)
    (admissions : a.admissions = b.admissions) (deferrals : a.deferrals = b.deferrals)
    (promotions : a.promotions = b.promotions) (refusals : a.refusals = b.refusals)
    (overflow : a.claimOverflow = b.claimOverflow) : a = b := by
  cases a
  cases b
  simp_all

theorem applyVerdicts_sameApart (vs : List (OwnClaim × Bool)) (s : State) :
    s.tele.SameApart (applyVerdicts vs s).tele := by
  induction vs generalizing s with
  | nil => rfl
  | cons v vs ih =>
    obtain ⟨c, _ | _⟩ := v
    · have hfirst : s.tele.SameApart (deferClaim c s).tele := by
        rw [deferClaim_tele]
        rfl
      exact hfirst.trans (ih _)
    · have hfirst : s.tele.SameApart (admitClaim c s).tele := rfl
      exact hfirst.trans (ih _)

/-- The waiting CLAIMs of a list of claims leave. -/
theorem filter_claims_kept (l : List OwnClaim) (copies : List Copy) :
    (copies.filter fun c => !(l.map fun o => Copy.claim o.circuit).contains c) =
      copies.filter (Copy.kept (l.map OwnClaim.circuit) []) := by
  refine List.filter_congr fun c _ => ?_
  have htag : ∀ k, (Copy.claim k ∈ l.map fun o => Copy.claim o.circuit) ↔ k ∈ l.map OwnClaim.circuit :=
    fun k => by simp
  cases c with
  | claim k =>
    rw [Copy.kept, List.contains_eq_mem, ← decide_not]
    exact decide_eq_decide.2 (not_congr (htag k))
  | release k => simp [Copy.kept]

section
variable {u : State} (hn : (u.adm.own.map OwnClaim.circuit).Nodup) (ha : u.adm.admissions ≤ 65535)
  (hd : u.adm.deferrals ≤ 65535) (hp : u.adm.promotions ≤ 65535) (hr : u.adm.refusals ≤ 65535)
include hn ha hd hp hr

theorem verdicts_decide (p q : OwnClaim → Bool) :
    GroupDecided (u.adm.own.filter fun c => p c && q c) (u.adm.own.filter fun c => p c && !q c) [] u
      (applyVerdicts (decided p q u.adm.own) u) := by
  have hg := groupDeferred_of_verdicts p q hn hd hp hr
  have hadm : (applyVerdicts (decided p q u.adm.own) u).adm.admissions =
      min 65535 (u.adm.admissions + (u.adm.own.filter fun c => p c && q c).length) := by
    rw [applyVerdicts_admissions _ u ha, decided_admitted]
  have refused : ∀ c, c ∈ ((u.adm.own.filter fun c => p c && !q c).filter fun c =>
        (c.deferral u.cfg).exhausted u.cfg.lr) ↔
      c ∈ (u.adm.own.filter fun c => p c && !q c) ∧ (c.deferral u.cfg).exhausted u.cfg.lr = true :=
    fun c => List.mem_filter
  refine ⟨Admission.eq_of_fields ?_ (applyVerdicts_heard _ u) hadm hg.deferrals hg.promotions hg.refusals
      (applyVerdicts_claimOverflow _ u), ?_, hg.claims, hg.releases, ?_, applyVerdicts_sameApart _ u⟩
  · refine (own_of_decided p q hn).trans (List.filterMap_congr fun c _ => ?_)
    by_cases hf : c ∈ u.adm.own.filter fun c => p c && !q c <;>
      simp only [refused, hf, List.not_mem_nil, true_and, false_and, or_false, if_true, if_false]
  · rw [applyVerdicts_handed, answers_of_decided]
    simp only [refused]
  · rw [hg.list]
    refine congrArg (· ++ _) (List.filter_congr fun c _ => ?_)
    cases c <;>
      simp only [Copy.kept, Copy.tag, List.contains_eq_mem, List.map_nil, List.nil_append, decide_not]

theorem loss_decides (p : OwnClaim → Bool) :
    GroupDecided [] [] (u.adm.own.filter p) u (settleOutAll (u.adm.own.filter p) u) := by
  refine ⟨?_, ?_, fun k => ?_, fun k => ?_, ?_, settleOutAll_sameApart _ u⟩
  · rw [settleOutAll_adm, settleOutAll_filter hn]
    refine Admission.eq_of_fields ?_ rfl (Nat.min_eq_right ha).symm (Nat.min_eq_right hd).symm
      (Nat.min_eq_right hp).symm (Nat.min_eq_right hr).symm rfl
    rw [← List.filterMap_eq_filter]
    refine List.filterMap_congr fun c hc => ?_
    cases hpc : p c <;> simp [Option.guard, hpc, hc]
  · have hkept : (settleOutAll (u.adm.own.filter p) u).handed = u.handed := by simp
    rw [hkept]
    simp
  · rw [settleOutAll_claimSchedules, List.map_nil, List.append_nil]
  · rw [settleOutAll_releaseSchedules]
    simp
  · rw [settleOutAll_list, filter_claims_kept, List.map_nil, List.append_nil, List.map_nil, ite_self, List.append_nil]

/-- The claims whose holdoff has reached 0, decided in the mode as it is read (R96, R98; assumption 37). -/
theorem decideGroup_decides :
    GroupDecided
      (u.adm.own.filter fun c => u.mc.mode == .run && c.state == .holdoff 0 && headroom u c)
      (u.adm.own.filter fun c => u.mc.mode == .run && c.state == .holdoff 0 && !headroom u c)
      (u.adm.own.filter fun c => !(u.mc.mode == .run) && c.state == .holdoff 0) u (decideGroup u) := by
  by_cases hrun : u.mc.mode = .run
  · have h := verdicts_decide hn ha hd hp hr (fun c => c.state == .holdoff 0) (headroom u)
    simp only [hrun, beq_self_eq_true, Bool.true_and, Bool.not_true, Bool.false_and, List.filter_false, decideGroup,
      if_true]
    exact h
  · have h := loss_decides hn ha hd hp hr fun c => c.state == .holdoff 0
    have hmode : (u.mc.mode == .run) = false := beq_eq_false_iff_ne.2 hrun
    simp only [hmode, Bool.true_and, Bool.not_false, Bool.false_and, List.filter_false, decideGroup, hrun, if_false]
    exact h

end

/-! ### The counts (R103, R104, R107) -/

/-- The own claims after the settles, the backoffs and the holdoffs are counted, those settled gone. -/
def OwnClaim.allCounted (own : List OwnClaim) : List OwnClaim :=
  (rejoin (((own.map OwnClaim.settleCounted).filter fun c => !(c.state == .settling 0)).map
    OwnClaim.backoffCounted)).map OwnClaim.holdoffCounted

/-- The circuits whose settle reaches 0. -/
def OwnClaim.settledCircuits (own : List OwnClaim) : List Circ :=
  ((own.map OwnClaim.settleCounted).filter fun c => c.state == .settling 0).map OwnClaim.circuit

/-- The state in which the holdoffs that reached 0 are decided. -/
def admissionCounted (s : State) : State :=
  let t := countBackoffs (countSettles (countHolds s))
  setOwn (t.adm.own.map OwnClaim.holdoffCounted) t

theorem admissionTick_eq (s : State) :
    admissionTick s =
      settleTx
        (advanceQueue (decideGroup (admissionCounted s)).adm.own.length (decideGroup (admissionCounted s))) := rfl

theorem map_circuit_of_state {f : OwnClaim → OwnClaim} (hf : ∀ c, (f c).circuit = c.circuit) (l : List OwnClaim) :
    (l.map f).map OwnClaim.circuit = l.map OwnClaim.circuit := by
  rw [List.map_map]
  exact List.map_congr_left fun c _ => hf c

theorem OwnClaim.settleCounted_circuit (c : OwnClaim) : c.settleCounted.circuit = c.circuit := by
  unfold OwnClaim.settleCounted
  split <;> rfl

theorem OwnClaim.backoffCounted_circuit (c : OwnClaim) : c.backoffCounted.circuit = c.circuit := by
  unfold OwnClaim.backoffCounted
  split <;> rfl

theorem OwnClaim.holdoffCounted_circuit (c : OwnClaim) : c.holdoffCounted.circuit = c.circuit := by
  unfold OwnClaim.holdoffCounted
  split <;> rfl

theorem allCounted_nodup {own : List OwnClaim} (hn : (own.map OwnClaim.circuit).Nodup) :
    ((OwnClaim.allCounted own).map OwnClaim.circuit).Nodup := by
  rw [OwnClaim.allCounted, map_circuit_of_state OwnClaim.holdoffCounted_circuit,
    ← ((rejoin_perm _).map OwnClaim.circuit).nodup_iff,
    map_circuit_of_state (fun c => by split <;> rfl), map_circuit_of_state OwnClaim.backoffCounted_circuit]
  refine List.Nodup.sublist (List.filter_sublist.map _) ?_
  rwa [map_circuit_of_state OwnClaim.settleCounted_circuit]

section
variable (s : State)

@[simp] theorem admissionCounted_frame :
    (admissionCounted s).pending = s.pending ∧ (admissionCounted s).powered = s.powered ∧
    (admissionCounted s).time = s.time ∧ (admissionCounted s).meter = s.meter ∧ (admissionCounted s).gov = s.gov ∧
    (admissionCounted s).table = s.table ∧ (admissionCounted s).circ = s.circ ∧ (admissionCounted s).saw = s.saw ∧
    (admissionCounted s).gate = s.gate ∧ (admissionCounted s).mc = s.mc ∧ (admissionCounted s).loader = s.loader ∧
    (admissionCounted s).cfg = s.cfg ∧ (admissionCounted s).panel = s.panel ∧
    (admissionCounted s).handed = s.handed := by
  simp [admissionCounted]

theorem admissionCounted_adm (hn : (s.adm.own.map OwnClaim.circuit).Nodup) :
    (admissionCounted s).adm =
      { s.adm with
        own := OwnClaim.allCounted s.adm.own
        heard := (s.adm.heard.map fun h => { h with hold := h.hold - 1 }).filter fun h => h.hold != 0 } := by
  let t := setOwn (s.adm.own.map OwnClaim.settleCounted) (countHolds s)
  have hnt : (t.adm.own.map OwnClaim.circuit).Nodup := by
    change ((s.adm.own.map OwnClaim.settleCounted).map OwnClaim.circuit).Nodup
    rwa [map_circuit_of_state OwnClaim.settleCounted_circuit]
  have hadm := settleOutAll_adm (t.adm.own.filter fun c => c.state == .settling 0) t
  rw [settleOutAll_filter hnt] at hadm
  have hcounted : (countSettles (countHolds s)).adm = _ := hadm
  change
    { (countSettles (countHolds s)).adm with
      own :=
        (rejoin ((countSettles (countHolds s)).adm.own.map OwnClaim.backoffCounted)).map OwnClaim.holdoffCounted } = _
  rw [hcounted]
  rfl

theorem admissionCounted_tele :
    (admissionCounted s).tele =
      (settleOutAll ((s.adm.own.map OwnClaim.settleCounted).filter fun c => c.state == .settling 0)
        (setOwn (s.adm.own.map OwnClaim.settleCounted) (countHolds s))).tele := rfl

theorem admissionCounted_claims (k : Circ) :
    (admissionCounted s).tele.claimSchedules.get k =
      if k ∈ OwnClaim.settledCircuits s.adm.own then none else s.tele.claimSchedules.get k := by
  rw [admissionCounted_tele, settleOutAll_claimSchedules]
  rfl

theorem admissionCounted_releases : (admissionCounted s).tele.releaseSchedules = s.tele.releaseSchedules := by
  rw [admissionCounted_tele, settleOutAll_releaseSchedules]
  rfl

theorem admissionCounted_list :
    (admissionCounted s).tele.list = s.tele.list.filter (Copy.kept (OwnClaim.settledCircuits s.adm.own) []) := by
  rw [admissionCounted_tele, settleOutAll_list, filter_claims_kept]
  rfl

theorem admissionCounted_sameApart : s.tele.SameApart (admissionCounted s).tele := by
  rw [admissionCounted_tele]
  exact settleOutAll_sameApart _ _

end

/-! ### The tick, assembled -/

theorem headroom_congr {s t : State} (hq : s.tele.quality = t.tele.quality) (hg : s.gov = t.gov)
    (ht : s.table = t.table) (hl : s.loader = t.loader) (ha : s.adm = t.adm) (hc : s.cfg = t.cfg) (c : OwnClaim) :
    headroom s c = headroom t c := by
  have hspare : sparePower s = sparePower t := by simp only [sparePower, hq, hg, ht]
  have hcompeting : competing s c = competing t c := by simp only [competing, hl, ha]
  rw [headroom, headroom, margin, margin, hspare, hcompeting, hc]

section
variable {admitted failed lost advanced waiting : List OwnClaim} {u v w : State}

theorem GroupDecided.circuits (h : GroupDecided admitted failed lost u v) :
    (v.adm.own.map OwnClaim.circuit).Sublist (u.adm.own.map OwnClaim.circuit) := by
  rw [h.adm]
  refine circuits_filterMap fun c _ d hd => ?_
  split at hd
  · cases hd
    rfl
  · split at hd
    · cases hd
    · split at hd
      · cases hd
        rfl
      · cases hd
        rfl

/-- A claim that the decision leaves QUEUED was no claim that it deferred. -/
theorem GroupDecided.queued_not_failed (h : GroupDecided admitted failed lost u v)
    (hn : (u.adm.own.map OwnClaim.circuit).Nodup) (hsub : ∀ c ∈ failed, c ∈ u.adm.own) {c : OwnClaim}
    (hc : c ∈ v.adm.own) (hq : c.isQueued = true) : c.circuit ∉ failed.map OwnClaim.circuit := by
  intro hf
  obtain ⟨f, hf, hfc⟩ := List.mem_map.1 hf
  rw [h.adm] at hc
  obtain ⟨o, ho, hoc⟩ := List.mem_filterMap.1 hc
  have hsame : ∀ {d : OwnClaim}, d.circuit = o.circuit → d.circuit = c.circuit → f = o := fun hd hd' =>
    List.inj_on_of_nodup_map hn (hsub f hf) ho (hfc.trans (hd'.symm.trans hd))
  split at hoc
  · cases hoc
    simp [OwnClaim.isQueued] at hq
  · split at hoc
    · cases hoc
    · split at hoc
      · cases hoc
        simp [OwnClaim.isQueued, OwnClaim.deferral] at hq
      next hnf =>
        cases hoc
        exact hnf (hsame rfl rfl ▸ hf)

end

/-- The copies that are left after the settles, the decision and the advance. -/
theorem kept_through_tick {copies : List Copy} {settled silent failed advanced : List Circ} {dark : Bool}
    (hdisj : ∀ k ∈ advanced, k ∉ failed) :
    ((copies.filter (Copy.kept settled [])).filter (Copy.kept (silent ++ failed) failed) ++
        if dark then [] else failed.map Copy.release).filter (Copy.kept [] advanced) =
      copies.filter (Copy.kept (settled ++ silent ++ failed) (failed ++ advanced)) ++
        if dark then [] else failed.map Copy.release := by
  rw [List.filter_append, List.filter_filter, List.filter_filter]
  refine congrArg₂ (· ++ ·) (List.filter_congr fun c _ => ?_) (List.filter_eq_self.2 fun c hc => ?_)
  · rw [Bool.eq_iff_iff]
    cases c with
    | claim k =>
      simp only [Copy.kept, Bool.and_eq_true, decide_eq_true_eq, List.mem_append, List.not_mem_nil, not_false_iff,
        true_and, not_or]
      tauto
    | release k =>
      simp only [Copy.kept, Bool.and_eq_true, decide_eq_true_eq, List.mem_append, List.not_mem_nil, not_false_iff,
        and_true, not_or]
      tauto
  · have hk : c ∈ failed.map Copy.release := by
      split at hc
      · cases hc
      · exact hc
    obtain ⟨k, hfailed, rfl⟩ := List.mem_map.1 hk
    exact decide_eq_true fun hadvanced => hdisj k hadvanced hfailed

/-- The state against whose claims the group is tested: the claims and the holds counted, all else as before. -/
def State.admCounted (s : State) : State :=
  { s with
    adm :=
      { s.adm with
        own := OwnClaim.allCounted s.adm.own
        heard := (s.adm.heard.map fun h => { h with hold := h.hold - 1 }).filter fun h => h.hold != 0 } }

theorem headroom_admissionCounted {s : State} (hn : (s.adm.own.map OwnClaim.circuit).Nodup) (c : OwnClaim) :
    headroom (admissionCounted s) c = headroom s.admCounted c :=
  headroom_congr (by rw [admissionCounted_sameApart s]; rfl) (by simp [State.admCounted]) (by simp [State.admCounted])
    (by simp [State.admCounted]) (admissionCounted_adm s hn) (by simp [State.admCounted]) c

theorem admissionCounted_decides {s : State} (hn : (s.adm.own.map OwnClaim.circuit).Nodup) (hc : countersOk s) :
    GroupDecided
      ((OwnClaim.allCounted s.adm.own).filter fun c =>
        s.mc.mode == .run && c.state == .holdoff 0 && headroom s.admCounted c)
      ((OwnClaim.allCounted s.adm.own).filter fun c =>
        s.mc.mode == .run && c.state == .holdoff 0 && !headroom s.admCounted c)
      ((OwnClaim.allCounted s.adm.own).filter fun c => !(s.mc.mode == .run) && c.state == .holdoff 0)
      (admissionCounted s) (decideGroup (admissionCounted s)) := by
  obtain ⟨admissions, deferrals, promotions, refusals⟩ := hc.admission
  have hadm := admissionCounted_adm s hn
  have hnu : ((admissionCounted s).adm.own.map OwnClaim.circuit).Nodup := by
    rw [hadm]
    exact allCounted_nodup hn
  have hmode : (admissionCounted s).mc.mode = s.mc.mode := by simp
  have h := decideGroup_decides hnu (by rw [hadm]; exact admissions) (by rw [hadm]; exact deferrals)
    (by rw [hadm]; exact promotions) (by rw [hadm]; exact refusals)
  simp only [hadm, hmode, headroom_admissionCounted hn] at h
  exact h

/-- What the tick changes: the claims, the answers, the queue, the schedules and the transmitter. -/
theorem admissionTick_state {s : State} (x : Time) (ht : s.tele.SameApart (admissionTick s).tele)
    (hh : (admissionTick s).handed = { s.handed with answers := (admissionTick s).handed.answers }) :
    (admissionTick s).setTime x =
      { s with
        time := x
        adm := (admissionTick s).adm
        tele :=
          { s.tele with
            list := (admissionTick s).tele.list
            claimSchedules := (admissionTick s).tele.claimSchedules
            releaseSchedules := (admissionTick s).tele.releaseSchedules
            tx := (admissionTick s).tele.tx
            gapTimer := (admissionTick s).tele.gapTimer }
        handed := { s.handed with answers := (admissionTick s).handed.answers } } := by
  apply State.ext_fields
  case tele => exact ht
  case handed => exact hh
  case adm => rfl
  case time => rfl
  all_goals simp

/-- Settles O7. -/
theorem admissionTickWorksInOrder : Obligations.AdmissionTickWorksInOrder := by
  intro p s hp hw hc hn heard settling settled backing rejoined holding tested inRun admitted failed lost refused
    decided committed circuits silent wentDark
  let u := admissionCounted s
  have hadm : u.adm = { s.adm with own := holding, heard := heard } := admissionCounted_adm s hn
  have hnu : (u.adm.own.map OwnClaim.circuit).Nodup := by
    rw [hadm]
    exact allCounted_nodup hn
  have hcfg : u.cfg = s.cfg := by simp [u]
  have hhanded : u.handed = s.handed := by simp [u]
  have hdec : GroupDecided admitted failed lost u (decideGroup u) := admissionCounted_decides hn hc
  have hsub : ∀ c ∈ failed, c ∈ u.adm.own := fun c hc => by
    rw [hadm]
    exact List.mem_of_mem_filter hc
  let v := decideGroup u
  have hvown : v.adm.own = decided := by
    have h := congrArg Admission.own hdec.adm
    simp only [hcfg, hadm] at h
    exact h
  obtain ⟨advanced, waiting, hadv⟩ := advanceQueue_advances v.adm.own.length v (hdec.circuits.nodup hnu)
    (List.length_filter_le ..)
  have hvmode : v.mc.mode = s.mc.mode := by simp [v, u]
  have hvcfg : v.cfg = s.cfg := by simp [v, hcfg]
  have hvshed : v.anyShedding = (s.circ.shedding || s.table.shedding) := by simp [State.anyShedding, v, u]
  have hvcom : v.adm.commitment = committed := by
    rw [Admission.commitment, hvown]
  have hdark : u.telegramsWentDark = wentDark := by
    rw [State.telegramsWentDark, hhanded]
  have hqueued : ∀ c ∈ advanced, c.circuit ∉ circuits failed := fun c hc => by
    have hmem : c ∈ v.adm.own.filter OwnClaim.isQueued := hadv.split ▸ List.mem_append_left _ hc
    obtain ⟨hcv, hcq⟩ := List.mem_filter.1 hmem
    exact hdec.queued_not_failed hnu hsub hcv hcq
  have hdisjoint : ∀ k ∈ advanced.map OwnClaim.circuit, k ∉ circuits failed := fun k hk => by
    obtain ⟨c, hc, rfl⟩ := List.mem_map.1 hk
    exact hqueued c hc
  have hsplit := hadv.split
  have hfits := hadv.fits
  have hstops := hadv.stops
  have hclaims := hadv.claims
  have hreleases := hadv.releases
  have hlist := hadv.list
  have hfinal := hadv.adm
  rw [hvown] at hsplit
  simp only [hvmode, hvcfg, hvshed, hvcom, Bool.or_eq_false_iff, Bool.or_eq_true, or_assoc, and_assoc] at hfits hstops
  let w := advanceQueue v.adm.own.length v
  have hvhanded : w.handed = v.handed := by simp [w]
  refine ⟨_, advanced, waiting, exec_stationTick_of_last .admission p hp hw, hsplit, ?_, hfits, hstops, ?_, fun k => ?_,
    fun k => ?_, ?_, ?_⟩
  · change w.adm = _
    rw [hfinal, hvown, hvcfg, hdec.adm]
    simp only [hcfg, hadm]
    rfl
  · change w.handed.answers = _
    rw [hvhanded, hdec.handed]
    simp only [hcfg, hadm, hhanded]
    rfl
  · change w.tele.settle.claimSchedules.get k = _
    rw [Telegram.settle_claimSchedules, hclaims, hdec.claims, admissionCounted_claims, hvcfg]
    rw [← ite_or]
    refine if_congr Iff.rfl rfl (if_congr ?_ rfl rfl)
    simp only [List.mem_append]
    exact or_comm.trans or_assoc.symm
  · change w.tele.settle.releaseSchedules.get k = _
    rw [Telegram.settle_releaseSchedules, hreleases, hdec.releases, admissionCounted_releases, hdark]
  · change w.tele.settle.list = _
    rw [Telegram.settle_list, hlist, hdec.list, admissionCounted_list, hdark, kept_through_tick hdisjoint]
    refine congrArg (· ++ _ ++ _) (List.filter_congr fun c _ => ?_)
    cases c <;> rfl
  · have hteles : s.tele.SameApart w.tele.settle :=
      (((admissionCounted_sameApart s).trans hdec.apart).trans hadv.apart).trans (Telegram.sameApart_settle _)
    have hhandedw : w.handed = { s.handed with answers := w.handed.answers } := by
      rw [hvhanded, hdec.handed, hhanded]
    exact admissionTick_state _ hteles hhandedw

end Sys2Proof.Machine

/-! # The Circuit Controller: answers, Line Records, and which circuits are shed (O30, O34, O36) -/

namespace Sys2Proof.Machine

/-! ### Answers (R122, R140) -/

theorem sawAdmitted_eq (s : State) :
    sawAdmitted s =
      s.setSaw (if s.saw.state = .claiming then { s.saw with state := .engaging s.cfg.tce } else s.saw) := by
  unfold sawAdmitted
  split
  case h_1 h => rw [if_pos h]
  case h_2 h => rw [if_neg h]; rfl

theorem sawRefused_eq (s : State) :
    sawRefused s =
      s.setSaw
        (if s.saw.state = .claiming then
          { s.saw with state := .idle, feed := 0, sawRefused := satInc s.saw.sawRefused }
        else s.saw) := by
  unfold sawRefused
  split
  case h_1 h => rw [if_pos h]; rfl
  case h_2 h => rw [if_neg h]; rfl

section
variable {k : Circ} {s : State}

theorem takeAdmitted_of_waiting (ha : s.circ.active = true) (hw : s.circuitState k = .waiting) :
    takeAdmitted k s =
      (setCircuitState k .on s).setSaw
        (if k = .c4 ∧ s.saw.state = .claiming then { s.saw with state := .engaging s.cfg.tce } else s.saw) := by
  have hcase : (s.circ.active && s.circuitState k == .waiting) = true := by simp [ha, hw]
  unfold takeAdmitted
  rw [if_pos hcase]
  cases k with
  | c4 =>
    refine (sawAdmitted_eq (setCircuitState .c4 .on s)).trans ?_
    simp only [true_and]
    rfl
  | _ => rfl

theorem takeRefused_of_waiting (ha : s.circ.active = true) (hw : s.circuitState k = .waiting) :
    takeRefused k s =
      (setCircuitState k
          (if k ≠ .c4 ∧ s.cfg.demandType.get k.idx = .level then .paused s.cfg.tr else .off) s).setSaw
        (if k = .c4 ∧ s.saw.state = .claiming then
          { s.saw with state := .idle, feed := 0, sawRefused := satInc s.saw.sawRefused }
        else s.saw) := by
  have hcase : (s.circ.active && s.circuitState k == .waiting) = true := by simp [ha, hw]
  have hstate : k ≠ .c4 → refusedState s k =
      if k ≠ .c4 ∧ s.cfg.demandType.get k.idx = .level then .paused s.cfg.tr else .off := by
    intro hk
    unfold refusedState State.demandType
    cases ht : s.cfg.demandType.get k.idx <;> simp [hk]
  unfold takeRefused
  rw [if_pos hcase]
  cases k with
  | c4 =>
    refine (sawRefused_eq (setCircuitState .c4 .off s)).trans ?_
    simp only [true_and, ne_eq, not_true_eq_false, false_and, if_false]
    rfl
  | _ =>
    rw [← hstate (by simp)]
    rfl

theorem takeAdmitted_of_ignored (h : s.circ.active = false ∨ s.circuitState k ≠ .waiting) :
    takeAdmitted k s = s := by
  refine if_neg ?_
  obtain h | h := h <;> simp [h]

theorem takeRefused_of_ignored (h : s.circ.active = false ∨ s.circuitState k ≠ .waiting) : takeRefused k s = s := by
  refine if_neg ?_
  obtain h | h := h <;> simp [h]

theorem exec_admitted_of_answer {rest : List Answer} (hp : s.powered = true)
    (ha : s.handed.answers = .admitted k :: rest) :
    exec .admitted s = .next (takeAdmitted k (s.setHanded { s.handed with answers := rest })) := by
  refine (answer_powered hp _).trans ?_
  rw [ha]

theorem exec_refused_of_answer {rest : List Answer} (hp : s.powered = true)
    (ha : s.handed.answers = .refused k :: rest) :
    exec .refused s = .next (takeRefused k (s.setHanded { s.handed with answers := rest })) := by
  refine (answer_powered hp _).trans ?_
  rw [ha]

end

/-- Settles O30. -/
theorem answersAreTaken : Obligations.AnswersAreTaken := by
  refine ⟨fun k rest s hp ha hact hw => ?_, fun k rest s hp ha hact hw => ?_, fun k rest s hp hign => ⟨fun ha => ?_,
    fun ha => ?_⟩⟩
  · exact (exec_admitted_of_answer hp ha).trans (congrArg _ (takeAdmitted_of_waiting (s := s.setHanded _) hact hw))
  · exact (exec_refused_of_answer hp ha).trans (congrArg _ (takeRefused_of_waiting (s := s.setHanded _) hact hw))
  · exact (exec_admitted_of_answer hp ha).trans (congrArg _ (takeAdmitted_of_ignored (s := s.setHanded _) hign))
  · exact (exec_refused_of_answer hp ha).trans (congrArg _ (takeRefused_of_ignored (s := s.setHanded _) hign))

/-! ### Line Records (R124, R125, R131) -/

/-- The stage conditions on kept values (R124). -/
def Kept.stage1 (cfg : Config) (k : Kept) : Bool :=
  k.lock.trusted && decide (k.filtered + cfg.u1 < k.setPoint) && (k.demand == 0 || cfg.pb == 0)

/-- The stage 2 condition on kept values (R124). -/
def Kept.stage2 (cfg : Config) (k : Kept) : Bool := k.lock.trusted && decide (k.filtered + cfg.u2 < k.setPoint)

theorem evaluateStages_of_active {s : State} {c1 c2 : Bool} (h1 : stage1Holds s = c1) (h2 : stage2Holds s = c2) :
    evaluateStages s =
      (s.setCirc
          { s.circ with
            stage1 := c1
            stage2 := c2
            timer1 := if c1 then s.circ.timer1 else 0
            timer2 := if c2 then s.circ.timer2 else 0
            restoreTimer := if c1 || c2 then 0 else s.circ.restoreTimer }).setHanded
        { s.handed with
          ownRaised := s.handed.ownRaised + bit (!(s.circ.stage1 || s.circ.stage2) && (c1 || c2)) } := by
  rw [evaluateStages, h1, h2]
  rfl

theorem Circuits.endSpan_get (c : Circuits) (k : Circ) :
    c.endSpan.table.get k =
      ⟨.off, (c.table.get k).mark ||
        (k != .c4 && ((c.table.get k).state == .on || (c.table.get k).state == .waiting ||
          (c.table.get k).state == .shed))⟩ := by
  have each : ∀ x : Circuit, x.atLoss =
      ⟨.off, x.mark || (x.state == .on || x.state == .waiting || x.state == .shed)⟩ := by
    rintro ⟨state, mark⟩
    cases state <;> simp [Circuit.atLoss]
  cases k with
  | c4 => simp [Circuits.endSpan, Five.get]
  | _ => exact each _

theorem exec_circuitCycleEnd_of_record {r : LineRecord} {rest : List LineRecord} {s : State} (hp : s.powered = true)
    (hr : s.handed.circuitRecords = r :: rest) :
    exec .circuitCycleEnd s = .next (circuitRecord r (s.setHanded { s.handed with circuitRecords := rest })) := by
  refine (answer_powered hp _).trans ?_
  rw [hr]

/-- The controller holds the values that a Line Record brings (R124). -/
def keptOf (r : LineRecord) (s : State) : State :=
  s.setCirc
    { s.circ with
      kept := some { filtered := r.filtered, lock := r.lock, setPoint := s.gov.setPoint, demand := s.gov.demand } }

theorem circuitRecord_of_tracked {r : LineRecord} (hr : r.lock ≠ .lost) (s : State) :
    circuitRecord r s = evaluateStages (keptOf r s) := if_neg hr

theorem circuitRecord_of_lost {r : LineRecord} (hr : r.lock = .lost) (s : State) :
    circuitRecord r s =
      if s.circ.active then (keptOf r s).setCirc (keptOf r s).circ.endSpan else keptOf r s := if_pos hr

/-- Settles O34. -/
theorem circuitControllerTakesARecord : Obligations.CircuitControllerTakesARecord := by
  intro r rest s hp hr kept trusted c1 c2
  rw [exec_circuitCycleEnd_of_record hp hr]
  let v := s.setHanded { s.handed with circuitRecords := rest }
  refine ⟨fun ha hl => ?_, fun ha hl => ?_, fun ha hl => ?_, fun ha hl => ?_⟩
  · have h1 : stage1Holds (keptOf r v) = c1 := by
      have hact : (keptOf r v).circ.active = true := ha
      rw [stage1Holds, hact]
      rfl
    have h2 : stage2Holds (keptOf r v) = c2 := by
      have hact : (keptOf r v).circ.active = true := ha
      rw [stage2Holds, hact]
      rfl
    exact congrArg _ ((circuitRecord_of_tracked hl v).trans (evaluateStages_of_active h1 h2))
  · have hends := (circuitRecord_of_lost hl v).trans (if_pos ha)
    exact ⟨_, congrArg _ hends, Circuits.endSpan_get _, rfl⟩
  · have h1 : stage1Holds (keptOf r v) = false := by
      have hact : (keptOf r v).circ.active = false := ha
      rw [stage1Holds, hact, Bool.false_and]
    have h2 : stage2Holds (keptOf r v) = false := by
      have hact : (keptOf r v).circ.active = false := ha
      rw [stage2Holds, hact, Bool.false_and]
    refine congrArg _ ((circuitRecord_of_tracked hl v).trans ((evaluateStages_of_active h1 h2).trans ?_))
    simp only [Bool.or_self, Bool.false_eq_true, if_false, Bool.and_false]
    rfl
  · have hstays := (circuitRecord_of_lost hl v).trans (if_neg (by simp [v, ha]))
    exact congrArg _ hstays

/-! ### Which circuits are shed (R126 to R128) -/

theorem setCircuitState_circuitState (j k : Circ) (st : CircuitState) (s : State) :
    (setCircuitState k st s).circuitState j = if j = k then st else s.circuitState j := by
  by_cases h : j = k
  · subst h
    rw [if_pos rfl, setCircuitState_circuitState_self]
  · rw [if_neg h, setCircuitState_circuitState_of_ne h]

/-- The stop of the saw that a shed of circuit 4 brings finds circuit 4 OFF already (R128, R155). -/
theorem sawShed_circ {s : State} (h : s.circuitState .c4 = .off) : (sawShed s).circ = s.circ := by
  unfold sawShed
  split
  · rw [enterStopping_circ, withdrawCircuit4_eq, if_neg]
    · rfl
    · rintro ⟨-, hw | hw⟩ <;> cases h.symm.trans hw
  · rfl

theorem shedState_circuitState (j k : Circ) (s : State) :
    (shedState k s).circuitState j = if j = k then (if k = .c4 then .off else .shed) else s.circuitState j := by
  cases k with
  | c4 =>
    have hoff : (toOffWithdrawing .c4 s).circuitState .c4 = .off := setCircuitState_circuitState_self ..
    have hcirc : (shedState .c4 s).circ = (toOffWithdrawing .c4 s).circ := sawShed_circ hoff
    rw [State.circuitState, hcirc]
    exact setCircuitState_circuitState j .c4 .off s
  | _ => exact setCircuitState_circuitState j _ .shed s

theorem shedOne_of_some {stage : Stage} {s : State} {cls : Nat} {k : Circ} (h : chooseShed stage s = some (cls, k)) :
    shedOne stage s =
      shedState k
        (s.setCirc
          ({ s.circ with
              rotation := s.circ.rotation.set cls (rotate k (s.circ.rotation.get cls)) }.countShed stage)) := by
  simp only [shedOne, h]

theorem Circuits.countShed_table (stage : Stage) (c : Circuits) : (c.countShed stage).table = c.table := by
  cases stage <;> rfl

theorem setTimer_table (stage : Stage) (n : Nat) (s : State) : (setTimer stage n s).circ.table = s.circ.table := by
  cases stage <;> rfl

/-- What a shed does to the states of the circuits: nothing, or it takes one circuit that was ON (R126 to R128). -/
theorem shedOne_circuitState (stage : Stage) (s : State) :
    (∀ j, (shedOne stage s).circuitState j = s.circuitState j) ∨
      ∃ cls k, cls ∈ shedClasses stage ∧ s.circuitState k = .on ∧ k ∈ s.circ.rotation.get cls ∧
        ∀ j, (shedOne stage s).circuitState j =
          if j = k then (if k = .c4 then .off else .shed) else s.circuitState j := by
  cases hchoice : chooseShed stage s with
  | none =>
    rw [shedOne_of_none hchoice]
    exact .inl fun _ => rfl
  | some choice =>
    obtain ⟨cls, k⟩ := choice
    obtain ⟨hcls, hon, hmem⟩ := chooseShed_spec hchoice
    refine .inr ⟨cls, k, hcls, hon, hmem, fun j => ?_⟩
    rw [shedOne_of_some hchoice, shedState_circuitState]
    have hsame : (s.setCirc
        ({ s.circ with
            rotation := s.circ.rotation.set cls (rotate k (s.circ.rotation.get cls)) }.countShed stage)).circuitState
                j =
        s.circuitState j :=
      congrArg (fun v => (v.get j).state) (Circuits.countShed_table stage _)
    rw [hsame]

theorem mem_shedClasses {stage : Stage} {cls : Nat} (h : cls ∈ shedClasses stage) :
    cls = 3 ∨ cls = 2 ∨ stage = .stage2 ∧ cls = 1 := by
  cases stage <;> simpa [shedClasses] using h

theorem RotationOk.nodup_of_class {s : State} (h : RotationOk s) (cls : Nat) :
    (s.circ.rotation.get cls).Nodup := by
  by_cases hh : s.held
  · rw [h.held hh]
    rcases cls with _ | _ | _ | cls <;> exact List.nodup_nil
  · rcases cls with _ | _ | _ | cls
    · exact (h.built hh 0 (by omega)).1
    · exact (h.built hh 1 (by omega)).1
    · exact (h.built hh 2 (by omega)).1
    · exact (h.built hh 3 (by omega)).1

theorem RotationOk.class_of_mem {s : State} (h : RotationOk s) {cls : Nat} (hc : cls ≤ 3) {k : Circ}
    (hk : k ∈ s.circ.rotation.get cls) : s.cfg.cls.get k = cls := by
  by_cases hh : s.held
  · rw [h.held hh] at hk
    rcases cls with _ | _ | _ | cls <;> cases hk
  · exact ((h.built hh cls hc).2 k).1 hk

theorem length_le_of_nodup {l : List Circ} (h : l.Nodup) : l.length ≤ 5 :=
  (List.subperm_of_subset (l₂ := Circ.all) h fun k _ => by cases k <;> simp [Circ.all]).length_le

theorem RotationOk.together {s : State} (h : RotationOk s) :
    (s.circ.rotation.k0 ++ s.circ.rotation.k1 ++ s.circ.rotation.k2 ++ s.circ.rotation.k3).Nodup := by
  have apart : ∀ {m n : Nat}, m ≤ 3 → n ≤ 3 → m ≠ n →
      ∀ j ∈ s.circ.rotation.get m, ∀ k ∈ s.circ.rotation.get n, j ≠ k :=
    fun hm hn hne j hj k hk hjk =>
      hne ((h.class_of_mem hm hj).symm.trans ((congrArg s.cfg.cls.get hjk).trans (h.class_of_mem hn hk)))
  have h01 := List.nodup_append.2 ⟨h.nodup_of_class 0, h.nodup_of_class 1, apart (by omega) (by omega) (by omega)⟩
  have h012 := List.nodup_append.2 ⟨h01, h.nodup_of_class 2, fun j hj k hk =>
    (List.mem_append.1 hj).elim
      (fun hj => apart (m := 0) (n := 2) (by omega) (by omega) (by omega) j hj k hk)
      (fun hj => apart (m := 1) (n := 2) (by omega) (by omega) (by omega) j hj k hk)⟩
  exact List.nodup_append.2 ⟨h012, h.nodup_of_class 3, fun j hj k hk =>
    (List.mem_append.1 hj).elim
      (fun hj => (List.mem_append.1 hj).elim
        (fun hj => apart (m := 0) (n := 3) (by omega) (by omega) (by omega) j hj k hk)
        (fun hj => apart (m := 1) (n := 3) (by omega) (by omega) (by omega) j hj k hk))
      (fun hj => apart (m := 2) (n := 3) (by omega) (by omega) (by omega) j hj k hk)⟩

/-- Settles O36. -/
theorem shedsOnlyEligibleCircuits : Obligations.ShedsOnlyEligibleCircuits := by
  refine ⟨fun st s t hp _ hexec => ?_, fun s h => ⟨h.together, fun cls => ⟨h.nodup_of_class cls, length_le_of_nodup
    (h.nodup_of_class cls)⟩⟩⟩
  have ht : t = if s.circ.condition st && s.circ.timer st + 1 == s.threshold st then
      shedOne st (setTimer st 0 s) else s := by
    have h := (answer_powered hp _).symm.trans hexec
    cases h
    rfl
  have hchange : (∀ j, t.circuitState j = s.circuitState j) ∨
      ∃ cls k, cls ∈ shedClasses st ∧ s.circuitState k = .on ∧ k ∈ s.circ.rotation.get cls ∧
        ∀ j, t.circuitState j = if j = k then (if k = .c4 then .off else .shed) else s.circuitState j := by
    split at ht
    · have h := shedOne_circuitState st (setTimer st 0 s)
      have hsame : ∀ j, (setTimer st 0 s).circuitState j = s.circuitState j := fun j =>
        congrArg (fun v => (v.get j).state) (setTimer_table st 0 s)
      simp only [hsame, setTimer_rotation, ← ht] at h
      exact h
    · exact .inl fun j => by rw [ht]
  obtain hsame | ⟨cls, k, hcls, hon, hmem, hstate⟩ := hchange
  · exact ⟨fun k hk => absurd (hsame k) hk, fun j k hj => absurd (hsame j) hj⟩
  · have hk : ∀ j, t.circuitState j ≠ s.circuitState j → j = k := fun j hj => by
      by_contra hne
      exact hj (by rw [hstate, if_neg hne])
    refine ⟨fun j hj => ?_, fun i j hi hj => (hk i hi).trans (hk j hj).symm⟩
    obtain rfl := hk j hj
    have hcase := mem_shedClasses hcls
    refine ⟨hon, fun h4 => ?_, fun h4 => ?_, ?_, fun hrot => ?_⟩
    · rw [hstate, if_pos rfl, if_pos h4]
    · rw [hstate, if_pos rfl, if_neg h4]
    · obtain rfl | rfl | ⟨hst, rfl⟩ := hcase
      · exact .inl hmem
      · exact .inr (.inl hmem)
      · exact .inr (.inr ⟨hst, hmem⟩)
    · have hclass := hrot.class_of_mem (shedClasses_le hcls).2 hmem
      rwa [← hclass] at hcase

end Sys2Proof.Machine

/-! # The entry to RUN, and the timers of the Circuit Controller (O33, O35) -/

namespace Sys2Proof.Machine

/-! ### Several circuits asking for power (R91, R118) -/

/-- Circuits become WAITING in turn, each with its creation request. -/
def waitingAll (restore : Circ → Bool) (ks : List Circ) (s : State) : State :=
  ks.foldl (fun t k => toWaiting k (restore k) t) s

/-- A creation request for a circuit, with its configured rating and class. -/
def creation (cfg : Config) (restore : Circ → Bool) (k : Circ) : Request :=
  .create k (cfg.rating.get k) (cfg.cls.get k) (restore k)

section
variable (restore : Circ → Bool) (ks : List Circ)

theorem waitingAll_cons (k : Circ) (s : State) :
    waitingAll restore (k :: ks) s = waitingAll restore ks (toWaiting k (restore k) s) := rfl

theorem waitingAll_eq (s : State) :
    waitingAll restore ks s =
      (s.setCirc { s.circ with table := (waitingAll restore ks s).circ.table }).setHanded
        { s.handed with requests := s.handed.requests ++ ks.map (creation s.cfg restore) } := by
  induction ks generalizing s with
  | nil =>
    rw [List.map_nil, List.append_nil]
    rfl
  | cons k rest ih =>
    rw [waitingAll_cons, ih, List.map_cons, ← List.singleton_append, ← List.append_assoc]
    rfl

theorem toWaiting_table (j k : Circ) (b : Bool) (s : State) :
    (toWaiting k b s).circ.table.get j =
      if j = k then { s.circ.table.get j with state := .waiting } else s.circ.table.get j := by
  by_cases h : j = k
  · subst h
    rw [if_pos rfl]
    exact five_get_set_self ..
  · rw [if_neg h]
    exact five_get_set_of_ne _ h _

theorem waitingAll_table (j : Circ) (s : State) :
    (waitingAll restore ks s).circ.table.get j =
      if j ∈ ks then { s.circ.table.get j with state := .waiting } else s.circ.table.get j := by
  induction ks generalizing s with
  | nil => rfl
  | cons k rest ih =>
    rw [waitingAll_cons, ih, toWaiting_table]
    by_cases hk : j = k <;> by_cases hr : j ∈ rest <;> simp [hk, hr]

end

/-! ### The entry to RUN (R130) -/

theorem claimedAtRun_toWaiting (j k : Circ) (b : Bool) (s : State) :
    claimedAtRun (toWaiting k b s) j = claimedAtRun s j := by
  have hmark : ((toWaiting k b s).circ.table.get j).mark = (s.circ.table.get j).mark := by
    rw [toWaiting_table]
    split <;> rfl
  unfold claimedAtRun
  rw [hmark]
  rfl

/-- The circuits that the entry to RUN claims, in their order, become WAITING (R130). -/
theorem foldl_claimAtRun {restore : Circ → Bool} (l : List Circ) :
    ∀ s : State, (∀ k, claimedAtRun s k = none ∨ claimedAtRun s k = some (restore k)) →
      l.foldl claimAtRun s = waitingAll restore (l.filter fun k => (claimedAtRun s k).isSome) s := by
  induction l with
  | nil => exact fun _ _ => rfl
  | cons k rest ih =>
    intro s hs
    rw [List.foldl_cons]
    obtain h | h := hs k
    · have hstays : claimAtRun s k = s := by simp only [claimAtRun, h]
      rw [hstays, ih s hs, List.filter_cons_of_neg (by simp [h])]
    · have hgoes : claimAtRun s k = toWaiting k (restore k) s := by simp only [claimAtRun, h]
      have hsame : ∀ j, claimedAtRun (toWaiting k (restore k) s) j = claimedAtRun s j := fun j =>
        claimedAtRun_toWaiting ..
      rw [hgoes, ih _ fun j => by rw [hsame]; exact hs j, List.filter_cons_of_pos (by simp [h]), waitingAll_cons]
      simp only [hsame]

/-- Whether the entry to RUN claims a circuit, spelled out (R130). -/
theorem claimedAtRun_switched {k : Circ} (hk : k ≠ .c4) (s : State) :
    (claimedAtRun s k).isSome =
      (if k = .c4 ∨ s.cfg.rating.get k = 0 then false
      else if s.cfg.demandType.get k.idx = .edge then (s.circ.table.get k).mark
      else (s.circ.demand.get k.idx).level) := by
  unfold claimedAtRun State.rating State.demandType State.demandLevel
  by_cases hr : s.cfg.rating.get k = 0
  · rw [if_pos hr, if_pos (.inr hr)]
    rfl
  · rw [if_neg hr, if_neg (not_or.2 ⟨hk, hr⟩)]
    cases s.cfg.demandType.get k.idx with
    | edge => cases (s.circ.table.get k).mark <;> rfl
    | level => cases (s.circ.demand.get k.idx).level <;> rfl

theorem claimedAtRun_restore (s : State) (k : Circ) :
    claimedAtRun s k = none ∨ claimedAtRun s k = some (s.circ.table.get k).mark := by
  unfold claimedAtRun
  by_cases hr : s.rating k = 0
  · exact .inl (if_pos hr)
  · rw [if_neg hr]
    cases s.demandType k with
    | edge =>
      cases hm : (s.circ.table.get k).mark
      · exact .inl rfl
      · exact .inr rfl
    | level =>
      cases s.demandLevel k
      · exact .inl rfl
      · exact .inr rfl

theorem mem_runOrder {s : State} {k : Circ} : k ∈ runOrder s ↔ k ≠ .c4 ∧ s.cfg.cls.get k ≤ 3 := by
  unfold runOrder State.classOf
  simp only [List.mem_flatMap, List.mem_filter, beq_iff_eq]
  constructor
  · rintro ⟨cls, hcls, hk, rfl⟩
    refine ⟨?_, ?_⟩
    · rintro rfl
      simp [Circ.switched] at hk
    · simp at hcls
      omega
  · rintro ⟨hk, hle⟩
    refine ⟨_, ?_, ?_, rfl⟩
    · simp
      omega
    · cases k <;> simp_all [Circ.switched]

theorem Circuits.clearMarks_get (c : Circuits) (k : Circ) :
    c.clearMarks.table.get k = { c.table.get k with mark := false } := by
  cases k <;> rfl

/-- The active span begins, with both conditions judged (R124, R130). -/
def spanBegun (s : State) : State := evaluateStages (s.setCirc { s.circ with active := true })

theorem circuitRunEntry_eq (s : State) :
    circuitRunEntry s =
      (let u := (runOrder (spanBegun s)).foldl claimAtRun (spanBegun s)
      u.setCirc u.circ.clearMarks) := rfl

/-- The requests and the table that the entry to RUN leaves (R130). -/
theorem circuitRunEntry_waiting {claims : Circ → Bool} {order : List Circ} {s : State}
    (hclaims : ∀ k ∈ order, (claimedAtRun s k).isSome = claims k)
    (horder : runOrder (spanBegun s) = order) :
    circuitRunEntry s =
      (let u := waitingAll (fun k => (s.circ.table.get k).mark) (order.filter claims) (spanBegun s)
      u.setCirc u.circ.clearMarks) := by
  have hfold : order.foldl claimAtRun (spanBegun s) =
      waitingAll (fun k => (s.circ.table.get k).mark)
        (order.filter fun k => (claimedAtRun (spanBegun s) k).isSome) (spanBegun s) :=
    foldl_claimAtRun order (spanBegun s) (claimedAtRun_restore (spanBegun s))
  have hfilter : (order.filter fun k => (claimedAtRun (spanBegun s) k).isSome) = order.filter claims :=
    List.filter_congr fun k hk => hclaims k hk
  rw [circuitRunEntry_eq, horder, hfold, hfilter]

theorem exec_circuitRunEntry_of_run {s : State} (hp : s.powered = true) (hr : s.handed.circuitRun = true)
    (hm : s.mc.mode = .run) :
    exec .circuitRunEntry s = .next (circuitRunEntry (s.setHanded { s.handed with circuitRun := false })) := by
  refine (answer_powered hp _).trans (congrArg _ ((if_pos hr).trans ?_))
  exact if_pos hm

/-- What the entry to RUN leaves, with the requests in their order (R124, R125, R130). -/
theorem circuitRunEntry_state {claims : Circ → Bool} {order : List Circ} {c1 c2 : Bool} {s : State}
    (hclaims : ∀ k ∈ order, (claimedAtRun s k).isSome = claims k) (horder : runOrder (spanBegun s) = order)
    (h1 : stage1Holds (s.setCirc { s.circ with active := true }) = c1)
    (h2 : stage2Holds (s.setCirc { s.circ with active := true }) = c2) :
    ∃ table : Five Circuit,
      (∀ k, table.get k =
        { s.circ.table.get k with
          state := if k ∈ order.filter claims then .waiting else s.circuitState k
          mark := false }) ∧
      circuitRunEntry s =
        (s.setCirc
            { s.circ with
              active := true
              table := table
              stage1 := c1
              stage2 := c2
              timer1 := if c1 then s.circ.timer1 else 0
              timer2 := if c2 then s.circ.timer2 else 0
              restoreTimer := if c1 || c2 then 0 else s.circ.restoreTimer }).setHanded
          { s.handed with
            requests :=
              s.handed.requests ++ (order.filter claims).map (creation s.cfg fun k => (s.circ.table.get k).mark)
            ownRaised := s.handed.ownRaised + bit (!(s.circ.stage1 || s.circ.stage2) && (c1 || c2)) } := by
  have hbegun : spanBegun s = _ := evaluateStages_of_active h1 h2
  have hwait := waitingAll_eq (fun k => (s.circ.table.get k).mark) (order.filter claims) (spanBegun s)
  have htable := fun k => waitingAll_table (fun k => (s.circ.table.get k).mark) (order.filter claims) k (spanBegun s)
  have hentry := circuitRunEntry_waiting hclaims horder
  generalize waitingAll (fun k => (s.circ.table.get k).mark) (order.filter claims) (spanBegun s) = w at *
  refine ⟨w.circ.clearMarks.table, fun k => ?_, ?_⟩
  · rw [Circuits.clearMarks_get, htable]
    split <;> rfl
  · rw [hentry]
    generalize w.circ.table = table at hwait
    rw [hwait, hbegun]
    rfl

/-- Settles O33. -/
theorem entriesToRunAreTaken : Obligations.EntriesToRunAreTaken := by
  refine ⟨fun s hp hr hm hoff => ?_, fun s hp hr hm => ?_, fun s hp hr => ?_⟩
  · intro claims order c1 c2
    let v := s.setHanded { s.handed with circuitRun := false }
    have hclaims : ∀ k ∈ order, (claimedAtRun v k).isSome = claims k := fun k hk =>
      claimedAtRun_switched (mem_runOrder (s := v).1 hk).1 v
    have h1 : stage1Holds (v.setCirc { v.circ with active := true }) = c1 := by
      simp only [stage1Holds, c1]
      cases hk : s.circ.kept <;> simp [v, hk]
    have h2 : stage2Holds (v.setCirc { v.circ with active := true }) = c2 := by
      simp only [stage2Holds, c2]
      cases hk : s.circ.kept <;> simp [v, hk]
    obtain ⟨table, htable, hentry⟩ := circuitRunEntry_state hclaims rfl h1 h2
    refine ⟨_, (exec_circuitRunEntry_of_run hp hr hm).trans (congrArg _ hentry), fun k => (htable k).trans ?_, rfl⟩
    have hmem : k ∈ order.filter claims ↔ (claims k && decide (s.cfg.cls.get k ≤ 3)) = true := by
      rw [List.mem_filter, Bool.and_eq_true, decide_eq_true_eq, and_comm]
      refine and_congr_right fun hk => (mem_runOrder (s := v)).trans (and_iff_right ?_)
      rintro rfl
      exact absurd hk (by simp [claims])
    have hstate : v.circuitState k = .off := hoff k
    simp only [hmem, hstate]
  · refine (answer_powered hp _).trans (congrArg _ ((if_pos hr).trans ?_))
    exact if_neg hm
  · refine (answer_powered hp _).trans (congrArg _ ((if_pos hr).trans ?_))
    by_cases hrun : (s.cfg.gateFitted && s.mc.mode == .run) = true
    · have hswap : (s.mc.mode == .run && s.cfg.gateFitted) = true := (Bool.and_comm _ _).trans hrun
      rw [hswap, Bool.or_true]
      exact if_pos hrun
    · have hswap : (s.mc.mode == .run && s.cfg.gateFitted) = false :=
        (Bool.and_comm _ _).trans (Bool.eq_false_iff.2 hrun)
      rw [hswap, Bool.or_false]
      exact if_neg hrun

end Sys2Proof.Machine

/-! # The timers of the Circuit Controller at their ends (O35) -/

namespace Sys2Proof.Machine

/-! ### The shed (R126 to R128, R155) -/

theorem firstOn_eq_none {s : State} {cls : Nat} (h : ¬∃ k ∈ s.circ.rotation.get cls, s.circuitState k = .on) :
    firstOn s cls = none :=
  List.find?_eq_none.2 fun k hk hon => h ⟨k, hk, by simpa using hon⟩

theorem firstOn_of_split {s : State} {cls : Nat} {k : Circ} {before after : List Circ}
    (hr : s.circ.rotation.get cls = before ++ k :: after) (hk : s.circuitState k = .on)
    (hb : ∀ j ∈ before, s.circuitState j ≠ .on) : firstOn s cls = some k := by
  have hnone : before.find? (fun j => s.circuitState j == .on) = none :=
    List.find?_eq_none.2 fun j hj => by simpa using hb j hj
  rw [firstOn, hr, List.find?_append, hnone, List.find?_cons_of_pos (by simp [hk])]
  rfl

theorem chooseShed_eq_none {stage : Stage} {s : State} (h : ∀ cls ∈ shedClasses stage, firstOn s cls = none) :
    chooseShed stage s = none :=
  List.findSome?_eq_none_iff.2 fun cls hcls => by rw [h cls hcls]; rfl

/-- The classes go in descending order: the first that holds an ON circuit gives it (R126). -/
theorem chooseShed_eq_some {stage : Stage} {s : State} {cls : Nat} {k : Circ} (hcls : cls ∈ shedClasses stage)
    (hfirst : firstOn s cls = some k) (hbefore : ∀ c ∈ shedClasses stage, cls < c → firstOn s c = none) :
    chooseShed stage s = some (cls, k) := by
  unfold chooseShed
  cases stage with
  | stage1 =>
    obtain rfl | rfl : cls = 3 ∨ cls = 2 := by simpa [shedClasses] using hcls
    · simp [shedClasses, hfirst]
    · simp [shedClasses, hfirst, hbefore 3 (by simp [shedClasses]) (by omega)]
  | stage2 =>
    obtain rfl | rfl | rfl : cls = 3 ∨ cls = 2 ∨ cls = 1 := by simpa [shedClasses] using hcls
    · simp [shedClasses, hfirst]
    · simp [shedClasses, hfirst, hbefore 3 (by simp [shedClasses]) (by omega)]
    · simp [shedClasses, hfirst, hbefore 3 (by simp [shedClasses]) (by omega),
        hbefore 2 (by simp [shedClasses]) (by omega)]

/-- Entry to STOPPING where circuit 4 is OFF already (R153). -/
theorem enterStopping_of_off {s : State} (h : s.circuitState .c4 = .off) :
    enterStopping s =
      s.setSaw
        { s.saw.cleared with
          state := if s.saw.clutchClosed.level then .stopping s.cfg.trel else .idle
          feed := 0 } := by
  have hnone : withdrawCircuit4 (s.setSaw { s.saw.cleared with state := .stopping s.cfg.trel, feed := 0 }) =
      s.setSaw { s.saw.cleared with state := .stopping s.cfg.trel, feed := 0 } := by
    rw [withdrawCircuit4_eq, if_neg]
    rintro ⟨-, hw | hw⟩ <;> cases h.symm.trans hw
  unfold enterStopping
  rw [hnone]
  cases hc : s.saw.clutchClosed.level <;> simp [Saw.cleared, enterIdle, hc]

theorem sawShed_of_off {s : State} (h : s.circuitState .c4 = .off) :
    sawShed s =
      s.setSaw
        (if s.saw.state.asksClutch then
          { s.saw.cleared with
            state := if s.saw.clutchClosed.level then .stopping s.cfg.trel else .idle
            feed := 0
            sawShedStops := satInc s.saw.sawShedStops }
        else s.saw) := by
  unfold sawShed
  split
  · exact enterStopping_of_off h
  · rfl

/-- What the shed of a circuit does: its state, the withdrawal, and for circuit 4 the stop of the saw (R127, R128). -/
theorem shedState_eq (k : Circ) (s : State) :
    shedState k s =
      ((s.setCirc
            { s.circ with
              table :=
                s.circ.table.set k { s.circ.table.get k with state := if k = .c4 then .off else .shed } }).setHanded
          { s.handed with requests := s.handed.requests ++ [.withdraw k] }).setSaw
        (if k = .c4 ∧ s.saw.state.asksClutch = true then
          { s.saw.cleared with
            state := if s.saw.clutchClosed.level then .stopping s.cfg.trel else .idle
            feed := 0
            sawShedStops := satInc s.saw.sawShedStops }
        else s.saw) := by
  cases k with
  | c4 =>
    have hoff : (toOffWithdrawing .c4 s).circuitState .c4 = .off := setCircuitState_circuitState_self ..
    refine (sawShed_of_off hoff).trans ?_
    simp only [true_and]
    rfl
  | _ => rfl

theorem rotate_of_split {k : Circ} {before after : List Circ} (h : (before ++ k :: after).Nodup) :
    rotate k (before ++ k :: after) = before ++ after ++ [k] := by
  obtain ⟨-, hka, hne⟩ := List.nodup_append.1 h
  have hb : before.filter (· != k) = before :=
    List.filter_eq_self.2 fun j hj => bne_iff_ne.2 (hne j hj k List.mem_cons_self)
  have ha : after.filter (· != k) = after :=
    List.filter_eq_self.2 fun j hj => bne_iff_ne.2 fun hjk => (List.nodup_cons.1 hka).1 (hjk ▸ hj)
  rw [rotate, List.filter_append, List.filter_cons_of_neg (by simp), hb, ha]

/-! ### The restore (R129) -/

/-- A count raised a number of times, each time stopping at 65,535. -/
def satIncs (n r : Nat) : Nat := if n = 0 then r else min 65535 (r + n)

theorem satIncs_satInc (n r : Nat) : satIncs n (satInc r) = satIncs (n + 1) r := by
  unfold satIncs satInc
  rw [if_neg (Nat.succ_ne_zero n)]
  split <;> omega

theorem waitingAll_setRestores (restore : Circ → Bool) (ks : List Circ) (r : Nat) (s : State) :
    waitingAll restore ks (s.setCirc { s.circ with restores := r }) =
      (waitingAll restore ks s).setCirc { (waitingAll restore ks s).circ with restores := r } := by
  induction ks generalizing s with
  | nil => rfl
  | cons k rest ih => exact ih (toWaiting k (restore k) s)

/-- The SHED circuits of a list have become WAITING in turn, each counted (R129). -/
def restoredAll (ks : List Circ) (s : State) : State :=
  (waitingAll (fun _ => true) ks s).setCirc
    { (waitingAll (fun _ => true) ks s).circ with restores := satIncs ks.length s.circ.restores }

theorem restoredAll_cons (k : Circ) (ks : List Circ) (s : State) :
    restoredAll ks
        ((toWaiting k true s).setCirc { (toWaiting k true s).circ with restores := satInc s.circ.restores }) =
      restoredAll (k :: ks) s := by
  have hcount := satIncs_satInc ks.length s.circ.restores
  rw [restoredAll, waitingAll_setRestores, restoredAll, waitingAll_cons, List.length_cons, ← hcount]
  rfl

theorem foldl_restoreCircuit (l : List Circ) :
    ∀ s : State, l.Nodup →
      l.foldl restoreCircuit s = restoredAll (l.filter fun k => s.circuitState k == .shed) s := by
  induction l with
  | nil => exact fun _ _ => rfl
  | cons k rest ih =>
    intro s hn
    obtain ⟨hk, hn⟩ := List.nodup_cons.1 hn
    rw [List.foldl_cons, ih _ hn]
    by_cases hshed : s.circuitState k = .shed
    · have hgoes : restoreCircuit s k =
          (toWaiting k true s).setCirc { (toWaiting k true s).circ with restores := satInc s.circ.restores } :=
        if_pos hshed
      have hsame : (rest.filter fun j => (restoreCircuit s k).circuitState j == .shed) =
          rest.filter fun j => s.circuitState j == .shed :=
        List.filter_congr fun j hj => by
          have hne : j ≠ k := fun h => hk (h ▸ hj)
          rw [hgoes]
          exact congrArg (· == CircuitState.shed) (setCircuitState_circuitState_of_ne hne .waiting s)
      rw [hsame, hgoes, List.filter_cons_of_pos (by simp [hshed]), restoredAll_cons]
    · have hstays : restoreCircuit s k = s := if_neg hshed
      rw [hstays, List.filter_cons_of_neg (by simpa using hshed)]

/-- What the restore leaves, with the requests in their order (R129). -/
theorem restoreAll_state {s : State} {order restored : List Circ}
    (horder : s.circ.rotation.k0 ++ s.circ.rotation.k1 ++ s.circ.rotation.k2 ++ s.circ.rotation.k3 = order)
    (hrestored : (order.filter fun k => s.circuitState k == .shed) = restored) (hn : order.Nodup)
    (hne : restored ≠ []) :
    ∃ table : Five Circuit,
      (∀ k, table.get k =
        if k ∈ restored then { s.circ.table.get k with state := .waiting } else s.circ.table.get k) ∧
      restoreAll s =
        (s.setCirc
            { s.circ with
              table := table
              restores := min 65535 (s.circ.restores + restored.length)
              restoreTimer := 0 }).setHanded
          { s.handed with requests := s.handed.requests ++ restored.map (creation s.cfg fun _ => true) } := by
  have hall : restoreAll s = (restoredAll restored s).setCirc { (restoredAll restored s).circ with restoreTimer := 0
      } := by
    rw [← hrestored, ← foldl_restoreCircuit order s hn, ← horder]
    rfl
  have hcount : satIncs restored.length s.circ.restores = min 65535 (s.circ.restores + restored.length) :=
    if_neg fun h => hne (List.length_eq_zero_iff.1 h)
  have hwait := waitingAll_eq (fun _ => true) restored s
  have htable := fun k => waitingAll_table (fun _ => true) restored k s
  rw [restoredAll, hcount] at hall
  generalize waitingAll (fun _ => true) restored s = w at *
  refine ⟨w.circ.table, htable, ?_⟩
  generalize w.circ.table = table at hwait
  rw [hall, hwait]
  rfl

/-- What the shed of the first ON circuit of a class's list leaves (R126 to R128, R155). -/
theorem shedOne_state {st : Stage} {s : State} {cls : Nat} {k : Circ} {list : List Circ}
    (hchoice : chooseShed st (setTimer st 0 s) = some (cls, k)) (hlist : rotate k (s.circ.rotation.get cls) = list) :
    shedOne st (setTimer st 0 s) =
      ((s.setCirc
            { s.circ with
              table := s.circ.table.set k { s.circ.table.get k with state := if k = .c4 then .off else .shed }
              rotation := s.circ.rotation.set cls list
              timer1 := if st = .stage1 then 0 else s.circ.timer1
              timer2 := if st = .stage2 then 0 else s.circ.timer2
              sheds1 := if st = .stage1 then satInc s.circ.sheds1 else s.circ.sheds1
              sheds2 := if st = .stage2 then satInc s.circ.sheds2 else s.circ.sheds2 }).setHanded
          { s.handed with requests := s.handed.requests ++ [.withdraw k] }).setSaw
        (if k = .c4 ∧ s.saw.state.asksClutch = true then
          { s.saw.cleared with
            state := if s.saw.clutchClosed.level then .stopping s.cfg.trel else .idle
            feed := 0
            sawShedStops := satInc s.saw.sawShedStops }
        else s.saw) := by
  rw [shedOne_of_some hchoice, shedState_eq, ← hlist]
  cases st <;> rfl

theorem exec_stageShed_of_due {st : Stage} {s : State} (hp : s.powered = true) (hcond : s.circ.condition st = true)
    (htimer : s.circ.timer st + 1 = s.threshold st) :
    exec (.stageShed st) s = .next (shedOne st (setTimer st 0 s)) := by
  have hdue : (s.circ.condition st && s.circ.timer st + 1 == s.threshold st) = true := by simp [hcond, htimer]
  exact (answer_powered hp _).trans (congrArg _ (if_pos hdue))

theorem exec_restore_of_due {s : State} {k : Circ} (hp : s.powered = true) (ha : s.circ.active = true)
    (h1 : s.circ.stage1 = false) (h2 : s.circ.stage2 = false)
    (htimer : s.circ.restoreTimer + 1 = s.restoreThreshold) (hk : s.circuitState k = .shed) :
    exec .restore s = .next (restoreAll s) := by
  have hany : anyShed s = true := List.any_eq_true.2 ⟨k, by cases k <;> simp [Circ.all], by simp [hk]⟩
  have hdue : (restoreCounts s && s.circ.restoreTimer + 1 == s.restoreThreshold) = true := by
    simp [restoreCounts, ha, h1, h2, hany, htimer]
  exact (answer_powered hp _).trans (congrArg _ (if_pos hdue))

theorem firstOn_setTimer (st : Stage) (n : Nat) (s : State) (cls : Nat) :
    firstOn (setTimer st n s) cls = firstOn s cls := by
  cases st <;> rfl

/-- Settles O35. -/
theorem circuitTimersExpire : Obligations.CircuitTimersExpire := by
  refine ⟨fun k s hp ha hpause => ?_, fun st s hp hcond htimer => ?_, fun s hp ha h1 h2 htimer => ?_⟩
  · intro asserted
    have hdue : (s.circ.active && s.circuitState k == .paused 1) = true := by simp [ha, hpause]
    refine (answer_powered hp _).trans (congrArg _ ((if_pos hdue).trans ?_))
    by_cases hd : asserted = true
    · rw [if_pos hd, if_pos hd]
      exact if_pos hd
    · rw [if_neg hd, if_neg hd, List.append_nil]
      exact if_neg hd
  · intro classes someOn
    have hclasses : shedClasses st = classes := by cases st <;> rfl
    have hnone : ∀ cls, ¬someOn cls → firstOn (setTimer st 0 s) cls = none := fun cls h =>
      (firstOn_setTimer ..).trans (firstOn_eq_none h)
    rw [exec_stageShed_of_due hp hcond htimer]
    refine ⟨fun hall => ?_, fun cls k before after hcls hhigher hsplit hon hbefore hn => ?_⟩
    · rw [shedOne_of_none (chooseShed_eq_none fun cls hcls => hnone cls (hall cls (hclasses ▸ hcls)))]
      cases st <;> rfl
    · have hfirst : firstOn (setTimer st 0 s) cls = some k :=
        (firstOn_setTimer ..).trans (firstOn_of_split hsplit hon hbefore)
      have hchoice : chooseShed st (setTimer st 0 s) = some (cls, k) :=
        chooseShed_eq_some (hclasses ▸ hcls) hfirst fun c hc hlt => hnone c (hhigher c (hclasses ▸ hc) hlt)
      have hlist : rotate k (s.circ.rotation.get cls) = before ++ after ++ [k] := by
        rw [hsplit]
        exact rotate_of_split (hsplit ▸ hn)
      have hle : cls ≤ 3 := (shedClasses_le (hclasses ▸ hcls)).2
      refine ⟨_, congrArg _ (shedOne_state hchoice hlist), four_get_set_self .., fun c hc hne => ?_, rfl, rfl,
        fun h => if_neg ?_, fun hk hasks => if_pos ⟨hk, hasks⟩, rfl⟩
      · exact four_get_set_of_ne _ hne hc hle _
      · rintro ⟨hk, hasks⟩
        obtain h | h := h
        · exact h hk
        · exact Bool.false_ne_true (h.symm.trans hasks)
  · intro order restored hn hne
    obtain ⟨k, hk⟩ := List.exists_mem_of_ne_nil _ hne
    have hshed : s.circuitState k = .shed := by simpa using (List.mem_filter.1 hk).2
    obtain ⟨table, htable, hall⟩ := restoreAll_state rfl rfl hn hne
    exact ⟨_, (exec_restore_of_due hp ha h1 h2 htimer hshed).trans (congrArg _ hall), htable, rfl⟩

end Sys2Proof.Machine

/-! # The demand events and the pauses of a tick (O31) -/

namespace Sys2Proof.Machine

/-! ### The four switched circuits, each acting for itself -/

/-- The state with another circuit table and other requests handed. -/
def State.circuitsAs (s : State) (table : Five Circuit) (requests : List Request) : State :=
  (s.setCirc { s.circ with table := table }).setHanded { s.handed with requests := requests }

/-- One circuit takes a new entry in the table, and hands requests. -/
def actOn (k : Circ) (c : Circuit) (rs : List Request) (s : State) : State :=
  s.circuitsAs (s.circ.table.set k c) (s.handed.requests ++ rs)

theorem actOn_circuitsAs (k : Circ) (c : Circuit) (rs : List Request) (s : State) (table : Five Circuit)
    (requests : List Request) :
    actOn k c rs (s.circuitsAs table requests) = s.circuitsAs (table.set k c) (requests ++ rs) := rfl

theorem actOn_none {k : Circ} {c : Circuit} {s : State} (hc : c = s.circ.table.get k) : actOn k c [] s = s := by
  rw [actOn, hc, five_set_get_self, List.append_nil]
  rfl

@[simp] theorem actOn_cfg (k : Circ) (c : Circuit) (rs : List Request) (s : State) : (actOn k c rs s).cfg = s.cfg := rfl

@[simp] theorem actOn_active (k : Circ) (c : Circuit) (rs : List Request) (s : State) :
    (actOn k c rs s).circ.active = s.circ.active := rfl

@[simp] theorem actOn_demand (k : Circ) (c : Circuit) (rs : List Request) (s : State) :
    (actOn k c rs s).circ.demand = s.circ.demand := rfl

theorem actOn_get_of_ne {j k : Circ} (h : j ≠ k) (c : Circuit) (rs : List Request) (s : State) :
    (actOn k c rs s).circ.table.get j = s.circ.table.get j := five_get_set_of_ne _ h _

/-- A circuit's own entry, by its state. -/
theorem entry_eq {k : Circ} {s : State} {st : CircuitState} (h : s.circuitState k = st) :
    (⟨st, (s.circ.table.get k).mark⟩ : Circuit) = s.circ.table.get k := by
  rw [← h]
  rfl

/-- The four switched circuits act, in ascending index. -/
def actOnAll (f : Circ → Circuit) (r : Circ → List Request) (s : State) : State :=
  actOn .c3 (f .c3) (r .c3) (actOn .c2 (f .c2) (r .c2) (actOn .c1 (f .c1) (r .c1) (actOn .c0 (f .c0) (r .c0) s)))

theorem actOnAll_eq (f : Circ → Circuit) (r : Circ → List Request) (s : State) :
    actOnAll f r s =
      s.circuitsAs ⟨f .c0, f .c1, f .c2, f .c3, s.circ.table.c4⟩ (s.handed.requests ++ Circ.switched.flatMap r) := by
  have hrequests : (((s.handed.requests ++ r .c0) ++ r .c1) ++ r .c2) ++ r .c3 =
      s.handed.requests ++ Circ.switched.flatMap r := by
    simp only [Circ.switched, List.flatMap_cons, List.flatMap_nil, List.append_nil, List.append_assoc]
  have hfirst : actOn .c0 (f .c0) (r .c0) s =
      s.circuitsAs (s.circ.table.set .c0 (f .c0)) (s.handed.requests ++ r .c0) := rfl
  rw [actOnAll, hfirst, actOn_circuitsAs, actOn_circuitsAs, actOn_circuitsAs, hrequests]
  rfl

theorem actOnAll_table (f : Circ → Circuit) (r : Circ → List Request) (s : State) (k : Circ) :
    (actOnAll f r s).circ.table.get k = if k = .c4 then s.circ.table.get .c4 else f k := by
  rw [actOnAll_eq]
  cases k <;> rfl

/-! ### A demand event (R118, R120, R132) -/

/-- The state of a circuit after its demand at a tick, while active: `rose` is the event that asks for power, `gives`
the one that gives it up. -/
def demandState (rose gives : Bool) : CircuitState → CircuitState
  | .off => if rose then .waiting else .off
  | .waiting => if gives then .off else .waiting
  | .on => if gives then .off else .on
  | .shed => if gives then .off else .shed
  | .paused r => .paused r

/-- The requests of a circuit at its demand event, while active. -/
def demandRequests (cfg : Config) (k : Circ) (rose gives : Bool) : CircuitState → List Request
  | .off => if rose then [creation cfg (fun _ => false) k] else []
  | .waiting => if gives then [.withdraw k] else []
  | .on => if gives then [.withdraw k] else []
  | _ => []

theorem demandState_none (st : CircuitState) : demandState false false st = st := by
  cases st <;> rfl

theorem demandRequests_none (cfg : Config) (k : Circ) (st : CircuitState) :
    demandRequests cfg k false false st = [] := by
  cases st <;> rfl

section
variable (k : Circ) (s : State)

/-- A circuit after its demand event, while active. -/
def demanded (rose gives : Bool) : State :=
  actOn k ⟨demandState rose gives (s.circuitState k), (s.circ.table.get k).mark⟩
    (demandRequests s.cfg k rose gives (s.circuitState k)) s

theorem demanded_none : demanded k s false false = s := by
  rw [demanded, demandState_none, demandRequests_none]
  exact actOn_none rfl

theorem toWaiting_eq_actOn (b : Bool) :
    toWaiting k b s = actOn k ⟨.waiting, (s.circ.table.get k).mark⟩ [creation s.cfg (fun _ => b) k] s := rfl

theorem toOffWithdrawing_eq_actOn :
    toOffWithdrawing k s = actOn k ⟨.off, (s.circ.table.get k).mark⟩ [.withdraw k] s := rfl

theorem setCircuitState_eq_actOn (st : CircuitState) :
    setCircuitState k st s = actOn k ⟨st, (s.circ.table.get k).mark⟩ [] s := by
  rw [actOn, List.append_nil]
  rfl

theorem levelAsserted_eq : levelAsserted k s = demanded k s true false := by
  unfold levelAsserted demanded
  cases h : s.circuitState k with
  | off => rfl
  | _ => exact (actOn_none (entry_eq h)).symm

theorem levelDropped_eq : levelDropped k s = demanded k s false true := by
  unfold levelDropped demanded
  cases h : s.circuitState k with
  | off => exact (actOn_none (entry_eq h)).symm
  | paused => exact (actOn_none (entry_eq h)).symm
  | shed => exact setCircuitState_eq_actOn ..
  | _ => rfl

theorem edgePressed_eq : edgePressed k s = demanded k s true true := by
  unfold edgePressed demanded
  cases h : s.circuitState k with
  | paused => exact (actOn_none (entry_eq h)).symm
  | shed => exact setCircuitState_eq_actOn ..
  | _ => rfl

end

/-- The demand input of a fitted circuit asserts at a sample (R114, R116). -/
def rises (s : State) (k : Circ) (d : Debouncer) (v : Bool) : Bool := s.rating k != 0 && d.asserts v

/-- The demand input of a fitted circuit drops at a sample (R114, R116). -/
def falls (s : State) (k : Circ) (d : Debouncer) (v : Bool) : Bool := s.rating k != 0 && d.drops v

/-- The event by which a circuit gives power up: the next press of an EDGE circuit, the fall of a LEVEL circuit. -/
def yields (s : State) (k : Circ) (d : Debouncer) (v : Bool) : Bool :=
  if s.demandType k == .edge then rises s k d v else falls s k d v

theorem drops_of_asserts {d : Debouncer} {v : Bool} (h : d.asserts v = true) : d.drops v = false := by
  unfold Debouncer.asserts at h
  unfold Debouncer.drops
  cases hl : d.level <;> simp_all

theorem demandEvent_of_active {k : Circ} {s : State} (ha : s.circ.active = true) (hr : s.rating k ≠ 0) (b : Bool) :
    demandEvent k b s = demanded k s b (if s.demandType k == .edge then b else !b) := by
  unfold demandEvent
  rw [if_neg hr]
  cases s.demandType k with
  | edge =>
    cases b
    · exact (demanded_none k s).symm
    · exact (if_pos ha).trans (edgePressed_eq k s)
  | level =>
    cases b
    · exact (if_pos ha).trans (levelDropped_eq k s)
    · exact (if_pos ha).trans (levelAsserted_eq k s)

theorem takeDemand_of_active {k : Circ} {s : State} (ha : s.circ.active = true) (d : Debouncer) (v : Bool) :
    takeDemand k d v s = demanded k s (rises s k d v) (yields s k d v) := by
  by_cases hr : s.rating k = 0
  · have hstays : ∀ b, demandEvent k b s = s := fun b => if_pos hr
    have hrises : rises s k d v = false := by simp [rises, hr]
    have hfalls : falls s k d v = false := by simp [falls, hr]
    rw [takeDemand, hstays, hstays, ite_self, ite_self, yields, hrises, hfalls, ite_self, demanded_none]
  · have hrises : rises s k d v = d.asserts v := by simp [rises, hr]
    have hfalls : falls s k d v = d.drops v := by simp [falls, hr]
    rw [takeDemand, yields, hrises, hfalls]
    by_cases hup : d.asserts v = true
    · rw [if_pos hup, demandEvent_of_active ha hr, hup, drops_of_asserts hup]
      rfl
    · rw [if_neg hup, Bool.eq_false_iff.2 hup]
      by_cases hdown : d.drops v = true
      · rw [if_pos hdown, demandEvent_of_active ha hr, hdown]
        rfl
      · rw [if_neg hdown, Bool.eq_false_iff.2 hdown, ite_self, demanded_none]

/-- Outside the active span only the press of an EDGE circuit acts: it clears the mark (R132). -/
theorem takeDemand_of_inactive {k : Circ} {s : State} (ha : s.circ.active = false) (d : Debouncer) (v : Bool) :
    takeDemand k d v s =
      actOn k
        ⟨s.circuitState k, if rises s k d v && s.demandType k == .edge then false else (s.circ.table.get k).mark⟩
        [] s := by
  have hna : ¬s.circ.active = true := by simp [ha]
  have hquiet : ∀ {m : Bool}, m = (s.circ.table.get k).mark → s = actOn k ⟨s.circuitState k, m⟩ [] s := fun h =>
    (actOn_none (by rw [h]; rfl)).symm
  by_cases hr : s.rating k = 0
  · have hstays : ∀ b, demandEvent k b s = s := fun b => if_pos hr
    have hrises : rises s k d v = false := by simp [rises, hr]
    rw [takeDemand, hstays, hstays, ite_self, ite_self, hrises]
    exact hquiet rfl
  · have hrises : rises s k d v = d.asserts v := by simp [rises, hr]
    have hdropped : demandEvent k false s = s := by
      unfold demandEvent
      rw [if_neg hr]
      cases s.demandType k
      · exact if_neg hna
      · rfl
    rw [takeDemand, hdropped, ite_self, hrises]
    by_cases hup : d.asserts v = true
    · rw [if_pos hup, hup, Bool.true_and]
      unfold demandEvent
      rw [if_neg hr]
      cases s.demandType k with
      | level =>
        refine (if_neg hna).trans ?_
        exact hquiet rfl
      | edge =>
        refine (if_neg hna).trans ?_
        rw [actOn, List.append_nil]
        rfl
    · rw [if_neg hup, Bool.eq_false_iff.2 hup]
      exact hquiet rfl

/-! ### The demand step and the pause step (R119, R123) -/

/-- The demand input of a switched circuit. -/
def Pins.demandOf (p : Pins) : Circ → Bool
  | .c0 => p.demand0
  | .c1 => p.demand1
  | .c2 => p.demand2
  | _ => p.demand3

/-- The demand of a switched circuit asserts at this tick. -/
def roseAt (p : Pins) (s : State) (k : Circ) : Bool := rises s k (s.circ.demand.get k.idx) (Pins.demandOf p k)

/-- The event of this tick by which a switched circuit gives power up. -/
def yieldsAt (p : Pins) (s : State) (k : Circ) : Bool := yields s k (s.circ.demand.get k.idx) (Pins.demandOf p k)

/-- Operations on the four switched circuits, each of which reads its own circuit only, are done together. -/
theorem actOnAll_of_each {op : Circ → State → State} {f : Circ → Circuit} {r : Circ → List Request} {s : State}
    (h : ∀ k (t : State), t.circ.table.get k = s.circ.table.get k → t.cfg = s.cfg → t.circ.active = s.circ.active →
      t.circ.demand = s.circ.demand → op k t = actOn k (f k) (r k) t) :
    op .c3 (op .c2 (op .c1 (op .c0 s))) = actOnAll f r s := by
  have h0 := h .c0 s rfl rfl rfl rfl
  have h1 := h .c1 (actOn .c0 (f .c0) (r .c0) s) (by simp [actOn_get_of_ne]) (by simp) (by simp) (by simp)
  have h2 := h .c2 (actOn .c1 (f .c1) (r .c1) (actOn .c0 (f .c0) (r .c0) s)) (by simp [actOn_get_of_ne]) (by simp)
    (by simp) (by simp)
  have h3 := h .c3 (actOn .c2 (f .c2) (r .c2) (actOn .c1 (f .c1) (r .c1) (actOn .c0 (f .c0) (r .c0) s)))
    (by simp [actOn_get_of_ne]) (by simp) (by simp) (by simp)
  rw [h0, h1, h2, h3, actOnAll]

theorem demandStep_eq (p : Pins) (s : State) :
    demandStep p s =
      takeDemand .c3 (s.circ.demand.get 3) (Pins.demandOf p .c3)
        (takeDemand .c2 (s.circ.demand.get 2) (Pins.demandOf p .c2)
          (takeDemand .c1 (s.circ.demand.get 1) (Pins.demandOf p .c1)
            (takeDemand .c0 (s.circ.demand.get 0) (Pins.demandOf p .c0) (sampleDemand p s)))) := rfl

section
variable {k : Circ} {s t : State} (htable : t.circ.table.get k = s.circ.table.get k) (hcfg : t.cfg = s.cfg)

include hcfg in
theorem rises_congr (d : Debouncer) (v : Bool) : rises t k d v = rises s k d v := by
  rw [rises, rises, State.rating, State.rating, hcfg]

include hcfg in
theorem yields_congr (d : Debouncer) (v : Bool) : yields t k d v = yields s k d v := by
  rw [yields, yields, rises_congr hcfg, State.demandType, State.demandType, falls, falls, State.rating, State.rating,
    hcfg]

include htable in
theorem circuitState_congr : t.circuitState k = s.circuitState k := congrArg Circuit.state htable

end

theorem demandStep_of_active {p : Pins} {s : State} (ha : s.circ.active = true) :
    demandStep p s =
      actOnAll
        (fun k =>
          ⟨demandState (roseAt p s k) (yieldsAt p s k) (s.circuitState k), (s.circ.table.get k).mark⟩)
        (fun k => demandRequests s.cfg k (roseAt p s k) (yieldsAt p s k) (s.circuitState k))
        (sampleDemand p s) := by
  refine (demandStep_eq p s).trans (actOnAll_of_each (s := sampleDemand p s)
    (op := fun k t => takeDemand k (s.circ.demand.get k.idx) (Pins.demandOf p k) t)
    fun k t htable hcfg hact _ => ?_)
  have htable : t.circ.table.get k = s.circ.table.get k := htable
  have hcfg : t.cfg = s.cfg := hcfg
  rw [takeDemand_of_active (hact.trans ha), demanded, rises_congr hcfg, yields_congr hcfg, circuitState_congr htable,
    htable, hcfg]
  rfl

theorem demandStep_of_inactive {p : Pins} {s : State} (ha : s.circ.active = false) :
    demandStep p s =
      actOnAll
        (fun k =>
          ⟨s.circuitState k,
            if roseAt p s k && s.demandType k == .edge then false else (s.circ.table.get k).mark⟩)
        (fun _ => []) (sampleDemand p s) := by
  refine (demandStep_eq p s).trans (actOnAll_of_each (s := sampleDemand p s)
    (op := fun k t => takeDemand k (s.circ.demand.get k.idx) (Pins.demandOf p k) t)
    fun k t htable hcfg hact _ => ?_)
  have htable : t.circ.table.get k = s.circ.table.get k := htable
  have hcfg : t.cfg = s.cfg := hcfg
  rw [takeDemand_of_inactive (hact.trans ha), rises_congr hcfg, circuitState_congr htable, htable, State.demandType,
    hcfg]
  rfl

/-- The state of a switched circuit after its pause is counted. -/
def pausedState (level : Bool) : CircuitState → CircuitState
  | .paused r => if r ≤ 1 then if level then .waiting else .off else .paused (r - 1)
  | st => st

/-- The requests of a switched circuit whose pause is counted. -/
def pauseRequests (cfg : Config) (k : Circ) (level : Bool) : CircuitState → List Request
  | .paused r => if r ≤ 1 ∧ level = true then [creation cfg (fun _ => false) k] else []
  | _ => []

theorem countPause_eq (k : Circ) (s : State) :
    countPause k s =
      actOn k ⟨pausedState (s.demandLevel k) (s.circuitState k), (s.circ.table.get k).mark⟩
        (pauseRequests s.cfg k (s.demandLevel k) (s.circuitState k)) s := by
  unfold countPause
  cases h : s.circuitState k with
  | paused r =>
    simp only [pausedState, pauseRequests]
    by_cases hr : r ≤ 1
    · by_cases hl : s.demandLevel k = true
      · simp only [pauseOut, hr, hl, true_and, if_true]
        rfl
      · simp only [if_pos hr, pauseOut, hl, Bool.false_eq_true, and_false, if_false]
        exact setCircuitState_eq_actOn ..
    · simp only [hr, false_and, if_false]
      exact setCircuitState_eq_actOn ..
  | _ => exact (actOn_none (entry_eq h)).symm

theorem pauseStep_of_active {s : State} (ha : s.circ.active = true) :
    pauseStep s =
      actOnAll
        (fun k => ⟨pausedState (s.demandLevel k) (s.circuitState k), (s.circ.table.get k).mark⟩)
        (fun k => pauseRequests s.cfg k (s.demandLevel k) (s.circuitState k)) s := by
  have hfold : pauseStep s = countPause .c3 (countPause .c2 (countPause .c1 (countPause .c0 s))) := if_pos ha
  refine hfold.trans (actOnAll_of_each (op := countPause) fun k t htable hcfg _ hdemand => ?_)
  have hlevel : t.demandLevel k = s.demandLevel k := by rw [State.demandLevel, State.demandLevel, hdemand]
  rw [countPause_eq, hlevel, circuitState_congr htable, htable, hcfg]

theorem pauseStep_of_inactive {s : State} (ha : s.circ.active = false) : pauseStep s = s := if_neg (by simp [ha])

/-! ### The stages and the restore, where no condition holds (R125, R129) -/

theorem stageStep_of_not_holding {st : Stage} {s : State} (h : s.circ.condition st = false) :
    stageStep st s = setTimer st 0 s := if_neg (by simp [h])

/-- Without a stage condition the timers of the stages are 0, and the restore timer counts while a circuit is SHED. -/
theorem stages_and_restore_of_quiet {s : State} (h1 : s.circ.stage1 = false) (h2 : s.circ.stage2 = false)
    (hbelow : s.circ.restoreTimer + 1 < s.restoreThreshold) :
    restoreStep (stageStep .stage1 (stageStep .stage2 s)) =
      s.setCirc
        { s.circ with
          timer1 := 0
          timer2 := 0
          restoreTimer := if s.circ.active && anyShed s then s.circ.restoreTimer + 1 else 0 } := by
  rw [stageStep_of_not_holding (st := .stage2) (s := s) h2,
    stageStep_of_not_holding (st := .stage1) (s := setTimer .stage2 0 s) h1]
  let t := setTimer .stage1 0 (setTimer .stage2 0 s)
  have hcounts : restoreCounts t = (s.circ.active && anyShed s) := by
    have h : restoreCounts t = (s.circ.active && !s.circ.stage1 && !s.circ.stage2 && anyShed s) := rfl
    rw [h, h1, h2, Bool.not_false, Bool.and_true, Bool.and_true]
  have hmore : ¬t.restoreThreshold ≤ t.circ.restoreTimer + 1 := Nat.not_le.2 hbelow
  change restoreStep t = _
  unfold restoreStep
  rw [hcounts, if_neg hmore]
  split <;> rfl

theorem State.circuitsAs_circuitsAs (s : State) (a b : Five Circuit) (q r : List Request) :
    (s.circuitsAs a q).circuitsAs b r = s.circuitsAs b r := rfl

theorem actOnAll_requests (f : Circ → Circuit) (r : Circ → List Request) (s : State) :
    (actOnAll f r s).handed.requests = s.handed.requests ++ Circ.switched.flatMap r := by
  rw [actOnAll_eq]
  rfl

/-- What the demand step and the pause step do, while active. -/
theorem demand_and_pauses_of_active {p : Pins} {s : State} (ha : s.circ.active = true) :
    ∃ table : Five Circuit,
      (∀ k, table.get k =
        if k = .c4 then s.circ.table.get .c4
        else
          ⟨pausedState ((s.circ.demand.get k.idx).sample (Pins.demandOf p k)).level
              (demandState (roseAt p s k) (yieldsAt p s k) (s.circuitState k)),
            (s.circ.table.get k).mark⟩) ∧
      pauseStep (demandStep p s) =
        (sampleDemand p s).circuitsAs table
          (s.handed.requests ++
            Circ.switched.flatMap
                (fun k => demandRequests s.cfg k (roseAt p s k) (yieldsAt p s k) (s.circuitState k)) ++
            Circ.switched.flatMap fun k =>
              pauseRequests s.cfg k ((s.circ.demand.get k.idx).sample (Pins.demandOf p k)).level
                (demandState (roseAt p s k) (yieldsAt p s k) (s.circuitState k))) := by
  have hactive : (demandStep p s).circ.active = true := by
    rw [demandStep_of_active ha, actOnAll_eq]
    exact ha
  rw [pauseStep_of_active hactive, demandStep_of_active ha, actOnAll_eq, actOnAll_eq, State.circuitsAs_circuitsAs]
  refine ⟨_, fun k => ?_, congrArg ((sampleDemand p s).circuitsAs _) (congrArg (_ ++ ·) ?_)⟩
  · cases k <;> rfl
  · simp only [Circ.switched, List.flatMap_cons, List.flatMap_nil]
    rfl

/-- A tick at which no stage condition holds and the restore is not due (R123). -/
theorem circuitTick_of_quiet {p : Pins} {s : State} {table : Five Circuit} {requests : List Request}
    (hv : pauseStep (demandStep p s) = (sampleDemand p s).circuitsAs table requests)
    (h1 : s.circ.stage1 = false) (h2 : s.circ.stage2 = false)
    (hbelow : s.circ.restoreTimer + 1 < s.restoreThreshold) :
    circuitTick p s =
      (s.setCirc
          { s.circ with
            table := table
            demand := (sampleDemand p s).circ.demand
            timer1 := 0
            timer2 := 0
            restoreTimer :=
              if s.circ.active && Circ.all.any (fun k => (table.get k).state == .shed) then s.circ.restoreTimer + 1
              else 0 }).setHanded { s.handed with requests := requests } := by
  rw [circuitTick, hv]
  exact stages_and_restore_of_quiet (s := (sampleDemand p s).circuitsAs table requests) h1 h2 hbelow

/-- Settles O31. -/
theorem demandEventsAreTaken : Obligations.DemandEventsAreTaken := by
  intro p s hp hw h1 h2 hbelow hpause demand fitted edge rose fell givesUp after asked
  have hsampled : ∀ k : Circ, demand.get k.idx = (s.circ.demand.get k.idx).sample (Pins.demandOf p k) := fun k => by
    cases k <;> rfl
  have hrose : ∀ k, k ≠ .c4 → roseAt p s k = rose k := fun k hk => by
    simp only [roseAt, rises, rose, fitted, hsampled, Debouncer.asserts, State.rating, bne_iff_ne.2 hk, Bool.true_and,
      Bool.and_assoc]
  have hyields : ∀ k, k ≠ .c4 → yieldsAt p s k = givesUp k := fun k hk => by
    have hr := hrose k hk
    simp only [roseAt] at hr
    simp only [yieldsAt, yields, hr, givesUp, edge, State.demandType, falls, fell, fitted, hsampled, Debouncer.drops,
      State.rating, bne_iff_ne.2 hk, Bool.true_and, Bool.and_assoc]
  have hentry : ∀ table : Five Circuit, (∀ k, table.get k =
      if k = .c4 then s.circ.table.get .c4
      else
        ⟨pausedState ((s.circ.demand.get k.idx).sample (Pins.demandOf p k)).level
            (demandState (roseAt p s k) (yieldsAt p s k) (s.circuitState k)),
          (s.circ.table.get k).mark⟩) → ∀ k, table.get k = ⟨after k, (s.circ.table.get k).mark⟩ := by
    intro table htable k
    rw [htable]
    by_cases hk : k = .c4
    · subst hk
      have hkept : after .c4 = s.circuitState .c4 := by
        cases h : s.circuitState .c4 <;> simp [after, h, rose, givesUp, fell, fitted]
      rw [if_pos rfl, hkept]
      rfl
    · rw [if_neg hk, hrose k hk, hyields k hk]
      refine congrArg (Circuit.mk · _) ?_
      cases h : s.circuitState k with
      | paused r =>
        have hr : ¬r ≤ 1 := by have := hpause k r h; omega
        simp only [after, h, demandState, pausedState, hr, if_false, hk]
      | off => cases hr : rose k <;> simp [after, h, demandState, pausedState, hr]
      | _ => cases hg : givesUp k <;> simp [after, h, demandState, pausedState, hg]
  cases ha : s.circ.active with
  | true =>
    obtain ⟨table, htable, hv⟩ := demand_and_pauses_of_active (p := p) ha
    have hasked : (Circ.switched.flatMap fun k =>
        demandRequests s.cfg k (roseAt p s k) (yieldsAt p s k) (s.circuitState k)) = Circ.switched.flatMap asked :=
      List.flatMap_congr fun k hk => by
        have hne : k ≠ .c4 := by rintro rfl; simp [Circ.switched] at hk
        rw [hrose k hne, hyields k hne]
        cases h : s.circuitState k <;> simp only [asked, h] <;> rfl
    have hpauses : (Circ.switched.flatMap fun k =>
        pauseRequests s.cfg k ((s.circ.demand.get k.idx).sample (Pins.demandOf p k)).level
          (demandState (roseAt p s k) (yieldsAt p s k) (s.circuitState k))) = [] :=
      List.flatMap_eq_nil_iff.2 fun k _ => by
        cases h : s.circuitState k with
        | paused r =>
          have hr : ¬r ≤ 1 := by have := hpause k r h; omega
          simp only [demandState, pauseRequests, hr, false_and, if_false]
        | off => cases roseAt p s k <;> rfl
        | _ => cases yieldsAt p s k <;> rfl
    rw [hasked, hpauses, List.append_nil] at hv
    have hentries := hentry table htable
    have hany : Circ.all.any (fun k => (table.get k).state == .shed) = Circ.all.any fun k => after k == .shed := by
      simp only [hentries]
    refine ⟨_, (exec_stationTick_of_last .circuit p hp hw).trans
      (congrArg _ (congrArg (State.setTime · _) (circuitTick_of_quiet hv h1 h2 hbelow))), rfl,
        fun _ => ⟨hentries, rfl, ?_⟩, nofun⟩
    rw [← hany]
    exact if_congr (by rw [ha, Bool.true_and]) rfl rfl
  | false =>
    have hv : pauseStep (demandStep p s) = _ := (pauseStep_of_inactive (by
      rw [demandStep_of_inactive ha, actOnAll_eq]
      exact ha)).trans ((demandStep_of_inactive ha).trans (actOnAll_eq ..))
    refine ⟨_, (exec_stationTick_of_last .circuit p hp hw).trans
      (congrArg _ (congrArg (State.setTime · _) (circuitTick_of_quiet hv h1 h2 hbelow))), rfl, nofun,
        fun _ => ⟨fun k => ?_, ?_, ?_⟩⟩
    · by_cases hk : k = .c4
      · subst hk
        rfl
      · rw [← hrose k hk]
        cases k <;> first | rfl | exact absurd rfl hk
    · have hnone : Circ.switched.flatMap (fun _ => ([] : List Request)) = [] := rfl
      exact (congrArg (s.handed.requests ++ ·) hnone).trans (List.append_nil _)
    · exact if_neg (by simp [ha])

end Sys2Proof.Machine

/-! # What a tick counts in the Circuit Controller (O32) -/

namespace Sys2Proof.Machine

/-! ### A tick without a demand event (R116) -/

theorem takeDemand_of_still {k : Circ} {d : Debouncer} {v : Bool} (h : (d.sample v).level = d.level) (s : State) :
    takeDemand k d v s = s := by
  have hup : d.asserts v = false := by
    rw [Debouncer.asserts, h]
    exact Bool.not_and_self _
  have hdown : d.drops v = false := by
    rw [Debouncer.drops, h]
    exact Bool.and_not_self _
  rw [takeDemand, hup, hdown]
  rfl

theorem demandStep_of_still {p : Pins} {s : State}
    (h : ∀ k ∈ Circ.switched,
      ((sampleDemand p s).circ.demand.get k.idx).level = (s.circ.demand.get k.idx).level) :
    demandStep p s = sampleDemand p s := by
  have hstill : ∀ k ∈ Circ.switched, ∀ t : State,
      takeDemand k (s.circ.demand.get k.idx) (Pins.demandOf p k) t = t := fun k hk t =>
    takeDemand_of_still (by have hlevel := h k hk; cases k <;> exact hlevel) t
  exact (demandStep_eq p s).trans ((hstill .c3 (by simp [Circ.switched]) _).trans
    ((hstill .c2 (by simp [Circ.switched]) _).trans ((hstill .c1 (by simp [Circ.switched]) _).trans
      (hstill .c0 (by simp [Circ.switched]) _))))

/-- While no circuit is PAUSED the pause step does nothing. -/
theorem pauseStep_of_none {s : State} (ha : s.circ.active = true) (h : ∀ k r, s.circuitState k ≠ .paused r) :
    pauseStep s = s := by
  have hstays : ∀ k, countPause k s = s := fun k => by
    unfold countPause
    cases hs : s.circuitState k with
    | paused r => exact absurd hs (h k r)
    | _ => rfl
  have hfold : pauseStep s = countPause .c3 (countPause .c2 (countPause .c1 (countPause .c0 s))) := if_pos ha
  rw [hfold, hstays, hstays, hstays, hstays]

/-! ### The three timers (R125, R129) -/

/-- The state with other values in the timers of the stages and of the restore. -/
def State.timersAs (s : State) (t1 t2 r : Nat) : State :=
  s.setCirc { s.circ with timer1 := t1, timer2 := t2, restoreTimer := r }

/-- What a shed leaves of the Circuit Controller beside the circuits, their lists and the counters. -/
def Circuits.timing (c : Circuits) : Bool × Bool × Bool × Nat × Nat × Nat :=
  (c.active, c.stage1, c.stage2, c.timer1, c.timer2, c.restoreTimer)

theorem shedState_timing (k : Circ) (s : State) : (shedState k s).circ.timing = s.circ.timing := by
  rw [shedState_eq]
  rfl

theorem shedOne_timing (st : Stage) (s : State) : (shedOne st s).circ.timing = s.circ.timing := by
  cases h : chooseShed st s with
  | none => rw [shedOne_of_none h]
  | some choice =>
    rw [shedOne_of_some h, shedState_timing]
    cases st <;> rfl

theorem shedOne_timersAs (st : Stage) (s : State) (t1 t2 r : Nat) :
    shedOne st (s.timersAs t1 t2 r) = (shedOne st s).timersAs t1 t2 r := by
  have hchoice : chooseShed st (s.timersAs t1 t2 r) = chooseShed st s := rfl
  cases h : chooseShed st s with
  | none => rw [shedOne_of_none h, shedOne_of_none (hchoice.trans h)]
  | some choice =>
    rw [shedOne_of_some h, shedOne_of_some (hchoice.trans h), shedState_eq, shedState_eq]
    cases st <;> rfl

section
variable {st : Stage} {s : State}

theorem stageStep_of_below (h : s.circ.condition st = true → s.circ.timer st + 1 < s.threshold st) :
    stageStep st s = setTimer st (if s.circ.condition st then s.circ.timer st + 1 else 0) s := by
  unfold stageStep
  by_cases hc : s.circ.condition st = true
  · rw [if_pos hc, if_neg (Nat.not_le.2 (h hc)), if_pos hc]
  · rw [if_neg hc, if_neg hc]

theorem stageStep_of_due (hc : s.circ.condition st = true) (h : s.circ.timer st + 1 = s.threshold st) :
    stageStep st s = shedOne st (setTimer st 0 s) := by
  unfold stageStep
  rw [if_pos hc, if_pos h.ge]

theorem restoreStep_of_not_counting (h : restoreCounts s = false) :
    restoreStep s = s.timersAs s.circ.timer1 s.circ.timer2 0 := by
  refine if_neg ?_
  rw [h]
  exact Bool.false_ne_true

theorem restoreCounts_of_holding (h : s.circ.stage1 = true ∨ s.circ.stage2 = true) : restoreCounts s = false := by
  unfold restoreCounts
  obtain h | h := h <;> simp [h]

theorem restoreCounts_of_shed {k : Circ} (ha : s.circ.active = true) (h1 : s.circ.stage1 = false)
    (h2 : s.circ.stage2 = false) (hk : s.circuitState k = .shed) : restoreCounts s = true := by
  have hany : anyShed s = true := List.any_eq_true.2 ⟨k, by cases k <;> simp [Circ.all], by simp [hk]⟩
  simp [restoreCounts, ha, h1, h2, hany]

end

/-- The stages and the restore of a tick, in their order (R123). -/
def stagesAndRestore (s : State) : State := restoreStep (stageStep .stage1 (stageStep .stage2 s))

section
variable {s : State}
  (hstage1 : s.circ.stage1 = true → s.circ.timer1 + 1 < s.threshold .stage1)
  (hstage2 : s.circ.stage2 = true → s.circ.timer2 + 1 < s.threshold .stage2)

/-- The count of a stage's timer. -/
def stageCount (holds : Bool) (timer : Nat) : Nat := if holds then timer + 1 else 0

include hstage1 in
theorem stage1_of_below :
    stageStep .stage1 s = s.timersAs (stageCount s.circ.stage1 s.circ.timer1) s.circ.timer2 s.circ.restoreTimer :=
  stageStep_of_below (st := .stage1) hstage1

include hstage2 in
theorem stage2_of_below :
    stageStep .stage2 s = s.timersAs s.circ.timer1 (stageCount s.circ.stage2 s.circ.timer2) s.circ.restoreTimer :=
  stageStep_of_below (st := .stage2) hstage2

include hstage1 hstage2 in
theorem stages_of_below :
    stageStep .stage1 (stageStep .stage2 s) =
      s.timersAs (stageCount s.circ.stage1 s.circ.timer1) (stageCount s.circ.stage2 s.circ.timer2)
        s.circ.restoreTimer := by
  rw [stage2_of_below hstage2]
  exact stage1_of_below (s := s.timersAs _ _ _) hstage1

include hstage1 hstage2 in
theorem stagesAndRestore_of_below (h : s.circ.stage1 = true ∨ s.circ.stage2 = true) :
    stagesAndRestore s =
      s.timersAs (stageCount s.circ.stage1 s.circ.timer1) (stageCount s.circ.stage2 s.circ.timer2) 0 := by
  rw [stagesAndRestore, stages_of_below hstage1 hstage2]
  exact restoreStep_of_not_counting (restoreCounts_of_holding (s := s.timersAs _ _ _) h)

/-- What a shed keeps, for the steps that follow it. -/
theorem shedOne_conditions (st : Stage) (s : State) :
    (shedOne st s).circ.stage1 = s.circ.stage1 ∧ (shedOne st s).circ.stage2 = s.circ.stage2 ∧
      ∀ g, (shedOne st s).threshold g = s.threshold g := by
  have htiming := shedOne_timing st s
  simp only [Circuits.timing, Prod.mk.injEq] at htiming
  obtain ⟨-, hs1, hs2, -⟩ := htiming
  refine ⟨hs1, hs2, fun g => ?_⟩
  cases g <;> simp [State.threshold, State.threshold1, State.threshold2]

include hstage1 in
/-- Stage 2 sheds, and the timer of stage 1 counts after it. -/
theorem stagesAndRestore_of_shed2 (h2 : s.circ.stage2 = true) (hdue : s.circ.timer2 + 1 = s.threshold .stage2) :
    stagesAndRestore s = shedOne .stage2 (s.timersAs (stageCount s.circ.stage1 s.circ.timer1) 0 0) := by
  have hstep : stageStep .stage2 s = shedOne .stage2 (s.timersAs s.circ.timer1 0 s.circ.restoreTimer) :=
    stageStep_of_due (st := .stage2) h2 hdue
  obtain ⟨hs1, hs2, hthreshold⟩ := shedOne_conditions .stage2 s
  rw [shedOne_timersAs] at hstep
  rw [shedOne_timersAs, stagesAndRestore, hstep]
  generalize shedOne .stage2 s = x at *
  let y := x.timersAs s.circ.timer1 0 s.circ.restoreTimer
  have hbelow : y.circ.stage1 = true → y.circ.timer1 + 1 < y.threshold .stage1 := fun h =>
    (hthreshold .stage1).symm ▸ hstage1 (hs1 ▸ h)
  have hfirst := stage1_of_below (s := y) hbelow
  have hcount : y.circ.stage1 = s.circ.stage1 := hs1
  rw [hcount] at hfirst
  rw [hfirst]
  exact restoreStep_of_not_counting (restoreCounts_of_holding (s := y.timersAs _ _ _) (.inr (hs2.trans h2)))

include hstage2 in
/-- Stage 1 sheds, after the timer of stage 2 counted. -/
theorem stagesAndRestore_of_shed1 (h1 : s.circ.stage1 = true) (hdue : s.circ.timer1 + 1 = s.threshold .stage1) :
    stagesAndRestore s = shedOne .stage1 (s.timersAs 0 (stageCount s.circ.stage2 s.circ.timer2) 0) := by
  let y := s.timersAs s.circ.timer1 (stageCount s.circ.stage2 s.circ.timer2) s.circ.restoreTimer
  have hstep : stageStep .stage1 y =
      shedOne .stage1 (s.timersAs 0 (stageCount s.circ.stage2 s.circ.timer2) s.circ.restoreTimer) :=
    stageStep_of_due (st := .stage1) (s := y) h1 hdue
  obtain ⟨hs1, -, -⟩ := shedOne_conditions .stage1 s
  rw [shedOne_timersAs] at hstep
  rw [shedOne_timersAs, stagesAndRestore, stage2_of_below hstage2, hstep]
  generalize shedOne .stage1 s = x at *
  exact restoreStep_of_not_counting (restoreCounts_of_holding (s := x.timersAs _ _ _) (.inl (hs1.trans h1)))

/-- Both stages shed at one tick, stage 2 first. -/
theorem stagesAndRestore_of_both (h1 : s.circ.stage1 = true) (h2 : s.circ.stage2 = true)
    (hdue1 : s.circ.timer1 + 1 = s.threshold .stage1) (hdue2 : s.circ.timer2 + 1 = s.threshold .stage2) :
    stagesAndRestore s = shedOne .stage1 ((shedOne .stage2 s).timersAs 0 0 0) := by
  have hstep : stageStep .stage2 s = shedOne .stage2 (s.timersAs s.circ.timer1 0 s.circ.restoreTimer) :=
    stageStep_of_due (st := .stage2) h2 hdue2
  obtain ⟨hs1, -, hthreshold⟩ := shedOne_conditions .stage2 s
  rw [shedOne_timersAs] at hstep
  rw [stagesAndRestore, hstep]
  generalize shedOne .stage2 s = x at *
  let y := x.timersAs s.circ.timer1 0 s.circ.restoreTimer
  have hsecond : stageStep .stage1 y = shedOne .stage1 (x.timersAs 0 0 s.circ.restoreTimer) :=
    stageStep_of_due (st := .stage1) (s := y) (hs1.trans h1) (hdue1.trans (hthreshold .stage1).symm)
  obtain ⟨hx1, -, -⟩ := shedOne_conditions .stage1 x
  rw [shedOne_timersAs] at hsecond
  rw [shedOne_timersAs, hsecond]
  generalize shedOne .stage1 x = z at *
  exact restoreStep_of_not_counting
    (restoreCounts_of_holding (s := z.timersAs _ _ _) (.inl (hx1.trans (hs1.trans h1))))

end

end Sys2Proof.Machine

/-! # What a tick counts in the Circuit Controller, assembled (O32) -/

namespace Sys2Proof.Machine

theorem flatMap_if_eq_map {α β : Type} (c : α → Bool) (f : α → β) (l : List α) :
    (l.flatMap fun k => if c k then [f k] else []) = (l.filter c).map f := by
  induction l with
  | nil => rfl
  | cons k rest ih =>
    rw [List.flatMap_cons, ih]
    by_cases hk : c k = true
    · rw [if_pos hk, List.filter_cons_of_pos hk]
      rfl
    · rw [if_neg hk, List.filter_cons_of_neg hk]
      rfl

theorem circuitTick_of_still {p : Pins} {s : State}
    (h : ∀ k ∈ Circ.switched,
      ((sampleDemand p s).circ.demand.get k.idx).level = (s.circ.demand.get k.idx).level) :
    circuitTick p s = stagesAndRestore (pauseStep (sampleDemand p s)) := by
  rw [circuitTick, demandStep_of_still h]
  rfl

/-- The pauses of a tick, where no condition holds and no circuit is SHED (R119). -/
theorem stagesAndRestore_of_none_shed {s : State} (h1 : s.circ.stage1 = false) (h2 : s.circ.stage2 = false)
    (hshed : ∀ k, s.circuitState k ≠ .shed) : stagesAndRestore s = s.timersAs 0 0 0 := by
  have hnone : anyShed s = false := List.any_eq_false.2 fun k _ => by simpa using hshed k
  rw [stagesAndRestore, stages_of_below (fun h => by simp [h1] at h) (fun h => by simp [h2] at h), h1, h2]
  refine restoreStep_of_not_counting (s := s.timersAs _ _ _) ?_
  have hcounts : ∀ a b c, restoreCounts (s.timersAs a b c) =
      (s.circ.active && !s.circ.stage1 && !s.circ.stage2 && anyShed s) := fun _ _ _ => rfl
  rw [hcounts, hnone, Bool.and_false]

section
variable {s : State} {k : Circ} (ha : s.circ.active = true) (h1 : s.circ.stage1 = false) (h2 : s.circ.stage2 = false)
  (hk : s.circuitState k = .shed)
include ha h1 h2 hk

theorem stagesAndRestore_of_shed_circuit :
    stagesAndRestore s =
      if s.restoreThreshold ≤ s.circ.restoreTimer + 1 then restoreAll (s.timersAs 0 0 s.circ.restoreTimer)
      else s.timersAs 0 0 (s.circ.restoreTimer + 1) := by
  rw [stagesAndRestore, stages_of_below (fun h => by simp [h1] at h) (fun h => by simp [h2] at h), h1, h2]
  exact if_pos (restoreCounts_of_shed (s := s.timersAs _ _ _) ha h1 h2 hk)

theorem stagesAndRestore_of_restore_below (hb : s.circ.restoreTimer + 1 < s.restoreThreshold) :
    stagesAndRestore s = s.timersAs 0 0 (s.circ.restoreTimer + 1) :=
  (stagesAndRestore_of_shed_circuit ha h1 h2 hk).trans (if_neg (Nat.not_le.2 hb))

theorem stagesAndRestore_of_restore_due (hdue : s.circ.restoreTimer + 1 = s.restoreThreshold) :
    stagesAndRestore s = restoreAll (s.timersAs 0 0 s.circ.restoreTimer) :=
  (stagesAndRestore_of_shed_circuit ha h1 h2 hk).trans (if_pos hdue.ge)

end

section
variable {p : Pins} {s : State} (hp : s.powered = true) (hw : s.time.tickWaiting = [.circuit])
  (ha : s.circ.active = true)
  (hstill : ∀ k ∈ Circ.switched,
    ((sampleDemand p s).circ.demand.get k.idx).level = (s.circ.demand.get k.idx).level)

/-- The state in which the debouncers have taken the sample and the block its tick. -/
def sampledAtTick (p : Pins) (s : State) : State :=
  (sampleDemand p s).setTime { s.time with tickWaiting := [] }

include hp hw ha hstill in
theorem exec_circuitTick_of_no_pause (hpause : ∀ k r, s.circuitState k ≠ .paused r) :
    exec (.stationTick [.circuit] p) s = .next (stagesAndRestore (sampledAtTick p s)) := by
  rw [exec_stationTick_of_last .circuit p hp hw]
  refine congrArg _ ?_
  have htick : circuitTick p s = stagesAndRestore (sampleDemand p s) := by
    rw [circuitTick_of_still hstill, pauseStep_of_none (s := sampleDemand p s) ha hpause]
  change (circuitTick p s).setTime _ = _
  rw [htick, sampledAtTick, stagesAndRestore, stagesAndRestore]
  simp

end

theorem actOnAll_congr {f g : Circ → Circuit} {q r : Circ → List Request} (h : ∀ k ∈ Circ.switched,
    f k = g k ∧ q k = r k)
    (s : State) : actOnAll f q s = actOnAll g r s := by
  obtain ⟨f0, q0⟩ := h .c0 (by simp [Circ.switched])
  obtain ⟨f1, q1⟩ := h .c1 (by simp [Circ.switched])
  obtain ⟨f2, q2⟩ := h .c2 (by simp [Circ.switched])
  obtain ⟨f3, q3⟩ := h .c3 (by simp [Circ.switched])
  rw [actOnAll, actOnAll, f0, f1, f2, f3, q0, q1, q2, q3]

theorem pausedState_ne_shed {level : Bool} {st : CircuitState} (h : st ≠ .shed) : pausedState level st ≠ .shed := by
  cases st with
  | paused r =>
    simp only [pausedState]
    by_cases hr : r ≤ 1
    · cases level <;> simp [hr]
    · simp [hr]
  | _ => exact h

section
variable {p : Pins} {s : State} (hp : s.powered = true) (hw : s.time.tickWaiting = [.circuit])
  (ha : s.circ.active = true)
  (hstill : ∀ k ∈ Circ.switched,
    ((sampleDemand p s).circ.demand.get k.idx).level = (s.circ.demand.get k.idx).level)
include hp hw ha hstill

/-- A tick that counts pauses only (R119). -/
theorem exec_circuitTick_of_pauses (h1 : s.circ.stage1 = false) (h2 : s.circ.stage2 = false)
    (hshed : ∀ k, s.circuitState k ≠ .shed) :
    ∃ table : Five Circuit,
      (∀ k, table.get k =
        if k = .c4 then s.circ.table.get .c4
        else ⟨pausedState (s.demandLevel k) (s.circuitState k), (s.circ.table.get k).mark⟩) ∧
      exec (.stationTick [.circuit] p) s =
        .next
          (((sampledAtTick p s).circuitsAs table
            (s.handed.requests ++
              Circ.switched.flatMap fun k =>
                pauseRequests s.cfg k (s.demandLevel k) (s.circuitState k))).timersAs 0 0 0) := by
  let f : Circ → Circuit := fun k => ⟨pausedState (s.demandLevel k) (s.circuitState k), (s.circ.table.get k).mark⟩
  let r : Circ → List Request := fun k => pauseRequests s.cfg k (s.demandLevel k) (s.circuitState k)
  have hpauses : pauseStep (sampleDemand p s) = actOnAll f r (sampleDemand p s) := by
    refine (pauseStep_of_active (s := sampleDemand p s) ha).trans (actOnAll_congr (fun k hk => ?_) _)
    have hlevel : (sampleDemand p s).demandLevel k = s.demandLevel k := hstill k hk
    rw [hlevel]
    exact ⟨rfl, rfl⟩
  have hunshed : ∀ k, (actOnAll f r (sampleDemand p s)).circuitState k ≠ .shed := fun k => by
    rw [State.circuitState, actOnAll_table]
    split
    · exact hshed .c4
    · exact pausedState_ne_shed (hshed k)
  have h1' : (actOnAll f r (sampleDemand p s)).circ.stage1 = false := by rw [actOnAll_eq]; exact h1
  have h2' : (actOnAll f r (sampleDemand p s)).circ.stage2 = false := by rw [actOnAll_eq]; exact h2
  have htick : circuitTick p s = (actOnAll f r (sampleDemand p s)).timersAs 0 0 0 := by
    rw [circuitTick_of_still hstill, hpauses, stagesAndRestore_of_none_shed h1' h2' hunshed]
  refine ⟨_, actOnAll_table f r (sampleDemand p s), ?_⟩
  rw [exec_stationTick_of_last .circuit p hp hw]
  change Host.Outcome.next ((circuitTick p s).setTime _) = _
  rw [htick, actOnAll_eq]
  rfl

end

/-- Settles O32. -/
theorem circuitTickCounts : Obligations.CircuitTickCounts := by
  intro p s hp hw ha demand hlevels tick u below1 below2 counted1 counted2
  have hstill : ∀ k ∈ Circ.switched,
      ((sampleDemand p s).circ.demand.get k.idx).level = (s.circ.demand.get k.idx).level := hlevels
  refine ⟨fun h1 h2 hshed => ?_, fun hpause => ?_⟩
  · intro ends level
    obtain ⟨table, htable, htick⟩ := exec_circuitTick_of_pauses hp hw ha hstill h1 h2 hshed
    have hends : ∀ k ∈ Circ.switched, pauseRequests s.cfg k (s.demandLevel k) (s.circuitState k) =
        if ends k && level k then [creation s.cfg (fun _ => false) k] else [] := fun k hk => by
      have hne : k ≠ .c4 := by rintro rfl; simp [Circ.switched] at hk
      have hlevel : s.demandLevel k = level k := rfl
      rw [hlevel]
      cases h : s.circuitState k with
      | paused r => simp [pauseRequests, ends, h, hne]
      | _ => simp [pauseRequests, ends, h]
    rw [List.flatMap_congr hends, flatMap_if_eq_map] at htick
    refine ⟨_, htick, fun k => (htable k).trans ?_, rfl, rfl⟩
    by_cases hk : k = .c4
    · subst hk
      rw [if_pos rfl]
      cases h : s.circuitState .c4 with
      | paused r =>
        have hstays : ends .c4 = false := by simp [ends, h]
        rw [hstays]
        exact (entry_eq h).symm
      | _ => exact (entry_eq h).symm
    · rw [if_neg hk]
      refine congrArg (Circuit.mk · _) ?_
      have hlevel : s.demandLevel k = level k := rfl
      rw [hlevel]
      cases h : s.circuitState k with
      | paused r => simp [pausedState, ends, h, hk]
      | _ => rfl
  · have htick : tick = .next (stagesAndRestore u) := exec_circuitTick_of_no_pause hp hw ha hstill hpause
    refine ⟨fun hholds hb1 hb2 => ?_, fun h2 hdue hb1 => ?_, fun h1 hdue hb2 => ?_, fun h1 hdue1 h2 hdue2 => ?_,
      fun h1 h2 hex => ⟨fun hb => ?_, fun hdue => ?_⟩⟩
    · rw [htick, stagesAndRestore_of_below (s := u) hb1 hb2 hholds]
      rfl
    · rw [htick, stagesAndRestore_of_shed2 (s := u) hb1 h2 hdue]
      exact (exec_stageShed_of_due (st := .stage2) (s := u.timersAs counted1 s.circ.timer2 0) hp h2 hdue).symm
    · rw [htick, stagesAndRestore_of_shed1 (s := u) hb2 h1 hdue]
      exact (exec_stageShed_of_due (st := .stage1) (s := u.timersAs s.circ.timer1 counted2 0) hp h1 hdue).symm
    · rw [htick, stagesAndRestore_of_both (s := u) h1 h2 hdue1 hdue2]
      refine ⟨_, exec_stageShed_of_due (st := .stage2) (s := u.timersAs s.circ.timer1 s.circ.timer2 0) hp h2 hdue2, ?_⟩
      have hcomm : shedOne .stage2 (setTimer .stage2 0 (u.timersAs s.circ.timer1 s.circ.timer2 0)) =
          (shedOne .stage2 u).timersAs s.circ.timer1 0 0 := shedOne_timersAs .stage2 u s.circ.timer1 0 0
      obtain ⟨hx1, -, hthreshold⟩ := shedOne_conditions .stage2 u
      have hpx : (shedOne .stage2 u).powered = true := by simpa [u] using hp
      rw [hcomm]
      exact (exec_stageShed_of_due (st := .stage1) (s := (shedOne .stage2 u).timersAs s.circ.timer1 0 0) hpx
        (hx1.trans h1) (hdue1.trans (hthreshold .stage1).symm)).symm
    · obtain ⟨k, hk⟩ := hex
      rw [htick, stagesAndRestore_of_restore_below (s := u) ha h1 h2 hk hb]
      rfl
    · obtain ⟨k, hk⟩ := hex
      rw [htick, stagesAndRestore_of_restore_due (s := u) ha h1 h2 hk hdue]
      exact (exec_restore_of_due (s := u.timersAs 0 0 s.circ.restoreTimer) hp ha h1 h2 hdue hk).symm

end Sys2Proof.Machine

/-! # The saw's transitions, and its timers at their ends (O40) -/

namespace Sys2Proof.Machine

/-! ### The transitions, each as what it does to the saw (R142 to R153) -/

theorem withdrawCircuit4_setSaw (s : State) (w : Saw) :
    withdrawCircuit4 (s.setSaw w) = (withdrawCircuit4 s).setSaw w := by
  rw [withdrawCircuit4_eq, withdrawCircuit4_eq, apply_ite (fun t : State => t.setSaw w)]
  rfl

/-- The withdrawal of circuit 4, spelled out (R121). -/
theorem withdrawCircuit4_spelled (s : State) :
    withdrawCircuit4 s =
      if s.circ.active = true ∧ (s.circuitState .c4 = .waiting ∨ s.circuitState .c4 = .on) then
        { s with
          circ := { s.circ with table := s.circ.table.set .c4 { s.circ.table.get .c4 with state := .off } }
          handed := { s.handed with requests := s.handed.requests ++ [.withdraw .c4] } }
      else s := withdrawCircuit4_eq s

/-- The saw on entry to STOPPING, or IDLE where the clutch is open already (R153). -/
def Saw.stopped (cfg : Config) (w : Saw) : Saw :=
  { w.cleared with state := if w.clutchClosed.level then .stopping cfg.trel else .idle, feed := 0 }

theorem enterStopping_eq (s : State) :
    enterStopping s = (withdrawCircuit4 s).setSaw (s.saw.stopped s.cfg) := by
  unfold enterStopping
  rw [withdrawCircuit4_setSaw]
  have hsaw : (withdrawCircuit4 s).saw = s.saw := by simp
  cases hc : s.saw.clutchClosed.level <;> simp [Saw.cleared, Saw.stopped, enterIdle, hc]

/-- The saw on entry to RETURNING, or READY where RETURN LIMIT stands asserted (R149, R151). -/
def Saw.returned (cfg : Config) (w : Saw) : Saw :=
  if w.returnLimit.level then { w.cleared with state := .ready cfg.tready, feed := 0 }
  else { w.cleared with state := .returning, feed := -(cfg.rrt : Int) }

theorem enterReturning_eq (s : State) : enterReturning s = s.setSaw (s.saw.returned s.cfg) := by
  unfold enterReturning Saw.returned
  cases hc : s.saw.returnLimit.level <;> simp [Saw.cleared, enterReady, hc]

/-- The saw on entry to CUTTING, or beyond it where FORWARD LIMIT stands asserted (R143, R149). -/
def Saw.cutStarted (cfg : Config) (w : Saw) : Saw :=
  let v := { w.cleared with state := .cutting, feed := 0, stallRun := 0 }
  if w.forwardLimit.level then v.returned cfg else v

theorem enterCutting_eq (s : State) : enterCutting s = s.setSaw (s.saw.cutStarted s.cfg) := by
  unfold enterCutting Saw.cutStarted
  cases hc : s.saw.forwardLimit.level <;> simp [Saw.cleared, enterReturning_eq, hc]

/-- The saw at the end of a backoff (R150). -/
def Saw.resumed (cfg : Config) (w : Saw) : Saw :=
  if cfg.lst ≤ w.stallCount then w.returned cfg else { w with state := .spinup cfg.tsu, feed := 0, target := none }

theorem endBackoff_eq (s : State) : endBackoff s = s.setSaw (s.saw.resumed s.cfg) := by
  unfold endBackoff Saw.resumed
  by_cases hl : s.cfg.lst ≤ s.saw.stallCount
  · rw [if_pos hl, if_pos hl, enterReturning_eq]
  · rw [if_neg hl, if_neg hl]
    rfl

/-- The saw on entry to BACKOFF (R147). -/
def Saw.stalled (cfg : Config) (w : Saw) : Saw :=
  { w.cleared with
    state := .backoff cfg.nbk
    feed := -(cfg.rbk : Int)
    baseFeed := max (w.baseFeed - 2 * cfg.step) cfg.ff
    stallCount := w.stallCount + 1
    stalls := satInc w.stalls }

theorem enterBackoff_eq (s : State) :
    enterBackoff s =
      s.setSaw
        (if s.saw.returnLimit.level then (s.saw.stalled s.cfg).resumed s.cfg else s.saw.stalled s.cfg) := by
  unfold enterBackoff
  have hlevel : (s.saw.stalled s.cfg).returnLimit.level = s.saw.returnLimit.level := rfl
  change (if (s.saw.stalled s.cfg).returnLimit.level then endBackoff (s.setSaw (s.saw.stalled s.cfg))
    else s.setSaw (s.saw.stalled s.cfg)) = _
  rw [hlevel, endBackoff_eq]
  split <;> rfl

/-- The saw in FAULT (R154). -/
def Saw.faulted (code : FaultCode) (w : Saw) : Saw :=
  { w with state := .fault code, feed := 0, sawFaults := satInc w.sawFaults }

theorem enterFault_eq (code : FaultCode) (s : State) : enterFault code s = s.setSaw (s.saw.faulted code) := rfl

theorem enterFault_withdrawCircuit4 (code : FaultCode) (s : State) :
    enterFault code (withdrawCircuit4 s) = (withdrawCircuit4 s).setSaw (s.saw.faulted code) := by
  have hsaw : (withdrawCircuit4 s).saw = s.saw := by simp
  rw [enterFault_eq, hsaw]

theorem enterIdle_withdrawCircuit4 (s : State) :
    enterIdle (withdrawCircuit4 s) = (withdrawCircuit4 s).setSaw { s.saw with state := .idle, feed := 0 } := by
  have hsaw : (withdrawCircuit4 s).saw = s.saw := by simp
  rw [enterIdle, hsaw]

/-! ### The timers at their ends -/

theorem withdrawCircuit4_of_on {s : State} (ha : s.circ.active = true) (hon : s.circuitState .c4 = .on) :
    withdrawCircuit4 s = toOffWithdrawing .c4 s := by
  rw [withdrawCircuit4_eq, if_pos ⟨ha, .inr hon⟩]

/-- Settles O40. -/
theorem sawTimersExpire : Obligations.SawTimersExpire := by
  refine ⟨fun s hp hwk ha hon => ?_, fun s hp hwk hst => ?_, fun s hp hwk hst hrun hlim => ?_,
    fun s hp hwk hst hcount => ?_, fun s hp hwk hst hlim => ?_⟩
  · intro withdrawn stopped
    have hw : withdrawCircuit4 s = withdrawn := withdrawCircuit4_of_on ha hon
    refine ⟨fun hst => ?_, fun hst => ?_, fun hst => ?_⟩
    · have hdue : (s.sawWorks && s.saw.state == .engaging 1) = true := by simp [hwk, hst]
      refine (answer_powered hp _).trans (congrArg _ ((if_pos hdue).trans ?_))
      exact (enterFault_withdrawCircuit4 .engage s).trans (by rw [hw]; rfl)
    · have hdue : (s.sawWorks && s.saw.state == .spinup 1) = true := by simp [hwk, hst]
      refine (answer_powered hp _).trans (congrArg _ ((if_pos hdue).trans ?_))
      exact (enterStopping_eq s).trans (by rw [hw]; rfl)
    · have hdue : (s.sawWorks && s.saw.state == .ready 1) = true := by simp [hwk, hst]
      refine (answer_powered hp _).trans (congrArg _ ((if_pos hdue).trans ?_))
      exact (enterStopping_eq s).trans (by rw [hw]; rfl)
  · have hdue : (s.sawWorks && s.saw.state == .stopping 1) = true := by simp [hwk, hst]
    exact (answer_powered hp _).trans (congrArg _ (if_pos hdue))
  · have hdue : (s.sawWorks && s.saw.state == .cutting && s.saw.stallRun + 1 == s.cfg.nst) = true := by
      simp [hwk, hst, hrun]
    refine (answer_powered hp _).trans (congrArg _ ((if_pos hdue).trans ((enterBackoff_eq _).trans ?_)))
    have hopen : ¬s.saw.returnLimit.level = true := by simp [hlim]
    exact congrArg s.setSaw (if_neg hopen)
  · intro fb
    have hdue : (s.sawWorks && s.saw.state == .cutting && s.saw.adaptCount + 1 == s.cfg.nad) = true := by
      simp [hwk, hst, hcount]
    exact (answer_powered hp _).trans (congrArg _ (if_pos hdue))
  · have hdue : (s.sawWorks && s.saw.state == .backoff 1) = true := by simp [hwk, hst]
    refine (answer_powered hp _).trans (congrArg _ ((if_pos hdue).trans ((endBackoff_eq s).trans ?_)))
    have hopen : ¬s.saw.returnLimit.level = true := by simp [hlim]
    refine congrArg s.setSaw ?_
    unfold Saw.resumed Saw.returned
    rw [if_neg hopen]
    rfl

end Sys2Proof.Machine

/-! # The saw at a Line Record, and the entries to DARK (O38, O37) -/

namespace Sys2Proof.Machine

/-! ### The lost line (R156) -/

theorem sawLineLost_eq (s : State) :
    sawLineLost s =
      if s.saw.state = .claiming then (withdrawCircuit4 s).setSaw { s.saw with state := .idle, feed := 0 }
      else if s.saw.state.asksClutch then (withdrawCircuit4 s).setSaw (s.saw.stopped s.cfg)
      else s := by
  unfold sawLineLost
  cases h : s.saw.state with
  | claiming => exact enterIdle_withdrawCircuit4 s
  | idle => rfl
  | stopping n => rfl
  | fault c => rfl
  | _ => exact enterStopping_eq s

/-! ### A cycle end in CUTTING (R144 to R148) -/

theorem Saw.addFraction_eq (cfg : Config) (q : Nat) (w : Saw) :
    w.addFraction cfg q =
      (let full := w.adaptFull && q == 1000
      let low := w.adaptLow || decide (q < 500)
      let complete := cfg.nad ≤ w.adaptCount + 1
      { w with
        baseFeed :=
          if complete then
            if full then min (w.baseFeed + cfg.step) cfg.fc
            else if low then max (w.baseFeed - cfg.step) cfg.ff
            else w.baseFeed
          else w.baseFeed
        adaptCount := if complete then 0 else w.adaptCount + 1
        adaptFull := if complete then true else full
        adaptLow := if complete then false else low }) := by
  by_cases hc : cfg.nad ≤ w.adaptCount + 1
  · simp only [if_pos hc]
    exact if_pos hc
  · simp only [if_neg hc]
    exact if_neg hc

section
variable {r : LineRecord} {s : State} (hw : s.sawWorks = true) (hl : r.lock ≠ .lost)
include hw hl

theorem sawRecord_of_spinup {n : Nat} (h : s.saw.state = .spinup n) :
    sawRecord r s = if s.gov.setPoint ≤ r.filtered + s.cfg.msp then enterCutting s else s := by
  simp only [sawRecord, hw, Bool.not_true, Bool.false_eq_true, if_false, if_neg hl, h]

theorem sawRecord_of_cutting (h : s.saw.state = .cutting) : sawRecord r s = cuttingCycle r.filtered s := by
  simp only [sawRecord, hw, Bool.not_true, Bool.false_eq_true, if_false, if_neg hl, h]

theorem sawRecord_of_backoff {n : Nat} (h : s.saw.state = .backoff n) : sawRecord r s = backoffCycle n s := by
  simp only [sawRecord, hw, Bool.not_true, Bool.false_eq_true, if_false, if_neg hl, h]

theorem sawRecord_of_other (h : ∀ n, s.saw.state ≠ .spinup n ∧ s.saw.state ≠ .backoff n)
    (hc : s.saw.state ≠ .cutting) : sawRecord r s = s := by
  simp only [sawRecord, hw, Bool.not_true, Bool.false_eq_true, if_false, if_neg hl]
  cases hst : s.saw.state with
  | spinup n => exact absurd hst (h n).1
  | backoff n => exact absurd hst (h n).2
  | cutting => exact absurd hst hc
  | _ => rfl

end

/-- The saw after one cycle end in CUTTING, at margin `m`, before the stall run is judged (R144 to R147). -/
def Saw.cutOnce (cfg : Config) (m : Int) (w : Saw) : Saw :=
  { (w.addFraction cfg (feedFraction cfg m)).regulateFeed cfg (feedFraction cfg m) with
    stallRun := if m ≤ 0 then w.stallRun + 1 else 0 }

theorem Saw.cutOnce_returnLimit (cfg : Config) (m : Int) (w : Saw) : (w.cutOnce cfg m).returnLimit = w.returnLimit := by
  unfold Saw.cutOnce
  rw [Saw.addFraction_eq]
  rfl

theorem cuttingCycle_eq (filtered : Nat) (s : State) :
    cuttingCycle filtered s =
      s.setSaw
        (let w := s.saw.cutOnce s.cfg (sawMargin s.cfg s.gov.setPoint filtered)
        if s.cfg.nst ≤ w.stallRun then
          if s.saw.returnLimit.level then (w.stalled s.cfg).resumed s.cfg else w.stalled s.cfg
        else w) := by
  let w := s.saw.cutOnce s.cfg (sawMargin s.cfg s.gov.setPoint filtered)
  have hrun : ∀ q, ((s.saw.addFraction s.cfg q).regulateFeed s.cfg q).stallRun = s.saw.stallRun := fun q => by
    rw [Saw.addFraction_eq]
    rfl
  have hcycle : cuttingCycle filtered s =
      if s.cfg.nst ≤ w.stallRun then enterBackoff (s.setSaw w) else s.setSaw w := by
    simp only [cuttingCycle, hrun]
    rfl
  have hlimit : w.returnLimit = s.saw.returnLimit := Saw.cutOnce_returnLimit ..
  rw [hcycle, enterBackoff_eq, State.setSaw_saw, hlimit, apply_ite s.setSaw]
  rfl

/-- Settles O38. -/
theorem sawTakesALineRecord : Obligations.SawTakesALineRecord := by
  intro r rest s hp hr t becomes emptied returned resumed
  have htaken : exec .sawCycleEnd s = .next (sawRecord r t) := by
    refine (answer_powered hp _).trans ?_
    rw [hr]
    rfl
  have hbecomes : ∀ w, sawRecord r t = t.setSaw w → becomes w := fun w h => htaken.trans (congrArg _ h)
  have hreturned : ∀ w : Saw, w.returnLimit = s.saw.returnLimit → w.returned s.cfg = returned w := fun w h => by
    unfold Saw.returned
    rw [h]
    rfl
  have hresumed : ∀ w : Saw, w.returnLimit = s.saw.returnLimit → w.resumed s.cfg = resumed w := fun w h => by
    unfold Saw.resumed
    rw [hreturned w h]
  refine ⟨fun hwk => ?_, fun hwk hl => ?_, fun hwk hl => ?_⟩
  · have hheld : (!t.sawWorks) = true := by
      have h : t.sawWorks = false := hwk
      rw [h]
      rfl
    exact hbecomes _ (if_pos hheld)
  · have hworks : ¬(!t.sawWorks) = true := by
      have h : t.sawWorks = true := hwk
      simp [h]
    have hw : t.sawWorks = true := hwk
    refine ⟨fun n hst => ?_, fun hst => ?_, fun n hst => ?_, fun hne hcut => ?_⟩
    · intro entered
      refine hbecomes _ ((sawRecord_of_spinup hw hl (s := t) hst).trans ?_)
      rw [enterCutting_eq, apply_ite t.setSaw]
      refine if_congr Iff.rfl (congrArg t.setSaw ?_) rfl
      exact if_congr Iff.rfl (hreturned entered rfl) rfl
    · intro m w q full low complete fb ft run cut stalled
      have hcut : s.saw.cutOnce s.cfg (sawMargin s.cfg s.gov.setPoint r.filtered) = cut := by
        unfold Saw.cutOnce
        rw [Saw.addFraction_eq]
        rfl
      have hcycle := cuttingCycle_eq r.filtered t
      have hsaw : t.saw.cutOnce t.cfg (sawMargin t.cfg t.gov.setPoint r.filtered) = cut := hcut
      rw [hsaw] at hcycle
      refine hbecomes _ ((sawRecord_of_cutting hw hl (s := t) hst).trans (hcycle.trans (congrArg t.setSaw ?_)))
      refine if_congr Iff.rfl (if_congr Iff.rfl ?_ rfl) rfl
      exact hresumed (cut.stalled s.cfg) rfl
    · refine hbecomes _ ((sawRecord_of_backoff hw hl (s := t) hst).trans ?_)
      rw [backoffCycle, endBackoff_eq, apply_ite t.setSaw]
      exact if_congr Iff.rfl (congrArg t.setSaw (hresumed s.saw rfl)) rfl
    · exact hbecomes _ (sawRecord_of_other hw hl (s := t) hne hcut)
  · intro withdrawn
    have hworks : ¬(!t.sawWorks) = true := by
      have h : t.sawWorks = true := hwk
      simp [h]
    have hlost : sawRecord r t = sawLineLost t := (if_neg hworks).trans (if_pos hl)
    have hw : withdrawCircuit4 t = withdrawn := withdrawCircuit4_spelled t
    rw [htaken, hlost, sawLineLost_eq, hw]
    rfl

end Sys2Proof.Machine

/-! # The entries to DARK (O37) -/

namespace Sys2Proof.Machine

theorem sawLineLost_spelled (t : State) :
    sawLineLost t =
      (let withdrawn : State :=
        if t.circ.active = true ∧ (t.circuitState .c4 = .waiting ∨ t.circuitState .c4 = .on) then
          { t with
            circ := { t.circ with table := t.circ.table.set .c4 { t.circ.table.get .c4 with state := .off } }
            handed := { t.handed with requests := t.handed.requests ++ [.withdraw .c4] } }
        else t
      if t.saw.state = .claiming then withdrawn.setSaw { t.saw with state := .idle, feed := 0 }
      else if t.saw.state.asksClutch then withdrawn.setSaw (t.saw.stopped t.cfg)
      else t) := by
  rw [sawLineLost_eq, withdrawCircuit4_spelled]

/-- What the Admission Controller's entry to DARK keeps of the state (R110). -/
theorem admissionGoDark_state (v : State) :
    let u := settleOutAll v.adm.own v
    settleTx (u.setAdm u.adm.emptied) =
      { v with
        adm := { v.adm with own := [], heard := [] }
        tele := (settleTx (u.setAdm u.adm.emptied)).tele } := by
  intro u
  have hadm : u.adm.emptied = { v.adm with own := [], heard := [] } := by
    have h : u.adm = _ := settleOutAll_adm v.adm.own v
    rw [h]
    rfl
  rw [hadm]
  apply State.ext_fields
  all_goals simp [u]

/-- Settles O37. -/
theorem entriesToDarkAreTaken : Obligations.EntriesToDarkAreTaken := by
  refine ⟨fun s hp hd => ?_, fun s hp hd => ?_, fun s hp hd => ?_, fun s hp hd ha => ?_, fun s hp hd ha => ?_,
    fun s hp hd hwk => ?_, fun s hp hd hwk => ?_, fun s hp hd => ?_⟩
  · exact (answer_powered hp _).trans (congrArg _ (if_pos hd))
  · exact (answer_powered hp _).trans (congrArg _ (if_pos hd))
  · let v := s.setHanded { s.handed with dark := { s.handed.dark with admission := false } }
    let u := settleOutAll v.adm.own v
    refine ⟨settleTx (u.setAdm u.adm.emptied), (answer_powered hp _).trans (congrArg _ (if_pos hd)), ?_, ?_,
        fun k => ?_⟩
    · exact admissionGoDark_state v
    · have hapart := (settleOutAll_sameApart v.adm.own v).trans (Telegram.sameApart_settle u.tele)
      unfold Telegram.SameApart at hapart
      rw [Telegram.settle_list, settleOutAll_list, Telegram.settle_releaseSchedules,
        settleOutAll_releaseSchedules] at hapart
      exact hapart
    · exact (congrArg (Five.get · k) (Telegram.settle_claimSchedules u.tele)).trans
        (settleOutAll_claimSchedules v.adm.own v k)
  · refine ⟨_, (answer_powered hp _).trans (congrArg _ ((if_pos hd).trans (if_pos ha))), Circuits.endSpan_get s.circ,
      rfl⟩
  · have hna : ¬s.circ.active = true := by simp [ha]
    exact (answer_powered hp _).trans (congrArg _ ((if_pos hd).trans (if_neg hna)))
  · intro t withdrawn
    refine (answer_powered hp _).trans (congrArg _ ((if_pos hd).trans ((if_pos hwk).trans ?_)))
    exact sawLineLost_spelled t
  · have hheld : ¬s.sawWorks = true := by simp [hwk]
    exact (answer_powered hp _).trans (congrArg _ ((if_pos hd).trans (if_neg hheld)))
  · exact (answer_powered hp _).trans (congrArg _ (if_pos hd))

end Sys2Proof.Machine

/-! # The saw at a tick: the events, the standing clutch, and the timers (for O39) -/

namespace Sys2Proof.Machine

/-! ### The input events (R139 to R154) -/

theorem clutchAsserted_of_other {s : State} (hi : s.saw.state ≠ .idle) (hc : s.saw.state ≠ .claiming)
    (he : ∀ n, s.saw.state ≠ .engaging n) : clutchAsserted s = s := by
  unfold clutchAsserted
  cases h : s.saw.state with
  | idle => exact absurd h hi
  | claiming => exact absurd h hc
  | engaging n => exact absurd h (he n)
  | _ => rfl

/-- The states in which the opening clutch stops the drive (R143, R149 to R152). -/
def SawState.running : SawState → Bool
  | .spinup _ => true
  | .cutting => true
  | .backoff _ => true
  | .returning => true
  | .ready _ => true
  | _ => false

theorem SawState.running_iff (st : SawState) :
    st.running = true ↔ ∃ n, st = .spinup n ∨ st = .cutting ∨ st = .backoff n ∨ st = .returning ∨ st = .ready n := by
  cases st <;> simp [SawState.running]

theorem clutchDropped_of_other {s : State} (ho : s.saw.state.running = false) (hs : ∀ n, s.saw.state ≠ .stopping n) :
    clutchDropped s = s := by
  unfold clutchDropped
  cases h : s.saw.state with
  | stopping n => exact absurd h (hs n)
  | idle => rfl
  | claiming => rfl
  | engaging n => rfl
  | fault c => rfl
  | _ =>
    rw [h] at ho
    cases ho

theorem returnAsserted_of_other {s : State} (hr : s.saw.state ≠ .returning) (hb : ∀ n, s.saw.state ≠ .backoff n) :
    returnAsserted s = s := by
  unfold returnAsserted
  cases h : s.saw.state with
  | returning => exact absurd h hr
  | backoff n => exact absurd h (hb n)
  | _ => rfl

theorem forwardAsserted_of_other {s : State} (hc : s.saw.state ≠ .cutting) : forwardAsserted s = s := by
  unfold forwardAsserted
  cases h : s.saw.state with
  | cutting => exact absurd h hc
  | _ => rfl

theorem stopPressed_of_asking {s : State} (h : s.saw.state.asksClutch = true) : stopPressed s = enterStopping s := by
  unfold stopPressed
  cases hs : s.saw.state with
  | idle => rw [hs] at h; cases h
  | claiming => rw [hs] at h; cases h
  | stopping n => rw [hs] at h; cases h
  | fault c => rw [hs] at h; cases h
  | _ => rfl

theorem startPressed_of_other {s : State} (hi : s.saw.state ≠ .idle) (hr : ∀ n, s.saw.state ≠ .ready n) :
    startPressed s = s := by
  unfold startPressed
  cases h : s.saw.state with
  | idle => exact absurd h hi
  | ready n => exact absurd h (hr n)
  | _ => rfl

/-! ### The standing clutch and the timers (R139, R141, R143, R152, R153) -/

/-- Steps 2 and 3 of R157. -/
def sawSettled (s : State) : State := countSawTimer (testIdleClutch s)

theorem testIdleClutch_of_not_idle {s : State} (h : s.saw.state ≠ .idle) : testIdleClutch s = s :=
  if_neg fun hi => h hi.1

section
variable {s : State}

theorem sawSettled_of_idle (h : s.saw.state = .idle) :
    sawSettled s = s.setSaw (if s.saw.clutchClosed.level then s.saw.faulted .unexpected else s.saw) := by
  unfold sawSettled testIdleClutch
  by_cases hc : s.saw.clutchClosed.level = true
  · rw [if_pos ⟨h, hc⟩, if_pos hc]
    rfl
  · rw [if_neg fun hi => hc hi.2, if_neg hc]
    simp only [countSawTimer, h]
    rfl

theorem sawSettled_of_timed (hi : s.saw.state ≠ .idle) : sawSettled s = countSawTimer s := by
  rw [sawSettled, testIdleClutch_of_not_idle hi]

theorem sawSettled_of_engaging {n : Nat} (h : s.saw.state = .engaging n) :
    sawSettled s =
      if n ≤ 1 then (withdrawCircuit4 s).setSaw (s.saw.faulted .engage)
      else s.setSaw { s.saw with state := .engaging (n - 1) } := by
  rw [sawSettled_of_timed (by simp [h])]
  simp only [countSawTimer, h, countEngage, enterFault_withdrawCircuit4]

theorem sawSettled_of_spinup {n : Nat} (h : s.saw.state = .spinup n) :
    sawSettled s =
      if n ≤ 1 then (withdrawCircuit4 s).setSaw (s.saw.stopped s.cfg)
      else s.setSaw { s.saw with state := .spinup (n - 1) } := by
  rw [sawSettled_of_timed (by simp [h])]
  simp only [countSawTimer, h, countSpinup, enterStopping_eq]

theorem sawSettled_of_ready {n : Nat} (h : s.saw.state = .ready n) :
    sawSettled s =
      if n ≤ 1 then (withdrawCircuit4 s).setSaw (s.saw.stopped s.cfg)
      else s.setSaw { s.saw with state := .ready (n - 1) } := by
  rw [sawSettled_of_timed (by simp [h])]
  simp only [countSawTimer, h, countReady, enterStopping_eq]

theorem sawSettled_of_stopping {n : Nat} (h : s.saw.state = .stopping n) :
    sawSettled s =
      s.setSaw (if n ≤ 1 then s.saw.faulted .release else { s.saw with state := .stopping (n - 1) }) := by
  rw [sawSettled_of_timed (by simp [h]), apply_ite s.setSaw]
  simp only [countSawTimer, h, countRelease, enterFault_eq]

/-- The states without a timer that a tick counts. -/
def SawState.untimed : SawState → Bool
  | .claiming => true
  | .cutting => true
  | .returning => true
  | .backoff _ => true
  | .fault _ => true
  | _ => false

theorem sawSettled_of_untimed (h : s.saw.state.untimed = true) : sawSettled s = s := by
  have hi : s.saw.state ≠ .idle := by rintro hi; rw [hi] at h; cases h
  rw [sawSettled_of_timed hi]
  unfold countSawTimer
  cases hs : s.saw.state with
  | engaging n => rw [hs] at h; cases h
  | spinup n => rw [hs] at h; cases h
  | ready n => rw [hs] at h; cases h
  | stopping n => rw [hs] at h; cases h
  | _ => rfl

end

/-! ### The tick (R136, R157) -/

theorem sawInputs_of_events {p : Pins} {s : State} {a b c d e f : Bool}
    (h : [s.saw.clutchClosed.asserts p.clutchClosed, s.saw.clutchClosed.drops p.clutchClosed,
        s.saw.returnLimit.asserts p.returnLimit, s.saw.forwardLimit.asserts p.forwardLimit,
        s.saw.stop.asserts p.stop, s.saw.start.asserts p.start] = [a, b, c, d, e, f]) :
    sawInputs p s =
      onEvent f startPressed (onEvent e stopPressed (onEvent d forwardAsserted (onEvent c returnAsserted
        (onEvent b clutchDropped (onEvent a clutchAsserted (sampleSaw p s)))))) := by
  simp only [List.cons.injEq, and_true] at h
  obtain ⟨ha, hb, hc, hd, he, hf⟩ := h
  rw [← ha, ← hb, ← hc, ← hd, ← he, ← hf]
  rfl

theorem exec_sawTick {p : Pins} {s : State} (hp : s.powered = true) (hw : s.time.tickWaiting = [.saw]) :
    exec (.stationTick [.saw] p) s = .next (sawTick p (s.setTime { s.time with tickWaiting := [] })) := by
  rw [exec_stationTick_of_last .saw p hp hw]
  exact congrArg _ (sawTick_setTime p s _).symm

theorem sawTick_of_works {p : Pins} {s : State} (h : s.sawWorks = true) :
    sawTick p s = sawSettled (sawInputs p s) := if_pos h

theorem sawTick_of_held {p : Pins} {s : State} (h : s.sawWorks = false) : sawTick p s = sampleSaw p s :=
  if_neg (by simp [h])

end Sys2Proof.Machine

/-! # The saw at a tick, in each state (O39) -/

namespace Sys2Proof.Machine

/-! ### The entries that an input event leads to, and the timers that the same tick counts -/

/-- The saw on entry to SPINUP with a new pass (R142). -/
def Saw.newPass (cfg : Config) (w : Saw) : Saw :=
  { w with
    state := .spinup cfg.tsu
    feed := 0
    target := none
    baseFeed := if cfg.keepAdaptation then w.baseFeed else cfg.ff
    stallCount := 0 }

theorem enterSpinup_newPass (s : State) : enterSpinup true s = s.setSaw (s.saw.newPass s.cfg) := by
  unfold enterSpinup Saw.newPass
  cases s.cfg.keepAdaptation <;> rfl

theorem raiseRefused_iff (s : State) :
    raiseRefused s = true ↔
      s.circ.active = false ∨ s.mc.mode ≠ .run ∨ s.circuitState .c4 = .off ∧ s.cfg.rating.get .c4 = 0 := by
  simp only [raiseRefused, State.rating, Bool.or_eq_true, Bool.and_eq_true, Bool.not_eq_true', bne_iff_ne, beq_iff_eq,
    or_assoc, ne_eq]

theorem raiseCircuit4_of_off {s : State} (h : s.circuitState .c4 = .off) : raiseCircuit4 s = toWaiting .c4 false s := by
  simp only [raiseCircuit4, h]

theorem raiseCircuit4_of_not_off {s : State} (h : s.circuitState .c4 ≠ .off) : raiseCircuit4 s = s := by
  unfold raiseCircuit4
  cases hc : s.circuitState .c4 with
  | off => exact absurd hc h
  | _ => rfl

theorem sawSettled_setSaw_idle (t : State) (w : Saw) :
    sawSettled (t.setSaw { w with state := .idle, feed := 0 }) =
      t.setSaw (if w.clutchClosed.level then w.faulted .unexpected else { w with state := .idle, feed := 0 }) :=
  sawSettled_of_idle (s := t.setSaw { w with state := .idle, feed := 0 }) rfl

theorem sawSettled_setSaw_faulted (code : FaultCode) (t : State) (w : Saw) :
    sawSettled (t.setSaw (w.faulted code)) = t.setSaw (w.faulted code) :=
  sawSettled_of_untimed (s := t.setSaw (w.faulted code)) rfl

section
variable {cfg : Config}

theorem sawSettled_setSaw_spinup (hc : ConfigOk cfg) (t : State) {w : Saw} (h : w.state = .spinup cfg.tsu) :
    sawSettled (t.setSaw w) = t.setSaw { w with state := .spinup (cfg.tsu - 1) } := by
  have hlate : ¬cfg.tsu ≤ 1 := by have := hc.tsu.1; omega
  rw [sawSettled_of_spinup (s := t.setSaw w) h, if_neg hlate]
  rfl

theorem sawSettled_setSaw_ready (hc : ConfigOk cfg) (t : State) {w : Saw} (h : w.state = .ready cfg.tready) :
    sawSettled (t.setSaw w) = t.setSaw { w with state := .ready (cfg.tready - 1) } := by
  have hlate : ¬cfg.tready ≤ 1 := by have := hc.tready.1; omega
  rw [sawSettled_of_ready (s := t.setSaw w) h, if_neg hlate]
  rfl

theorem sawSettled_setSaw_stopped (hc : ConfigOk cfg) (t : State) (w : Saw) :
    sawSettled (t.setSaw (w.stopped cfg)) =
      t.setSaw
        { w.cleared with state := if w.clutchClosed.level then .stopping (cfg.trel - 1) else .idle, feed := 0 } := by
  have hlate : ¬cfg.trel ≤ 1 := by have := hc.trel.1; omega
  unfold Saw.stopped
  by_cases hl : w.clutchClosed.level = true
  · rw [if_pos hl, if_pos hl, sawSettled_of_stopping (n := cfg.trel) rfl, if_neg hlate]
    rfl
  · have hopen : ¬w.cleared.clutchClosed.level = true := hl
    rw [if_neg hl, if_neg hl, sawSettled_setSaw_idle, if_neg hopen]

theorem sawSettled_setSaw_returned (hc : ConfigOk cfg) (t : State) (w : Saw) :
    sawSettled (t.setSaw (w.returned cfg)) =
      t.setSaw
        (if w.returnLimit.level then { w.cleared with state := .ready (cfg.tready - 1), feed := 0 }
        else { w.cleared with state := .returning, feed := -(cfg.rrt : Int) }) := by
  unfold Saw.returned
  by_cases hl : w.returnLimit.level = true
  · rw [if_pos hl, if_pos hl, sawSettled_setSaw_ready hc t rfl]
  · rw [if_neg hl, if_neg hl, sawSettled_of_untimed rfl]

theorem sawSettled_setSaw_resumed (hc : ConfigOk cfg) (t : State) {w : Saw} (hl : w.returnLimit.level = true) :
    sawSettled (t.setSaw (w.resumed cfg)) =
      t.setSaw
        (if cfg.lst ≤ w.stallCount then { w.cleared with state := .ready (cfg.tready - 1), feed := 0 }
        else { w with state := .spinup (cfg.tsu - 1), feed := 0, target := none }) := by
  unfold Saw.resumed
  split
  case isTrue => rw [sawSettled_setSaw_returned hc, if_pos hl]
  case isFalse => rw [sawSettled_setSaw_spinup hc t rfl]

end

/-! ### Each input event in each state that names a result, with the rest of the tick (R139 to R154) -/

section
variable {s : State}

theorem settled_clutchAsserted_of_idle (h : s.saw.state = .idle) :
    sawSettled (clutchAsserted s) = s.setSaw (s.saw.faulted .unexpected) := by
  have hevent : clutchAsserted s = s.setSaw (s.saw.faulted .unexpected) := by
    simp only [clutchAsserted, h, enterFault_eq]
  rw [hevent, sawSettled_setSaw_faulted]

theorem settled_clutchAsserted_of_claiming (h : s.saw.state = .claiming) :
    sawSettled (clutchAsserted s) = (withdrawCircuit4 s).setSaw (s.saw.faulted .unexpected) := by
  have hevent : clutchAsserted s = (withdrawCircuit4 s).setSaw (s.saw.faulted .unexpected) := by
    simp only [clutchAsserted, h, enterFault_withdrawCircuit4]
  rw [hevent, sawSettled_setSaw_faulted]

theorem settled_enterSpinup_newPass (hc : ConfigOk s.cfg) :
    sawSettled (enterSpinup true s) = s.setSaw { s.saw.newPass s.cfg with state := .spinup (s.cfg.tsu - 1) } := by
  rw [enterSpinup_newPass, sawSettled_setSaw_spinup hc s rfl]

theorem clutchAsserted_of_engaging {n : Nat} (h : s.saw.state = .engaging n) :
    clutchAsserted s = enterSpinup true s := by
  simp only [clutchAsserted, h]

theorem settled_enterStopping (hc : ConfigOk s.cfg) :
    sawSettled (enterStopping s) =
      (withdrawCircuit4 s).setSaw
        { s.saw.cleared with
          state := if s.saw.clutchClosed.level then .stopping (s.cfg.trel - 1) else .idle
          feed := 0 } := by
  rw [enterStopping_eq, sawSettled_setSaw_stopped hc]

theorem clutchDropped_of_running (h : s.saw.state.running = true) : clutchDropped s = enterStopping s := by
  obtain ⟨n, hs | hs | hs | hs | hs⟩ := (SawState.running_iff _).mp h <;> simp only [clutchDropped, hs]

theorem settled_clutchDropped_of_stopping {n : Nat} (h : s.saw.state = .stopping n)
    (hopen : s.saw.clutchClosed.level = false) :
    sawSettled (clutchDropped s) = s.setSaw { s.saw with state := .idle, feed := 0 } := by
  have hevent : clutchDropped s = s.setSaw { s.saw with state := .idle, feed := 0 } := by
    simp only [clutchDropped, h, enterIdle]
  rw [hevent, sawSettled_setSaw_idle, if_neg (by simp [hopen])]

theorem settled_returnAsserted_of_returning (hc : ConfigOk s.cfg) (h : s.saw.state = .returning) :
    sawSettled (returnAsserted s) = s.setSaw { s.saw with state := .ready (s.cfg.tready - 1), feed := 0 } := by
  have hevent : returnAsserted s = s.setSaw { s.saw with state := .ready s.cfg.tready, feed := 0 } := by
    simp only [returnAsserted, h, enterReady]
  rw [hevent, sawSettled_setSaw_ready hc s rfl]

theorem settled_returnAsserted_of_backoff {n : Nat} (hc : ConfigOk s.cfg) (h : s.saw.state = .backoff n)
    (hl : s.saw.returnLimit.level = true) :
    sawSettled (returnAsserted s) =
      s.setSaw
        (if s.cfg.lst ≤ s.saw.stallCount then
          { s.saw.cleared with state := .ready (s.cfg.tready - 1), feed := 0 }
        else { s.saw with state := .spinup (s.cfg.tsu - 1), feed := 0, target := none }) := by
  have hevent : returnAsserted s = s.setSaw (s.saw.resumed s.cfg) := by
    simp only [returnAsserted, h, endBackoff_eq]
  rw [hevent, sawSettled_setSaw_resumed hc s hl]

theorem settled_forwardAsserted_of_cutting (hc : ConfigOk s.cfg) (h : s.saw.state = .cutting) :
    sawSettled (forwardAsserted s) =
      s.setSaw
        (if s.saw.returnLimit.level then { s.saw.cleared with state := .ready (s.cfg.tready - 1), feed := 0 }
        else { s.saw.cleared with state := .returning, feed := -(s.cfg.rrt : Int) }) := by
  have hevent : forwardAsserted s = s.setSaw (s.saw.returned s.cfg) := by
    simp only [forwardAsserted, h, enterReturning_eq]
  rw [hevent, sawSettled_setSaw_returned hc]

theorem settled_stopPressed_of_claiming (h : s.saw.state = .claiming) :
    sawSettled (stopPressed s) =
      (withdrawCircuit4 s).setSaw
        (if s.saw.clutchClosed.level then s.saw.faulted .unexpected
        else { s.saw with state := .idle, feed := 0 }) := by
  have hevent : stopPressed s = (withdrawCircuit4 s).setSaw { s.saw with state := .idle, feed := 0 } := by
    simp only [stopPressed, h, enterIdle_withdrawCircuit4]
  rw [hevent, sawSettled_setSaw_idle]

theorem settled_stopPressed_of_fault {code : FaultCode} (h : s.saw.state = .fault code) :
    sawSettled (stopPressed s) =
      s.setSaw (if s.saw.clutchClosed.level then s.saw else { s.saw with state := .idle, feed := 0 }) := by
  by_cases hl : s.saw.clutchClosed.level = true
  · have hevent : stopPressed s = s := by simp only [stopPressed, h, if_pos hl]
    rw [hevent, if_pos hl, sawSettled_of_untimed (by rw [h]; rfl)]
    rfl
  · have hevent : stopPressed s = s.setSaw { s.saw with state := .idle, feed := 0 } := by
      simp only [stopPressed, h, if_neg hl, enterIdle]
    rw [hevent, sawSettled_setSaw_idle, if_neg hl, if_neg hl]

theorem stopPressed_of_resting (h : s.saw.state = .idle ∨ ∃ n, s.saw.state = .stopping n) : stopPressed s = s := by
  obtain hi | ⟨n, hs⟩ := h
  · simp only [stopPressed, hi]
  · simp only [stopPressed, hs]

theorem settled_startPressed_of_refused (h : s.saw.state = .idle) (hr : raiseRefused s = true) :
    sawSettled (startPressed s) =
      s.setSaw
        (if s.saw.clutchClosed.level then { s.saw.faulted .unexpected with sawRefused := satInc s.saw.sawRefused }
        else { s.saw with sawRefused := satInc s.saw.sawRefused }) := by
  have hevent : startPressed s = s.setSaw { s.saw with sawRefused := satInc s.saw.sawRefused } := by
    simp only [startPressed, h, if_pos hr]
  rw [hevent]
  exact sawSettled_of_idle (s := s.setSaw { s.saw with sawRefused := satInc s.saw.sawRefused }) h

theorem settled_startPressed_of_raised (h : s.saw.state = .idle) (hr : ¬raiseRefused s = true)
    (hoff : s.circuitState .c4 = .off) :
    sawSettled (startPressed s) = toWaiting .c4 false (s.setSaw { s.saw with state := .claiming }) := by
  have hevent : startPressed s = toWaiting .c4 false (s.setSaw { s.saw with state := .claiming }) := by
    simp only [startPressed, h, if_neg hr]
    exact raiseCircuit4_of_off (s := s.setSaw { s.saw with state := .claiming }) hoff
  rw [hevent, sawSettled_of_untimed rfl]

theorem startPressed_of_ready {n : Nat} (h : s.saw.state = .ready n) : startPressed s = enterSpinup true s := by
  simp only [startPressed, h]

end

end Sys2Proof.Machine

/-! # O39: one event at a time from the lemmas of the states, and any events in R157's order -/

namespace Sys2Proof.Machine

/-- Settles O39: each input event in each state, and the model's events as the statement spells them out. -/
theorem sawTickTakesInputsAndCounts : Obligations.SawTickTakesInputsAndCounts := by
  refine ⟨fun p s hp hw hc => ?_, fun p s hp hw hwk => ?_⟩
  · intro rises events w u withdrawn tick becomes leaves emptied fault idle stopped newPass ready returned refusals
      open_ unmoved
    let x : State := u.setSaw w
    have htick : tick = .next (sawTick p u) := exec_sawTick hp hw
    have hsample : sampleSaw p u = x := rfl
    refine ⟨fun hwk => htick.trans (congrArg _ (sawTick_of_held hwk)), fun hwk => ?_⟩
    have hsettled : ∀ {a b c d e f : Bool} {v : State}, events = [a, b, c, d, e, f] →
        onEvent f startPressed (onEvent e stopPressed (onEvent d forwardAsserted (onEvent c returnAsserted
          (onEvent b clutchDropped (onEvent a clutchAsserted x))))) = v → tick = .next (sawSettled v) :=
      fun h hv => htick.trans (congrArg _ ((sawTick_of_works (s := u) hwk).trans
        (congrArg sawSettled ((sawInputs_of_events (s := u) h).trans hv))))
    have hwithdrawn : ∀ v, (withdrawCircuit4 x).setSaw v = { withdrawn with saw := v } := fun v => by
      rw [withdrawCircuit4_setSaw, withdrawCircuit4_spelled]
      rfl
    have hunmoved : tick = .next (sawSettled x) → unmoved := fun h => by
      refine ⟨fun hs => ?_, fun n hs => ?_, fun n hs => ?_, fun n hs => ?_, fun n hs => ?_, fun hs => ?_⟩
      · exact h.trans (congrArg _ (sawSettled_of_idle (s := x) hs))
      · rw [sawSettled_of_engaging (s := x) hs] at h
        split
        case isTrue hn => exact h.trans (congrArg _ ((if_pos hn).trans (hwithdrawn _)))
        case isFalse hn => exact h.trans (congrArg _ (if_neg hn))
      · rw [sawSettled_of_spinup (s := x) hs] at h
        split
        case isTrue hn => exact h.trans (congrArg _ ((if_pos hn).trans (hwithdrawn _)))
        case isFalse hn => exact h.trans (congrArg _ (if_neg hn))
      · rw [sawSettled_of_ready (s := x) hs] at h
        split
        case isTrue hn => exact h.trans (congrArg _ ((if_pos hn).trans (hwithdrawn _)))
        case isFalse hn => exact h.trans (congrArg _ (if_neg hn))
      · exact h.trans (congrArg _ (sawSettled_of_stopping (s := x) hs))
      · refine h.trans (congrArg _ (sawSettled_of_untimed (s := x) ?_))
        change s.saw.state.untimed = true
        obtain hs | hs | hs | ⟨n, hs⟩ | ⟨code, hs⟩ := hs <;> rw [hs] <;> rfl
    refine ⟨fun h => ⟨fun hs => ?_, fun hs => ?_, fun n hs => ?_, fun hi hcl he => ?_⟩,
      fun h => ⟨fun hs => ?_, fun n hs => ?_, fun ho hs => ?_⟩,
      fun h => ⟨fun hs => ?_, fun n hs => ?_, fun hr hb => ?_⟩,
      fun h => ⟨fun hs => ?_, fun hs => ?_⟩,
      fun h => ⟨fun hs => ?_, fun hs => ?_, fun code hs => ?_, fun hs => ?_⟩,
      fun h => ⟨fun hs => ⟨fun hr => ?_, fun ha hm hoff hrat => ?_⟩, fun n hs => ?_, fun hi hr => ?_⟩, fun h => ?_⟩
    · exact (hsettled h rfl).trans (congrArg _ (settled_clutchAsserted_of_idle (s := x) hs))
    · exact (hsettled h rfl).trans (congrArg _ ((settled_clutchAsserted_of_claiming (s := x) hs).trans (hwithdrawn _)))
    · exact (hsettled h (clutchAsserted_of_engaging (s := x) hs)).trans
        (congrArg _ (settled_enterSpinup_newPass (s := x) hc))
    · exact hunmoved (hsettled h (clutchAsserted_of_other (s := x) hi hcl he))
    · exact (hsettled h (clutchDropped_of_running (s := x) ((SawState.running_iff _).mpr hs))).trans
        (congrArg _ ((settled_enterStopping (s := x) hc).trans (hwithdrawn _)))
    · have hdrops : (s.saw.clutchClosed.level && !w.clutchClosed.level) = true := (List.cons.inj (List.cons.inj h).2).1
      have hopen : w.clutchClosed.level = false := Bool.not_eq_true' _ |>.mp (Bool.and_eq_true_iff.mp hdrops).2
      exact (hsettled h rfl).trans (congrArg _ (settled_clutchDropped_of_stopping (s := x) hs hopen))
    · exact hunmoved (hsettled h
        (clutchDropped_of_other (s := x) (Bool.not_eq_true _ |>.mp fun hr => ho ((SawState.running_iff _).mp hr)) hs))
    · exact (hsettled h rfl).trans (congrArg _ (settled_returnAsserted_of_returning (s := x) hc hs))
    · have hrises : (!s.saw.returnLimit.level && w.returnLimit.level) = true :=
        (List.cons.inj (List.cons.inj (List.cons.inj h).2).2).1
      exact (hsettled h rfl).trans
        (congrArg _ (settled_returnAsserted_of_backoff (s := x) hc hs (Bool.and_eq_true_iff.mp hrises).2))
    · exact hunmoved (hsettled h (returnAsserted_of_other (s := x) hr hb))
    · exact (hsettled h rfl).trans (congrArg _ (settled_forwardAsserted_of_cutting (s := x) hc hs))
    · exact hunmoved (hsettled h (forwardAsserted_of_other (s := x) hs))
    · exact (hsettled h rfl).trans (congrArg _ ((settled_stopPressed_of_claiming (s := x) hs).trans (hwithdrawn _)))
    · exact (hsettled h (stopPressed_of_asking (s := x) hs)).trans
        (congrArg _ ((settled_enterStopping (s := x) hc).trans (hwithdrawn _)))
    · exact (hsettled h rfl).trans (congrArg _ (settled_stopPressed_of_fault (s := x) hs))
    · exact hunmoved (hsettled h (stopPressed_of_resting (s := x) hs))
    · exact (hsettled h rfl).trans
        (congrArg _ (settled_startPressed_of_refused (s := x) hs ((raiseRefused_iff x).mpr hr)))
    · have hraise : ¬raiseRefused x = true := fun hr => by
        obtain hi | hm' | ⟨-, hz⟩ := (raiseRefused_iff x).mp hr
        · cases ha.symm.trans hi
        · exact hm' hm
        · exact hrat hz
      exact (hsettled h rfl).trans (congrArg _ (settled_startPressed_of_raised (s := x) hs hraise hoff))
    · exact (hsettled h (startPressed_of_ready (s := x) hs)).trans
        (congrArg _ (settled_enterSpinup_newPass (s := x) hc))
    · exact hunmoved (hsettled h (startPressed_of_other (s := x) hi hr))
    · exact hunmoved (hsettled h rfl)
  intro becomes emptied withdrawn idle fault stopping resumed newPass ready returning raised clutchCloses clutchOpens
    returnLimit forwardLimit stop start standing counted at_ w sampled clutch limits buttons
  have hwithdrawn : withdrawCircuit4 = withdrawn := funext withdrawCircuit4_spelled
  have hstopping : enterStopping = stopping := funext fun v => (enterStopping_eq v).trans (by rw [hwithdrawn]; rfl)
  have hreturning : enterReturning = returning :=
    funext fun v => (enterReturning_eq v).trans (apply_ite v.setSaw _ _ _)
  have hnewPass : enterSpinup true = newPass := funext enterSpinup_newPass
  have hraised : (fun v => if raiseRefused v then v.setSaw { v.saw with sawRefused := satInc v.saw.sawRefused }
      else raiseCircuit4 (v.setSaw { v.saw with state := .claiming })) = raised := by
    funext v
    refine if_congr (raiseRefused_iff v) rfl ?_
    by_cases hoff : v.circuitState .c4 = .off
    · exact (raiseCircuit4_of_off (s := v.setSaw { v.saw with state := .claiming }) hoff).trans (if_pos hoff).symm
    · exact (raiseCircuit4_of_not_off (s := v.setSaw { v.saw with state := .claiming }) hoff).trans (if_neg hoff).symm
  have hcloses : clutchAsserted = clutchCloses := by
    funext v
    unfold clutchAsserted
    rw [hwithdrawn, hnewPass] <;> rfl
  have hopens : clutchDropped = clutchOpens := by
    funext v
    unfold clutchDropped
    rw [hstopping]
    simp only [clutchOpens]
    cases v.saw.state <;> rfl
  have hreturn : returnAsserted = returnLimit := by
    funext v
    unfold returnAsserted endBackoff
    rw [hreturning] <;> rfl
  have hforward : forwardAsserted = forwardLimit := by
    funext v
    unfold forwardAsserted
    rw [hreturning]
    simp only [forwardLimit]
    cases v.saw.state <;> rfl
  have hstop : stopPressed = stop := by
    funext v
    unfold stopPressed
    rw [hwithdrawn, hstopping]
    simp only [stop]
    cases v.saw.state <;> rfl
  have hstart : startPressed = start := by
    funext v
    unfold startPressed
    rw [hnewPass]
    cases h : v.saw.state <;> simp only [start, h, ← hraised]
  have hcounted : countSawTimer = counted := by
    funext v
    unfold countSawTimer countEngage countSpinup countReady
    rw [hwithdrawn, hstopping] <;> rfl
  refine ((exec_sawTick hp hw).trans (congrArg _ (sawTick_of_works hwk))).trans ?_
  simp only [buttons, limits, clutch]
  rw [← hstart, ← hstop, ← hforward, ← hreturn, ← hopens, ← hcloses, ← hcounted]
  rfl

end Sys2Proof.Machine

/-! # The clamps: nearest value, no change in range, and their count (O47) -/

namespace Sys2Proof.Machine

theorem clampNat_of_le {x hi : Nat} (h : x ≤ hi) : clampNat x 0 hi = x := clampNat_of_within ⟨Nat.zero_le x, h⟩

theorem Five.clamped_of_le {v : Five Nat} {hi : Nat} (h : ∀ k, v.get k ≤ hi) :
    (⟨clampNat v.c0 0 hi, clampNat v.c1 0 hi, clampNat v.c2 0 hi, clampNat v.c3 0 hi, clampNat v.c4 0 hi⟩ : Five Nat) =
      v :=
  have each : ∀ k, clampNat (v.get k) 0 hi = v.get k := fun k => clampNat_of_le (h k)
  Five.mk.injEq .. |>.mpr ⟨each .c0, each .c1, each .c2, each .c3, each .c4⟩

theorem max_eq_ite_lt (x y : Nat) : max x y = if x < y then y else x := by split <;> omega

theorem min_eq_ite_gt (x y : Nat) : min x y = if y < x then y else x := by split <;> omega

/-- The count of changed fields, field by field (R183). -/
theorem length_filter_zip_ne (l m : List Nat) :
    ((l.zip m).filter fun p => p.1 != p.2).length = (List.zipWith (fun x y => if x = y then 0 else 1) l m).sum := by
  induction l generalizing m with
  | nil => rfl
  | cons x l ih =>
    cases m with
    | nil => rfl
    | cons y m =>
      by_cases hxy : x = y
      · simp [hxy, ih]
      · simp [hxy, ih, Nat.add_comm]

theorem length_filter_zip_self (l : List Nat) : ((l.zip l).filter fun p => p.1 != p.2).length = 0 := by
  induction l with
  | nil => rfl
  | cons x l ih => simpa using ih

theorem clampsMade_self (c : Config) : clampsMade c c = 0 := length_filter_zip_self (configNumbers c)

section
variable {c : Config}

theorem clampFixed_of_ok (h : ConfigOk c) : clampFixed c = c := by
  simp only [clampFixed, Five.clamped_of_le h.rating, Five.clamped_of_le h.cls, clampNat_of_within h.fcfg,
      clampNat_of_within h.vmin, clampNat_of_le h.k,
    clampNat_of_within h.na, clampNat_of_within h.nl, clampNat_of_le h.kp, clampNat_of_le h.ki,
    clampNat_of_within h.fover, clampNat_of_le h.pb, clampNat_of_within h.vn, clampNat_of_within h.hamlet,
    clampNat_of_within h.ia, clampNat_of_within h.nrep, clampNat_of_within h.eq, clampNat_of_within h.trd,
    clampNat_of_le h.lc, clampNat_of_le h.reserve, clampNat_of_within h.th, clampNat_of_within h.ts,
    clampNat_of_within h.tb, clampNat_of_within h.nf, clampNat_of_le h.lr, clampNat_of_within h.t1,
    clampNat_of_within h.t2, clampNat_of_within h.tq, clampNat_of_within h.tr, clampNat_of_within h.tce,
    clampNat_of_within h.trel, clampNat_of_within h.msp, clampNat_of_within h.tsu, clampNat_of_within h.rr,
    clampNat_of_within h.nst, clampNat_of_within h.nad, clampNat_of_within h.step, clampNat_of_within h.rbk,
    clampNat_of_within h.nbk, clampNat_of_within h.lst, clampNat_of_within h.rrt, clampNat_of_within h.tready,
    clampNat_of_le h.ht, clampNat_of_le h.band, clampNat_of_within h.ng, clampNat_of_within h.tgi,
    clampNat_of_within h.lp, clampNat_of_within h.tdm, clampNat_of_within h.trw, clampNat_of_within h.tsg]

theorem clampLinked_of_ok (h : ConfigOk c) : clampLinked c = c := by
  have hu2 : max c.u2 (c.u1 + 100) = c.u2 := max_eq_left h.u2Linked
  have hdsl : min c.dsl (c.u1 - 50) = c.dsl := min_eq_left (by have := h.dslLinked; have := h.dst; omega)
  simp only [clampLinked, clampNat_of_within h.u1, clampNat_of_within h.u2, clampNat_of_within h.dsl,
    clampNat_of_within h.ff, clampNat_of_within h.fc, hu2, hdsl,
    clampNat_of_within (⟨h.dslLinked, h.dst⟩ : within (c.dsl + 50) c.dst c.u1)]

theorem clampConfig_of_ok (h : ConfigOk c) : clampConfig c = c := by
  rw [clampConfig, clampFixed_of_ok h, clampLinked_of_ok h]

end

/-- Settles O47. -/
theorem clampsBringEveryRecordInRange : Obligations.ClampsBringEveryRecordInRange := by
  refine ⟨fun c => ?_, ?_⟩
  · intro into u1 u2 dsl ff numbers
    refine ⟨clampConfig_ok c, ?_, length_filter_zip_ne _ _, fun h => ?_⟩
    · simp only [clampConfig, clampLinked, max_eq_ite_lt, min_eq_ite_gt]
      rfl
    · rw [clampConfig_of_ok h]
      exact ⟨rfl, clampsMade_self c⟩
  · intro mill
    decide

end Sys2Proof.Machine

/-! # Gate Trim: evaluations and the tick (O41, O42) -/

namespace Sys2Proof.Machine

/-! ### The counts and the pulses (R163 to R166) -/

theorem Gate.updateCounts_eq (cfg : Config) (h : Nat) (g : Gate) :
    g.updateCounts cfg h =
      { g with
        high := if cfg.ht + cfg.band < h then min cfg.ng (g.high + 1) else 0
        low :=
          if cfg.ht + cfg.band < h then 0 else if h + cfg.band < cfg.ht then min cfg.ng (g.low + 1) else 0 } := by
  unfold Gate.updateCounts
  by_cases hhigh : cfg.ht + cfg.band < h
  · rw [if_pos hhigh, if_pos hhigh, if_pos hhigh]
  · rw [if_neg hhigh, if_neg hhigh, if_neg hhigh]
    split <;> rfl

theorem Gate.mayPulse_iff (tgi : Nat) (g : Gate) :
    g.mayPulse tgi = true ↔ g.state = .rest ∧ tgi ≤ g.sinceLast := by
  rw [Gate.mayPulse, Bool.and_eq_true, decide_eq_true_iff]
  cases g.state <;> simp [TrimState.isRest]

theorem raiseAllowed_iff (s : State) :
    raiseAllowed s = true ↔ s.gate.low = s.cfg.ng ∧ s.gate.openLimit.level = false := by
  simp [raiseAllowed]

theorem lowerAllowed_iff {s : State} (hq : s.tele.quality = .good) :
    lowerAllowed s = true ↔
      s.gate.high = s.cfg.ng ∧ s.adm.claimsPending = false ∧ s.anyShedding = false ∧
        s.gate.closedLimit.level = false := by
  simp [lowerAllowed, hq, and_assoc]

/-- R165 in GOOD reception: LOWER before RAISE. -/
theorem tryPulse_of_good {s : State} (hq : s.tele.quality = .good) :
    tryPulse s =
      s.setGate
        (if (s.gate.state = .rest ∧ s.cfg.tgi ≤ s.gate.sinceLast) ∧ s.gate.high = s.cfg.ng ∧
            s.adm.claimsPending = false ∧ s.anyShedding = false ∧ s.gate.closedLimit.level = false then
          s.gate.startLower s.cfg.lp
        else if (s.gate.state = .rest ∧ s.cfg.tgi ≤ s.gate.sinceLast) ∧ s.gate.low = s.cfg.ng ∧
            s.gate.openLimit.level = false then
          s.gate.startRaise s.cfg.lp
        else s.gate) := by
  refine Eq.trans ?_ (congrArg s.setGate
    (if_congr (and_congr (Gate.mayPulse_iff _ _) (lowerAllowed_iff hq)) rfl
      (if_congr (and_congr (Gate.mayPulse_iff _ _) (raiseAllowed_iff s)) rfl rfl)))
  unfold tryPulse
  by_cases hp : s.gate.mayPulse s.cfg.tgi = true
  · by_cases hl : lowerAllowed s = true
    · rw [if_pos hp, if_pos hl, if_pos ⟨hp, hl⟩]
    · by_cases hr : raiseAllowed s = true
      · rw [if_pos hp, if_neg hl, if_pos hr, if_neg fun h => hl h.2, if_pos ⟨hp, hr⟩]
      · rw [if_pos hp, if_neg hl, if_neg hr, if_neg fun h => hl h.2, if_neg fun h => hr h.2]
        rfl
  · rw [if_neg hp, if_neg fun h => hp h.1, if_neg fun h => hp h.1]
    rfl

theorem tryPulse_of_no_count {s : State} (hq : s.tele.quality = .good) (hh : s.gate.high ≠ s.cfg.ng)
    (hl : s.gate.low ≠ s.cfg.ng) : tryPulse s = s := by
  rw [tryPulse_of_good hq, if_neg fun h => hh h.2.1, if_neg fun h => hl h.2.1]
  rfl

/-! ### The evaluation (R163) -/

/-- Gate Trim after an evaluation in GOOD reception, less the pulse that it may start (R163, R164). -/
def Gate.evaluatedAs (cfg : Config) (wsum csum setPoint : Nat) (g : Gate) : Gate :=
  { g.judge cfg (spareFraction wsum csum) with
    evaluation := some { wsum := wsum, csum := csum, h := spareFraction wsum csum, setPoint := setPoint } }

section
variable {e : EvaluationEvent} {s : State}

theorem gateEvaluate_of_ignored (h : s.gate.active = false ∨ e.composedIn ≠ .run) : gateEvaluate e s = s := by
  have hoff : ¬(s.gate.active && e.composedIn == .run) = true := by
    rw [Bool.and_eq_true, beq_iff_eq]
    rintro ⟨ha, hr⟩
    obtain hi | hn := h
    · cases ha.symm.trans hi
    · exact hn hr
  exact if_neg hoff

theorem gateEvaluate_of_poor (ha : s.gate.active = true) (hr : e.composedIn = .run) (hq : s.tele.quality = .poor) :
    gateEvaluate e s = s.setGate s.gate.clearCounts := by
  simp only [gateEvaluate, ha, hr, hq, beq_self_eq_true, Bool.and_self, if_true]

theorem gateEvaluate_of_good (ha : s.gate.active = true) (hr : e.composedIn = .run) (hq : s.tele.quality = .good) :
    gateEvaluate e s =
      tryPulse
        (s.setGate
          (s.gate.evaluatedAs s.cfg (e.ballast + s.table.ballast) (e.capacity + s.table.capacity) s.gov.setPoint)) := by
  simp only [gateEvaluate, ha, hr, hq, beq_self_eq_true, Bool.and_self, if_true, Gate.evaluatedAs]

end

theorem exec_gateEvaluation {e : EvaluationEvent} {rest : List EvaluationEvent} {s : State} (hp : s.powered = true)
    (h : s.handed.evaluations = e :: rest) :
    exec .gateEvaluation s = .next (gateEvaluate e (s.setHanded { s.handed with evaluations := rest })) := by
  refine (answer_powered hp _).trans (congrArg _ ?_)
  rw [h]

/-- Settles O41. -/
theorem evaluationMovesTheGate : Obligations.EvaluationMovesTheGate := by
  refine ⟨fun e rest s hp hev => ?_, fun s hp hst => (answer_powered hp _).trans (congrArg _ (if_pos hst))⟩
  intro t wsum csum
  have hexec : exec .gateEvaluation s = .next (gateEvaluate e t) := exec_gateEvaluation hp hev
  refine ⟨fun h => hexec.trans (congrArg _ (gateEvaluate_of_ignored (s := t) h)), fun ha hr => ⟨fun hq => ?_,
    fun hq hz hng => ?_, fun hq hz => ?_⟩⟩
  · exact hexec.trans (congrArg _ (gateEvaluate_of_poor (s := t) ha hr hq))
  · refine hexec.trans (congrArg _ ((gateEvaluate_of_good (s := t) ha hr hq).trans ?_))
    have hnone : spareFraction wsum csum = none := if_pos hz
    let cleared : Gate :=
      { s.gate with
        high := 0, low := 0
        evaluation := some { wsum := wsum, csum := 0, h := none, setPoint := s.gov.setPoint } }
    have hcleared : t.gate.evaluatedAs t.cfg wsum csum t.gov.setPoint = cleared := by
      rw [Gate.evaluatedAs, hnone, hz]
      rfl
    have hcount : 0 ≠ s.cfg.ng := by omega
    exact (congrArg (fun g => tryPulse (t.setGate g)) hcleared).trans
      (tryPulse_of_no_count (s := t.setGate cleared) hq hcount hcount)
  · intro h high low judged free lower raise
    refine hexec.trans (congrArg _ ((gateEvaluate_of_good (s := t) ha hr hq).trans ?_))
    have hsome : spareFraction wsum csum = some h := if_neg hz
    have hjudged : t.gate.evaluatedAs t.cfg wsum csum t.gov.setPoint = judged := by
      rw [Gate.evaluatedAs, hsome, Gate.judge, Gate.updateCounts_eq]
    refine (congrArg (fun g => tryPulse (t.setGate g)) hjudged).trans ?_
    exact tryPulse_of_good (s := t.setGate judged) hq

/-! ### The tick (R162, R166, R167) -/

/-- A pulse is cut by its limit at this tick. -/
def Gate.cutAt (p : Pins) (g : Gate) : Bool :=
  match g.state with
  | .raising _ => g.openLimit.asserts p.openLimit
  | .lowering _ => g.closedLimit.asserts p.closedLimit
  | .rest => false

theorem Gate.takeLimits_eq (p : Pins) (g : Gate) :
    g.takeLimits p = if g.cutAt p then (g.sampleLimits p).cut else g.sampleLimits p := by
  unfold Gate.takeLimits Gate.cutAt
  cases g.state <;> rfl

/-- What remains of a pulse after a tick (R167). -/
def Gate.stateAfter (p : Pins) (g : Gate) : TrimState :=
  match g.state with
  | .raising n => if g.cutAt p then .rest else if n ≤ 1 then .rest else .raising (n - 1)
  | .lowering n => if g.cutAt p then .rest else if n ≤ 1 then .rest else .lowering (n - 1)
  | .rest => .rest

/-- Steps 1 to 3 of R167. -/
def Gate.tickedBy (p : Pins) (g : Gate) : Gate :=
  { g with
    state := g.stateAfter p
    sinceLast := satInc g.sinceLast
    openLimit := g.openLimit.sample p.openLimit
    closedLimit := g.closedLimit.sample p.closedLimit
    pulsesCut := if g.cutAt p then satInc g.pulsesCut else g.pulsesCut }

theorem Gate.tickedBy_eq (p : Pins) (g : Gate) : (g.takeLimits p).countSince.countPulse = g.tickedBy p := by
  rw [Gate.takeLimits_eq, Gate.tickedBy, Gate.stateAfter]
  cases hst : g.state with
  | rest =>
    have hcut : g.cutAt p = false := by simp only [Gate.cutAt, hst]
    simp [hcut, Gate.countPulse, Gate.countSince, Gate.sampleLimits, hst]
  | raising n =>
    by_cases hcut : g.cutAt p = true
    · simp [hcut, Gate.countPulse, Gate.countSince, Gate.sampleLimits, Gate.cut, Gate.rest]
    · by_cases hn : n ≤ 1 <;> simp [hcut, hn, Gate.countPulse, Gate.countSince, Gate.sampleLimits, hst, Gate.rest]
  | lowering n =>
    by_cases hcut : g.cutAt p = true
    · simp [hcut, Gate.countPulse, Gate.countSince, Gate.sampleLimits, Gate.cut, Gate.rest]
    · by_cases hn : n ≤ 1 <;> simp [hcut, hn, Gate.countPulse, Gate.countSince, Gate.sampleLimits, hst, Gate.rest]

theorem sheddingRaise_eq (s : State) :
    sheddingRaise s =
      s.setGate
        (if s.gate.active = true ∧ (s.circ.shedding = true ∨ s.table.shedding = true) ∧ s.gate.state = .rest ∧
            s.cfg.tgi ≤ s.gate.sinceLast ∧ s.gate.openLimit.level = false then
          s.gate.startRaise s.cfg.lp
        else s.gate) := by
  have hdue : (s.gate.active && s.anyShedding && s.gate.mayPulse s.cfg.tgi && !s.gate.openLimit.level) = true ↔
      s.gate.active = true ∧ (s.circ.shedding = true ∨ s.table.shedding = true) ∧ s.gate.state = .rest ∧
        s.cfg.tgi ≤ s.gate.sinceLast ∧ s.gate.openLimit.level = false := by
    rw [Bool.and_eq_true, Bool.and_eq_true, Bool.and_eq_true, Gate.mayPulse_iff, State.anyShedding, Bool.or_eq_true,
      Bool.not_eq_true', and_assoc, and_assoc, and_assoc]
  rw [apply_ite s.setGate]
  exact if_congr hdue rfl rfl

/-- Settles O42. -/
theorem gateTickCountsAndRaises : Obligations.GateTickCountsAndRaises := by
  intro p s hp hw openLimit closedLimit opened closed cut state since ticked
  have hticked : (s.gate.takeLimits p).countSince.countPulse = ticked := Gate.tickedBy_eq p s.gate
  refine (exec_stationTick_of_last .gate p hp hw).trans (congrArg _ ?_)
  have hraise := sheddingRaise_eq (s.setGate ticked)
  rw [← hticked] at hraise
  exact (congrArg (fun t : State => t.setTime { s.time with tickWaiting := [] }) hraise).trans (by rw [hticked]; rfl)

end Sys2Proof.Machine

/-! # The Mode Controller: the Line Record, the recall, the waits and the dark memory (O43, O44) -/

namespace Sys2Proof.Machine

/-! ### The Line Record (R171, R174) -/

theorem exec_modeCycleEnd {r : LineRecord} {rest : List LineRecord} {s : State} (hp : s.powered = true)
    (h : s.handed.modeRecords = r :: rest) :
    exec .modeCycleEnd s = .next (modeRecord r (s.setHanded { s.handed with modeRecords := rest })) := by
  refine (answer_powered hp _).trans (congrArg _ ?_)
  rw [h]

section
variable {r : LineRecord} {s : State}

theorem modeRecord_of_relock (hm : s.mc.mode = .dark) (hl : r.lock = .locked) : modeRecord r s = enterRecover s := by
  simp only [modeRecord, hm, hl]

theorem modeRecord_of_lost (hm : s.mc.mode.online = true) (hl : r.lock = .lost) :
    modeRecord r s = enterDark true s := by
  obtain h | h | h := (Mode.online_iff _).mp hm <;> simp only [modeRecord, h, hl]

theorem modeRecord_of_standing
    (h : s.mc.mode = .dark ∧ r.lock ≠ .locked ∨ s.mc.mode.online = true ∧ r.lock ≠ .lost ∨ s.mc.mode = .halted) :
    modeRecord r s = s := by
  unfold modeRecord
  split
  case h_1 hm hl => simp [hm, hl, Mode.online] at h
  case h_2 hm hl => simp [hm, hl] at h
  case h_3 hm hl => simp [hm, hl] at h
  case h_4 hm hl => simp [hm, hl] at h
  case h_5 => rfl

theorem enterRecover_of_plain (h : s.cfg.recallOrigin = false) :
    enterRecover s =
      { s with
        mc := { s.mc with mode := .recover, recallWait := some s.cfg.trw }
        tele := { s.tele with statusCount := 0, rx := if s.tele.tx.isSending then s.tele.rx else .hunt } } := by
  simp [enterRecover, telegramRecoverEntry, h]
  rfl

theorem enterRecover_of_origin (h : s.cfg.recallOrigin = true) :
    enterRecover s =
      enterStagger
        (settleTx
          (composeStatus
            { s with
              mc := { s.mc with mode := .recover }
              tele :=
                { s.tele with
                  statusCount := 0
                  rx := if s.tele.tx.isSending then s.tele.rx else .hunt
                  recallDuration := s.cfg.trd } })) := by
  simp [enterRecover, telegramRecoverEntry, h]
  rfl

end

/-- Settles O43. -/
theorem modeFollowsTheLock : Obligations.ModeFollowsTheLock := by
  intro r rest s hp hrec
  let u : State := s.setHanded { s.handed with modeRecords := rest }
  refine ⟨modeRecord r u, exec_modeCycleEnd hp hrec, fun hm hl ho => ?_, fun hm hl ho => ?_, fun hm hl => ?_,
    fun h => ?_⟩
  · rw [modeRecord_of_relock (s := u) hm hl, enterRecover_of_plain (s := u) ho]
    exact ⟨rfl, rfl, rfl⟩
  · rw [modeRecord_of_relock (s := u) hm hl, enterRecover_of_origin (s := u) ho]
    refine ⟨rfl, ?_, _, Telegram.settle_slot _, rfl, rfl⟩
    rw [enterStagger, State.setMc_tele, settleTx, State.setTele_tele, settle_keeps]
    rfl
  · exact modeRecord_of_lost (s := u) ((Mode.online_iff _).mpr hm) hl
  · exact modeRecord_of_standing (s := u) h

/-! ### The recall and the waits (R173, R175, R176) -/

theorem recallHeard_eq (s : State) :
    recallHeard s =
      { s with
        mc :=
          if s.mc.mode = .recover then
            { s.mc with
              mode := .stagger, recallWait := none, stagger := some (s.loader.strapLatch * s.cfg.tsg)
              recallsHeard := satInc s.mc.recallsHeard }
          else s.mc } := by
  unfold recallHeard
  cases s.mc.mode <;> rfl

theorem countDark_eq (s : State) :
    countDark s =
      { s with
        mc := { s.mc with darkDuration := satInc s.mc.darkDuration }
        circ :=
          if s.mc.darkDuration ≤ s.cfg.tdm ∧ s.cfg.tdm < satInc s.mc.darkDuration then s.circ.clearMarks
          else s.circ } := by
  have hdue : (decide (s.mc.darkDuration ≤ s.cfg.tdm) && decide (s.cfg.tdm < satInc s.mc.darkDuration)) = true ↔
      s.mc.darkDuration ≤ s.cfg.tdm ∧ s.cfg.tdm < satInc s.mc.darkDuration := by
    rw [Bool.and_eq_true, decide_eq_true_iff, decide_eq_true_iff]
  unfold countDark
  by_cases h : s.mc.darkDuration ≤ s.cfg.tdm ∧ s.cfg.tdm < satInc s.mc.darkDuration
  · rw [if_pos h]
    exact if_pos (hdue.mpr h)
  · rw [if_neg h]
    exact if_neg fun hd => h (hdue.mp hd)

section
variable {s : State} {n : Nat}

theorem modeTick_of_dark (h : s.mc.mode = .dark) : modeTick s = countDark s := by
  simp only [modeTick, h]

theorem modeTick_of_recover (h : s.mc.mode = .recover) (hn : s.mc.recallWait = some n) :
    modeTick s = if n ≤ 1 then recallTimeout s else s.setMc { s.mc with recallWait := some (n - 1) } := by
  unfold modeTick countRecallWait
  rw [h, hn]

theorem modeTick_of_stagger (h : s.mc.mode = .stagger) (hn : s.mc.stagger = some n) :
    modeTick s = if n ≤ 1 then enterRun s else s.setMc { s.mc with stagger := some (n - 1) } := by
  unfold modeTick countStagger
  rw [h, hn]

theorem modeTick_of_other (h : s.mc.mode = .start ∨ s.mc.mode = .halted ∨ s.mc.mode = .run) : modeTick s = s := by
  obtain h | h | h := h <;> simp only [modeTick, h]

end

/-- Settles O44. -/
theorem recallStaggerAndDarkMemory : Obligations.RecallStaggerAndDarkMemory := by
  refine ⟨fun s hp hr => ?_, fun s hp => ?_⟩
  · exact (answer_powered hp _).trans (congrArg _ ((if_pos hr).trans (recallHeard_eq _)))
  · intro staggered run dark unmarked
    refine ⟨fun hm hw => ?_, fun hm hw => ?_, fun hm hd ht => ?_, fun p hw => ?_⟩
    · exact (answer_powered hp _).trans (congrArg _ (if_pos ⟨hm, hw⟩))
    · exact (answer_powered hp _).trans (congrArg _ (if_pos ⟨hm, hw⟩))
    · refine (answer_powered hp _).trans (congrArg _ ((if_pos ⟨hm, hd⟩).trans ((countDark_eq s).trans ?_)))
      have hnext : satInc s.mc.darkDuration = s.cfg.tdm + 1 := by
        rw [satInc, hd]
        omega
      rw [hnext, if_pos ⟨hd.le, Nat.lt_succ_self _⟩]
      rfl
    · intro u tick
      have htick : ∀ v, modeTick s = v → tick = .next (v.setTime { s.time with tickWaiting := [] }) := fun v h =>
        (exec_stationTick_of_last .mode p hp hw).trans (by rw [← h]; rfl)
      refine ⟨fun hm => ?_, fun n hm hn => ?_, fun n hm hn => ?_, fun hm => ?_⟩
      · exact htick _ ((modeTick_of_dark hm).trans (countDark_eq s))
      · refine (htick _ (modeTick_of_recover hm hn)).trans (congrArg _ ?_)
        by_cases h : n ≤ 1
        · rw [if_pos h, if_pos h]
          rfl
        · rw [if_neg h, if_neg h]
          rfl
      · refine (htick _ (modeTick_of_stagger hm hn)).trans (congrArg _ ?_)
        by_cases h : n ≤ 1
        · rw [if_pos h, if_pos h]
          rfl
        · rw [if_neg h, if_neg h]
          rfl
      · exact htick s (modeTick_of_other hm)

end Sys2Proof.Machine

/-! # The Start Loader: the straps and the attempts (O45) -/

namespace Sys2Proof.Machine

section
variable {s : State}

/-- The end of START by failure, from a state that differs from `s` in what has elapsed and in the loader. -/
theorem failStart_of {v : State} (status : AutoloadStatus) (hr : v.panel.pendingRequest = none) (hg : v.gov = s.gov)
    (hw : v.saw = s.saw) (hm : v.mc = s.mc) (hh : v.handed = s.handed) :
    failStart status v =
      { v with
        meter := v.meter.started 50000
        gov := s.gov.started 50000
        saw := { s.saw with baseFeed := 300 }
        mc := { s.mc with mode := .halted }
        loader := { v.loader with status := status, phase := .none }
        cfg := defaultConfig
        handed :=
          { s.handed with governorRecords := [], circuitRecords := [], sawRecords := [], modeRecords := [] } } := by
  rw [failStart_eq status hr, ← hg, ← hw, ← hm, ← hh]
  rfl

theorem retryWaitOver_of_waiting {instant : Nat} (hm : s.mc.mode = .start) (h : s.loader.phase = .waiting instant) :
    retryWaitOver s = beginAttempt (elapseTo instant s) := by
  simp only [retryWaitOver, h, if_pos hm]

theorem exec_strapLatch {straps : BitVec 5} (hp : s.powered = true) (hm : s.mc.mode = .start)
    (hd : s.loader.strapDone = false) :
    exec (.strapLatch straps) s =
      .next
        (if straps.toNat = 0 then
          failStart .notRun
            { elapseTo (strapInstant s) s with
              loader := { s.loader with strapLatch := straps.toNat, strapDone := true } }
        else
          beginAttempt
            { elapseTo (strapInstant s) s with
              loader := { s.loader with strapLatch := straps.toNat, strapDone := true } }) := by
  have hloader : (elapseTo (strapInstant s) s).loader = s.loader := by simp
  refine (answer_powered hp _).trans (congrArg _ ((if_pos ⟨hm, hd⟩).trans ?_))
  dsimp only
  rw [hloader]
  rfl

theorem exec_addressNotAcknowledged {dt : Nat} {which : AddressByte} (hp : s.powered = true)
    (hm : s.mc.mode = .start) (hph : s.loader.phase = .attempt) :
    exec (.addressNotAcknowledged dt which) s =
      .next
        (if s.loader.attempts < 4 then
          { elapse dt s with
            loader :=
              { s.loader with
                staging := [], bus := failedTransaction which, phase := .waiting (s.time.now + dt + 5000) } }
        else
          failStart .noAnswer
            { elapse dt s with loader := { s.loader with staging := [], bus := failedTransaction which } }) := by
  have hloader : (elapse dt s).loader = s.loader := by simp
  have hnow : (elapse dt s).time.now = s.time.now + dt := by rw [elapse_time]
  have hway : attemptUnderWay (elapse dt s) = true := by simp [attemptUnderWay, hm, hph]
  refine (answer_powered hp _).trans (congrArg _ ((if_pos hway).trans ?_))
  rw [← hnow, ← hloader]
  rfl

end

/-- Settles O45. -/
theorem strapsAndAttempts : Obligations.StrapsAndAttempts := by
  unfold Obligations.StrapsAndAttempts
  intro failed failedBus s hp hm
  refine ⟨fun straps hd hn => ?_, fun hd hr => ?_, fun dt which hph => ?_, fun instant hph => ?_⟩
  · intro t
    exact (exec_strapLatch hp hm hd).trans (congrArg _ (if_neg hn))
  · intro u
    have hfail := failStart_of (s := s)
      (v := { u with loader := { s.loader with strapLatch := 0, strapDone := true } }) .notRun (by simp [u, hr])
      (by simp [u]) (by simp [u]) (by simp [u]) (by simp [u])
    refine ⟨_, (exec_strapLatch hp hm hd).trans (congrArg _ (if_pos rfl)), ?_, hfail⟩
    rw [State.attention]
    exact (congrArg State.attention hfail).trans rfl
  · intro cut
    have hbus : failedTransaction which = failedBus which := by cases which <;> rfl
    have hexec := exec_addressNotAcknowledged (dt := dt) (which := which) hp hm hph
    rw [hbus] at hexec
    refine ⟨fun ha => hexec.trans (congrArg _ (if_pos ha)), fun ha hr => ?_⟩
    refine hexec.trans (congrArg _ ((if_neg (by omega)).trans ?_))
    exact failStart_of (s := s) (v := cut) .noAnswer (by simp [cut, hr]) (by simp [cut]) (by simp [cut])
      (by simp [cut]) (by simp [cut])
  · have hloader : (elapseTo instant s).loader = s.loader := by simp
    refine (answer_powered hp _).trans (congrArg _ ((retryWaitOver_of_waiting hm hph).trans ?_))
    rw [beginAttempt, hloader]
    rfl

end Sys2Proof.Machine

/-! # The record: decoded, checked and put in force, and the request held in START (O46) -/

namespace Sys2Proof.Machine

/-! ### Decoding (section 11.5) -/

theorem bitsAt_low (b : List Byte) (o w : Nat) : bitsAt b o 0 w = byteAt b o % 2 ^ w := by
  rw [bitsAt, Nat.pow_zero, Nat.div_one]

theorem byteAt_lt (b : List Byte) (o : Nat) : byteAt b o < 256 := (b.getD o 0).isLt

theorem bitsAt_high (b : List Byte) (o : Nat) : bitsAt b o 4 4 = byteAt b o / 16 := by
  have h := byteAt_lt b o
  rw [bitsAt]
  omega

theorem bitsAt_top (b : List Byte) (o : Nat) : bitsAt b o 6 2 = byteAt b o / 64 := by
  have h := byteAt_lt b o
  rw [bitsAt]
  omega

theorem flagAt_eq (b : List Byte) (o i : Nat) : flagAt b o i = (b.getD o 0).getLsbD i := by
  rw [flagAt, bitsAt, BitVec.getLsbD, Nat.testBit_eq_decide_div_mod_eq]
  rfl

/-! ### The end of START by success (R126, R184) -/

theorem Circuits.buildRotation_eq (cfg : Config) (c : Circuits) :
    c.buildRotation cfg =
      { c with
        rotation :=
          if c.rotation = ⟨[], [], [], []⟩ then
            ⟨rotationList cfg 0, rotationList cfg 1, rotationList cfg 2, rotationList cfg 3⟩
          else c.rotation } := by
  have hbuilt : c.rotationBuilt = true ↔ ¬c.rotation = ⟨[], [], [], []⟩ := by
    cases h : c.rotation
    simp only [Circuits.rotationBuilt, h, Four.mk.injEq, Bool.not_eq_true', ← Bool.not_eq_true, Bool.and_eq_true,
      List.isEmpty_iff, and_assoc]
  unfold Circuits.buildRotation
  by_cases h : c.rotation = ⟨[], [], [], []⟩
  · rw [if_neg fun hb => hbuilt.mp hb h, if_pos h]
  · rw [if_pos (hbuilt.mpr h), if_neg h]

section
variable {s : State}

theorem startSucceeds_eq (cfg : Config) (v : State) :
    startSucceeds cfg v =
      { v with
        meter := v.meter.started cfg.fcfg
        gov := v.gov.started cfg.fcfg
        circ := v.circ.buildRotation cfg
        saw := { v.saw with baseFeed := cfg.ff }
        mc := { v.mc with mode := .dark, darkDuration := 0, recallWait := none, stagger := none }
        cfg := cfg
        handed :=
          { v.handed with
            governorRecords := [], circuitRecords := [], sawRecords := [], modeRecords := []
            dark := DarkEntries.all } } := by
  simp only [startSucceeds, startLine, startMeter, dropRecords, setBaseFeed, enterDark]
  ext1 <;> simp

theorem startFails_eq (v : State) :
    startFails v =
      { v with
        meter := v.meter.started 50000
        gov := v.gov.started 50000
        saw := { v.saw with baseFeed := 300 }
        mc := { v.mc with mode := .halted }
        cfg := defaultConfig
        handed :=
          { v.handed with governorRecords := [], circuitRecords := [], sawRecords := [], modeRecords := [] } } := by
  simp only [startFails, startLine, startMeter, dropRecords, setBaseFeed]
  ext1 <;> simp

/-- The end of START by success, from a state that differs from `s` in what has elapsed and in the loader. -/
theorem startSucceeds_of {v : State} (cfg : Config) (hg : v.gov = s.gov) (hk : v.circ = s.circ) (hw : v.saw = s.saw)
    (hm : v.mc = s.mc) (hh : v.handed = s.handed) :
    startSucceeds cfg v =
      { v with
        meter := v.meter.started cfg.fcfg
        gov := s.gov.started cfg.fcfg
        circ := s.circ.buildRotation cfg
        saw := { s.saw with baseFeed := cfg.ff }
        mc := { s.mc with mode := .dark, darkDuration := 0, recallWait := none, stagger := none }
        cfg := cfg
        handed :=
          { s.handed with
            governorRecords := [], circuitRecords := [], sawRecords := [], modeRecords := []
            dark := DarkEntries.all } } := by
  rw [startSucceeds_eq, hg, hk, hw, hm, hh]

theorem takePending_of_none {v : State} (h : v.panel.pendingRequest = none) : takePending v = v := by
  simp only [takePending, h]

theorem succeedStart_of_none {v : State} (decoded : Config) (h : v.panel.pendingRequest = none) :
    succeedStart decoded v =
      startSucceeds (clampConfig decoded)
        (v.setLoader
          { v.loader with
            status := .loaded, phase := .none, clampCount := clampsMade decoded (clampConfig decoded) }) :=
  takePending_of_none h

theorem checkRecord_of_wrongTag {b : List Byte} (h : byteAt b 0 ≠ 0x4B) : checkRecord b = .wrongTag := by
  simp [checkRecord, h]

theorem checkRecord_of_badCrc {b : List Byte} (ht : ¬byteAt b 0 ≠ 0x4B)
    (hc : (crc16 (b.take 62)).toNat ≠ wordAt b 62) : checkRecord b = .badCrc := by
  simp [checkRecord, not_not.mp ht, hc]

theorem checkRecord_of_accepted {b : List Byte} (ht : ¬byteAt b 0 ≠ 0x4B)
    (hc : ¬(crc16 (b.take 62)).toNat ≠ wordAt b 62) : checkRecord b = .accepted := by
  simp [checkRecord, not_not.mp ht, not_not.mp hc]

theorem exec_attemptComplete {dt : Nat} {bytes : List Byte} (hp : s.powered = true) (hl : bytes.length = 64)
    (hm : s.mc.mode = .start) (hph : s.loader.phase = .attempt) :
    exec (.attemptComplete dt bytes) s =
      .next
        (let u := { elapse dt s with loader := { s.loader with staging := bytes, bus := completeTransaction bytes } }
        if byteAt bytes 0 ≠ 0x4B then failStart .wrongTag u
        else if (crc16 (bytes.take 62)).toNat ≠ wordAt bytes 62 then failStart .badCrc u
        else succeedStart (decodeRecord bytes) u) := by
  have hloader : (elapse dt s).loader = s.loader := by simp
  have hway : attemptUnderWay (elapse dt s) = true := by simp [attemptUnderWay, hm, hph]
  refine (if_pos hl).trans ((answer_powered hp _).trans (congrArg _ ((if_pos hway).trans ?_)))
  rw [hloader]
  dsimp only
  by_cases ht : byteAt bytes 0 ≠ 0x4B
  · rw [checkRecord_of_wrongTag ht, if_pos ht]
    rfl
  · by_cases hc : (crc16 (bytes.take 62)).toNat ≠ wordAt bytes 62
    · rw [checkRecord_of_badCrc ht hc, if_neg ht, if_pos hc]
      rfl
    · rw [checkRecord_of_accepted ht hc, if_neg ht, if_neg hc]
      rfl

end

/-! ### The request held in START is taken in the mode entered (R186) -/

theorem elapse_setPanel (dt : Nat) (x : Panel) (s : State) :
    elapse dt (s.setPanel x) = (elapse dt s).setPanel x := by
  have hruns : (s.setPanel x).meterRuns = s.meterRuns := rfl
  apply State.ext_fields
  case time => simp [elapse_time]
  case meter => rw [elapse_meter, hruns, State.setPanel_meter, State.setPanel_meter, elapse_meter]
  case tele => rw [elapse_tele, State.setPanel_tele, State.setPanel_tele, elapse_tele]
  all_goals simp

/-- No time has passed: a state whose timers stand within their limits is as it was. -/
theorem elapse_zero {s : State} (he : s.meter.elapsed ≤ 65535) (hs : s.meter.silence ≤ 40000) : elapse 0 s = s := by
  apply State.ext_fields
  case time => rw [elapse_time]; rfl
  case meter =>
    rw [elapse_meter, Nat.add_zero, Nat.add_zero, Nat.min_eq_right he, Nat.min_eq_right hs]
    split <;> rfl
  case tele => rw [elapse_tele]; split <;> rfl
  all_goals simp

/-- The panel holds no request. -/
def State.unasked (s : State) : State := s.setPanel { s.panel with pendingRequest := none }

/-- What a command comes to with a request held: where it leaves START, the request is taken after it. -/
def HandsHeld (b : Byte) (t u : State) : Prop := u.mc.mode ≠ .start → t = panelByte b (elapse 0 u) ∧ u.powered = true

section
variable {s : State} {b : Byte}

theorem takePending_of_some (h : s.panel.pendingRequest = some b) : takePending s = panelByte b s.unasked := by
  simp only [takePending, h, State.unasked]

theorem takePending_handsHeld (hp : s.powered = true) (h : s.panel.pendingRequest = some b)
    (he : s.meter.elapsed = 65535) (hs : s.meter.silence = 0) : HandsHeld b (takePending s) (takePending s.unasked)
        := by
  intro _
  have hquiet : takePending s.unasked = s.unasked := takePending_of_none rfl
  have hstands : elapse 0 s.unasked = s.unasked := elapse_zero he.le (hs.le.trans (Nat.zero_le _))
  rw [hquiet, hstands]
  exact ⟨takePending_of_some h, hp⟩

theorem startFails_handsHeld (hp : s.powered = true) (h : s.panel.pendingRequest = some b) :
    HandsHeld b (takePending (startFails s)) (takePending (startFails s.unasked)) := by
  have hunasked : startFails s.unasked = (startFails s).unasked := by
    rw [startFails_eq, startFails_eq]
    rfl
  have hmeter : (startFails s).meter = s.meter.started 50000 := by rw [startFails_eq]
  rw [hunasked]
  exact takePending_handsHeld (by simp [hp]) (by simp [h]) (by rw [hmeter]; rfl) (by rw [hmeter]; rfl)

theorem failStart_handsHeld (status : AutoloadStatus) (hp : s.powered = true) (h : s.panel.pendingRequest = some b) :
    HandsHeld b (failStart status s) (failStart status s.unasked) :=
  startFails_handsHeld (s := s.setLoader { s.loader with status := status, phase := .none }) hp h

theorem startSucceeds_handsHeld (cfg : Config) (hp : s.powered = true) (h : s.panel.pendingRequest = some b) :
    HandsHeld b (takePending (startSucceeds cfg s)) (takePending (startSucceeds cfg s.unasked)) := by
  have hunasked : startSucceeds cfg s.unasked = (startSucceeds cfg s).unasked := by
    rw [startSucceeds_eq, startSucceeds_eq]
    rfl
  have hmeter : (startSucceeds cfg s).meter = s.meter.started cfg.fcfg := by rw [startSucceeds_eq]
  rw [hunasked]
  exact takePending_handsHeld (by simp [hp]) (by simp [h]) (by rw [hmeter]; rfl) (by rw [hmeter]; rfl)

theorem succeedStart_handsHeld (decoded : Config) (hp : s.powered = true) (h : s.panel.pendingRequest = some b) :
    HandsHeld b (succeedStart decoded s) (succeedStart decoded s.unasked) :=
  startSucceeds_handsHeld (clampConfig decoded)
    (s := s.setLoader
      { s.loader with status := .loaded, phase := .none, clampCount := clampsMade decoded (clampConfig decoded) }) hp h

theorem handsHeld_of_start {t u : State} (h : u.mc.mode = .start) : HandsHeld b t u := fun hm => absurd h hm

theorem elapse_unasked (dt : Nat) : elapse dt s.unasked = (elapse dt s).unasked := by
  have hpanel : (elapse dt s).panel = s.panel := by simp
  rw [State.unasked, elapse_setPanel, State.unasked, hpanel]

theorem latchStraps_zero_handsHeld (hp : s.powered = true) (hm : s.mc.mode = .start)
    (h : s.panel.pendingRequest = some b) : HandsHeld b (latchStraps 0 s) (latchStraps 0 s.unasked) := by
  by_cases hd : s.loader.strapDone = false
  · let v : State := elapseTo (strapInstant s) s
    have hlatched : ∀ t : State, t.mc.mode = .start → t.loader.strapDone = false →
        latchStraps 0 t =
          failStart .notRun
            ((elapseTo (strapInstant t) t).setLoader
              { (elapseTo (strapInstant t) t).loader with strapLatch := 0, strapDone := true }) :=
      fun t hm hd => (if_pos ⟨hm, hd⟩).trans (if_pos rfl)
    have hv : elapseTo (strapInstant s) s.unasked = v.unasked := elapse_unasked _
    rw [hlatched s hm hd, hlatched s.unasked hm hd]
    change HandsHeld b _ (failStart .notRun ((elapseTo (strapInstant s) s.unasked).setLoader
      { (elapseTo (strapInstant s) s.unasked).loader with strapLatch := 0, strapDone := true }))
    rw [hv]
    exact failStart_handsHeld (s := v.setLoader { v.loader with strapLatch := 0, strapDone := true }) .notRun
      (by simp [v, hp]) (by simp [v, h])
  · have hstays : latchStraps 0 s.unasked = s.unasked := if_neg fun hl => hd hl.2
    rw [hstays]
    exact handsHeld_of_start hm

theorem notAcknowledged_of_early (which : AddressByte) (hw : attemptUnderWay s = true) (ha : s.loader.attempts < 4) :
    notAcknowledged which s =
      s.setLoader
        { s.loader with
          bus := failedTransaction which, staging := [], phase := .waiting (s.time.now + 5000) } :=
  (if_pos hw).trans (if_pos ha)

theorem notAcknowledged_handsHeld (which : AddressByte) (hp : s.powered = true) (hm : s.mc.mode = .start)
    (h : s.panel.pendingRequest = some b) :
    HandsHeld b (notAcknowledged which s) (notAcknowledged which s.unasked) := by
  by_cases hway : attemptUnderWay s = true
  · by_cases ha : s.loader.attempts < 4
    · rw [notAcknowledged_of_early (s := s.unasked) which hway ha]
      exact handsHeld_of_start hm
    · let v : State := s.setLoader { s.loader with bus := failedTransaction which, staging := [] }
      have hfails : notAcknowledged which s = failStart .noAnswer v := (if_pos hway).trans (if_neg ha)
      have hunasked : notAcknowledged which s.unasked = failStart .noAnswer v.unasked :=
        (if_pos (c := attemptUnderWay s.unasked = true) hway).trans (if_neg ha)
      rw [hfails, hunasked]
      exact failStart_handsHeld (s := v) .noAnswer hp h
  · have hstays : notAcknowledged which s.unasked = s.unasked := if_neg hway
    rw [hstays]
    exact handsHeld_of_start hm

theorem attemptDone_handsHeld (bytes : List Byte) (hp : s.powered = true) (hm : s.mc.mode = .start)
    (h : s.panel.pendingRequest = some b) : HandsHeld b (attemptDone bytes s) (attemptDone bytes s.unasked) := by
  by_cases hway : attemptUnderWay s = true
  · have hway' : attemptUnderWay s.unasked = true := hway
    let v : State := s.setLoader { s.loader with bus := completeTransaction bytes, staging := bytes }
    unfold attemptDone
    rw [if_pos hway, if_pos hway']
    dsimp only
    cases checkRecord bytes with
    | wrongTag => exact failStart_handsHeld (s := v) .wrongTag hp h
    | badCrc => exact failStart_handsHeld (s := v) .badCrc hp h
    | accepted => exact succeedStart_handsHeld (s := v) _ hp h
  · have hstays : attemptDone bytes s.unasked = s.unasked := if_neg hway
    rw [hstays]
    exact handsHeld_of_start hm

theorem exec_of_handsHeld {c : Instr} {t u v : State} (ht : exec c s = .next t) (hv : exec c s.unasked = .next v)
    (hands : HandsHeld b t v) (hu : exec c s.unasked = .next u) (hend : u.mc.mode ≠ .start) :
    exec c s = exec (.unknownRequest 0 b) u := by
  obtain rfl : v = u := Host.Outcome.next.inj (hv.symm.trans hu)
  obtain ⟨htaken, hp⟩ := hands hend
  rw [ht, htaken]
  exact (answer_powered hp _).symm

end

theorem exec_then_held {c : Instr} {b : Byte} {s u : State} (hp : s.powered = true) (hm : s.mc.mode = .start)
    (hr : s.panel.pendingRequest = some b)
    (hc : c = .strapLatch 0 ∨ (∃ dt which, c = .addressNotAcknowledged dt which) ∨
      ∃ dt bytes, c = .attemptComplete dt bytes)
    (hu : exec c s.unasked = .next u) (hend : u.mc.mode ≠ .start) : exec c s = exec (.unknownRequest 0 b) u := by
  obtain rfl | ⟨dt, which, rfl⟩ | ⟨dt, bytes, rfl⟩ := hc
  · exact exec_of_handsHeld (answer_powered hp _) (answer_powered (s := s.unasked) hp _)
      (latchStraps_zero_handsHeld hp hm hr) hu hend
  · have hands := notAcknowledged_handsHeld (s := elapse dt s) (b := b) which (by simp [hp]) (by simp [hm])
      (by simp [hr])
    rw [← elapse_unasked] at hands
    exact exec_of_handsHeld (answer_powered hp _) (answer_powered (s := s.unasked) hp _) hands hu hend
  · by_cases hl : bytes.length = 64
    · have hands := attemptDone_handsHeld (s := elapse dt s) (b := b) bytes (by simp [hp]) (by simp [hm]) (by simp [hr])
      rw [← elapse_unasked] at hands
      exact exec_of_handsHeld ((if_pos hl).trans (answer_powered hp _))
        ((if_pos hl).trans (answer_powered (s := s.unasked) hp _)) hands hu hend
    · have hstops : exec (.attemptComplete dt bytes) s.unasked = .fault .notSixtyFourBytes := if_neg hl
      rw [hstops] at hu
      cases hu

/-- Settles O46. -/
theorem recordIsCheckedAndPutInForce : Obligations.RecordIsCheckedAndPutInForce := by
  refine ⟨fun b => ?_, fun dt bytes s hp hl hm hph hr => ?_, fun c b s u hp hm hr hc hu hend => ?_⟩
  · intro byte word low high flag demand
    simp only [decodeRecord, demandTypeAt, flagAt_eq, bitsAt_low, bitsAt_high, bitsAt_top, Nat.mul_comm _ 20,
      Nat.mul_comm _ 25, Nat.mul_comm _ 200, Nat.mul_comm _ 50, Nat.mul_comm _ 5, Nat.mul_comm _ 100,
      Nat.mul_comm _ 2, Nat.mul_comm _ 10, Nat.mul_comm _ 250]
    rfl
  · intro bus u failed final
    refine (exec_attemptComplete hp hl hm hph).trans (congrArg _ ?_)
    have hbus : completeTransaction bytes = bus := by
      simp only [completeTransaction, addressPhase, readPhase, bus, List.append_assoc]
    rw [hbus]
    have hgov : u.gov = s.gov := by simp [u]
    have hcirc : u.circ = s.circ := by simp [u]
    have hsaw : u.saw = s.saw := by simp [u]
    have hmc : u.mc = s.mc := by simp [u]
    have hhanded : u.handed = s.handed := by simp [u]
    have hpanel : u.panel.pendingRequest = none := by simp [u, hr]
    have hfailed : ∀ status, failStart status u = failed status := fun status =>
      failStart_of status hpanel hgov hsaw hmc hhanded
    refine if_congr Iff.rfl (hfailed _) (if_congr Iff.rfl (hfailed _) ?_)
    let v : State :=
      u.setLoader
        { u.loader with
          status := .loaded, phase := .none, clampCount := clampsMade (decodeRecord bytes) final }
    have hended : succeedStart (decodeRecord bytes) u = startSucceeds final v :=
      succeedStart_of_none (decodeRecord bytes) hpanel
    refine hended.trans ((startSucceeds_of (s := s) (v := v) final hgov hcirc hsaw hmc hhanded).trans ?_)
    rw [Circuits.buildRotation_eq]
    clear_value final
    rfl
  · exact exec_then_held hp hm hr hc hu hend

end Sys2Proof.Machine

/-! # The panel: requests, CLEAR and RESTART (O48, O50, O51) -/

namespace Sys2Proof.Machine

/-! ### Requests (R186, R187) -/

section
variable {s : State}

/-- A reply that begins `dt` after `s`, in the state as time has left it. -/
theorem beginReply_elapse (bytes : List Byte) (dt : Nat) (s : State) :
    beginReply bytes (elapse dt s) =
      { elapse dt s with
        panel := { s.panel with reply := some { bytes := bytes, startedAt := s.time.now + dt } } } := by
  have hpanel : (elapse dt s).panel = s.panel := by simp
  have hnow : (elapse dt s).time.now = s.time.now + dt := by rw [elapse_time]
  rw [beginReply, hpanel, hnow]
  rfl

theorem panelByte_elapse_outside_start (dt : Nat) (b : Byte) (hr : s.panel.reply = none) (hm : s.mc.mode ≠ .start) :
    panelByte b (elapse dt s) = takeRequest b (elapse dt s) :=
  panelByte_outside_start (by simp [hr]) (by simp [hm]) b

theorem panelByte_in_start (b : Byte) (hr : s.panel.reply = none) (hm : s.mc.mode = .start) :
    panelByte b s = takeInStart b s := by
  simp only [panelByte, hr, hm, Option.isSome_none, Bool.false_eq_true, if_false]

theorem takeRequest_of_unknown {b : Byte} (h : b.toNat = 0 ∨ 9 < b.toNat) : takeRequest b s = beginReply [0x15] s := by
  unfold takeRequest
  split
  case h_10 => rfl
  all_goals omega

theorem panelByte_of_overrun (b : Byte)
    (h : s.panel.reply.isSome = true ∨ s.mc.mode = .start ∧ s.panel.pendingRequest.isSome = true) :
    panelByte b s = panelOverrun s := by
  unfold panelByte
  by_cases hr : s.panel.reply.isSome = true
  · rw [if_pos hr]
  · obtain hr' | ⟨hm, hpend⟩ := h
    · exact absurd hr' hr
    · rw [if_neg hr, hm, takeInStart, if_pos hpend]

end

/-- Settles O48. -/
theorem panelAnswersRequests : Obligations.PanelAnswersRequests := by
  refine ⟨fun dt s hp hr => ?_, fun dt b s hp h => ?_, fun r s hp hr => ?_, fun s => ?_⟩
  · intro t reply
    have hanswer : ∀ bytes, beginReply bytes t = _ := fun bytes => beginReply_elapse bytes dt s
    refine ⟨fun hm => ?_, fun hm hq => ?_⟩
    · have htaken : ∀ b : Byte, answer s (panelByte b t) = .next (takeRequest b t) := fun b =>
        (answer_powered hp _).trans (congrArg _ (panelByte_elapse_outside_start dt b hr hm))
      exact ⟨(htaken 1).trans (congrArg _ (hanswer _)), (htaken 2).trans (congrArg _ (hanswer _)),
        (htaken 3).trans (congrArg _ (hanswer _)), (htaken 4).trans (congrArg _ (hanswer _)),
        (htaken 5).trans (congrArg _ (hanswer _)), (htaken 6).trans (congrArg _ (hanswer _)),
        (htaken 7).trans (congrArg _ (hanswer _)), fun b hb =>
          (htaken b).trans (congrArg _ ((takeRequest_of_unknown hb).trans (hanswer _)))⟩
    · have htaken : ∀ b : Byte, answer s (panelByte b t) = .next (takeInStart b t) := fun b =>
        (answer_powered hp _).trans (congrArg _ (panelByte_in_start b (by simp [t, hr]) (by simp [t, hm])))
      have hfree : ¬t.panel.pendingRequest.isSome = true := by simp [t, hq]
      refine ⟨(htaken 1).trans (congrArg _ ((if_neg hfree).trans (hanswer _))), fun b hb => ?_⟩
      have hother : ¬b.toNat = 1 := fun h => hb (BitVec.eq_of_toNat_eq h)
      refine (htaken b).trans (congrArg _ ((if_neg hfree).trans ((if_neg hother).trans ?_)))
      have hpanel : t.panel = s.panel := by simp [t]
      rw [hpanel]
      rfl
  · have hover : panelByte b (elapse dt s) = panelOverrun (elapse dt s) := panelByte_of_overrun b (by simpa using h)
    refine (answer_powered hp _).trans (congrArg _ (hover.trans ?_))
    have hpanel : (elapse dt s).panel = s.panel := by simp
    rw [panelOverrun, hpanel]
    rfl
  · refine (answer_powered hp _).trans (congrArg _ ?_)
    have hpanel : ∀ i, (elapseTo i s).panel = s.panel := fun i => by simp
    unfold replyComplete
    rw [hr]
    dsimp only
    rw [hpanel]
    rfl
  · have hfault : s.saw.state.isFault = true ↔ ∃ code, s.saw.state = .fault code := by
      cases s.saw.state <;> simp [SawState.isFault]
    simp only [State.attention, State.attentionCauses, Bool.or_eq_true, beq_iff_eq, decide_eq_true_eq, hfault, or_assoc]

/-! ### CLEAR (R188) -/

theorem replyFrame_clear : replyFrame 0x08 [] = [0xA5, 0x08, 0x00, 0x53] := by decide

theorem clearAll_eq (s : State) :
    clearAll s =
      { s with
        meter := s.meter.clearCounters
        gov := s.gov.clearCounters
        tele := s.tele.clearCounters
        table := s.table.clearCounters
        adm := s.adm.clearCounters
        circ := s.circ.clearCounters
        saw := s.saw.clearCounters
        gate := s.gate.clearCounters
        mc := s.mc.clearCounters
        loader := { s.loader with clampCount := 0 }
        panel := { s.panel with overruns := 0 } } := by
  simp only [clearAll]
  ext1 <;> simp

/-- Settles O50. -/
theorem clearEmptiesTheCounters : Obligations.ClearEmptiesTheCounters := by
  intro dt s hp hm hr
  have htaken : panelByte 0x08 (elapse dt s) = beginReply (replyFrame 0x08 []) (clearAll (elapse dt s)) :=
    panelByte_elapse_outside_start dt 0x08 hr hm
  refine ⟨_, (answer_powered hp _).trans (congrArg _ htaken), ?_, ?_⟩
  · have hcounters : counterList (clearAll (elapse dt s)) = List.replicate 31 0 := by
      rw [clearAll_eq]
      rfl
    intro n hn
    exact List.eq_of_mem_replicate (hcounters ▸ hn)
  · have hnow : (elapse dt s).time.now = s.time.now + dt := by rw [elapse_time]
    obtain ⟨-, -, hgov, htable, hadm, hcirc, hsaw, hgate, hmc, hloader, -, hpanel, -⟩ := elapse_frame dt s
    rw [replyFrame_clear, clearAll_eq, ← hnow, ← hgov, ← htable, ← hadm, ← hcirc, ← hsaw, ← hgate, ← hmc, ← hloader,
      ← hpanel]
    generalize elapse dt s = v
    rfl

/-! ### RESTART (R178, R189) -/

theorem restartHalted_eq (s : State) :
    restartHalted s =
      { s with
        tele := { s.tele with duplicateTimer := 0 }
        table := s.table.emptied
        adm := s.adm.emptied
        circ := s.circ.restarted
        saw := s.saw.restarted s.cfg.ff
        gate := s.gate.restarted
        mc := { s.mc with mode := .start }
        loader :=
          { s.loader with
            strapDone := false, status := .notRun, attempts := 0, phase := .none, clampCount := 0
            enteredAt := s.time.now }
        handed :=
          { s.handed with governorRecords := [], circuitRecords := [], sawRecords := [], modeRecords := [] } } := by
  rw [restartHalted, restartBlocks_eq]
  simp only [enterStart, dropRecords, clearDuplicate]
  ext1 <;> simp

theorem restartRunning_eq (s : State) :
    restartRunning s =
      { s with
        meter := s.meter.started s.cfg.fcfg
        gov := s.gov.inactive.started s.cfg.fcfg
        tele := { s.tele.goDark with duplicateTimer := 0 }
        table := s.table.emptied
        adm := s.adm.emptied
        circ := s.circ.restarted
        saw := s.saw.restarted s.cfg.ff
        gate := s.gate.restarted
        mc := { s.mc with mode := .dark, darkDuration := 0, recallWait := none, stagger := none }
        handed :=
          { s.handed with
            governorRecords := [], circuitRecords := [], sawRecords := [], modeRecords := []
            dark := DarkEntries.all } } := by
  rw [restartRunning, restartBlocks_eq]
  simp only [enterDark, restartTelegrams, clearDuplicate, startMeter, dropRecords, restartGovernor]
  ext1 <;> simp

theorem restartPart_of_halted {s : State} (h : s.mc.mode = .halted) : restartPart s = restartHalted s := by
  simp only [restartPart, h]

theorem restartPart_of_running {s : State} (hs : s.mc.mode ≠ .start) (hh : s.mc.mode ≠ .halted) :
    restartPart s = restartRunning s := by
  unfold restartPart
  split
  case h_1 h => exact absurd h hs
  case h_2 h => exact absurd h hh
  case h_3 => rfl

theorem counterList_grouped (s : State) :
    counterList s =
      s.meter.counts ++ s.gov.overspeedCycles ::
        (s.tele.counts ++
          [s.table.overflow, s.adm.refusals, s.adm.admissions, s.adm.deferrals, s.adm.promotions, s.adm.claimOverflow,
            s.circ.sheds1, s.circ.sheds2, s.circ.restores, s.saw.sawRefused, s.saw.sawFaults, s.saw.stalls,
            s.saw.sawShedStops, s.gate.raisePulses, s.gate.lowerPulses, s.gate.pulsesCut, s.mc.darkEntries,
            s.mc.recallsHeard, s.mc.recallTimeouts, s.panel.overruns]) := rfl

theorem counterList_elapse (dt : Nat) (s : State) : counterList (elapse dt s) = counterList s := by
  obtain ⟨-, -, htele⟩ := Telegram.tally_eq_iff.mp (elapse_tally dt s)
  rw [counterList_grouped, counterList_grouped, elapse_meterCounts, htele]
  simp only [elapse_frame]

theorem Meter.started_elapse (f dt : Nat) (s : State) : (elapse dt s).meter.started f = s.meter.started f := by
  rw [elapse_meter]
  split <;> rfl

theorem Telegram.goDark_elapse (dt : Nat) (s : State) : (elapse dt s).tele.goDark = s.tele.goDark := by
  rw [elapse_tele]
  split <;> rfl

theorem counterList_beginReply (bytes : List Byte) (s : State) : counterList (beginReply bytes s) = counterList s := rfl

theorem counterList_restartPart (s : State) : counterList (restartPart s) = counterList s := by
  by_cases hs : s.mc.mode = .start
  · have hkept : restartPart s = s := by simp only [restartPart, hs]
    rw [hkept]
  · by_cases hh : s.mc.mode = .halted
    · rw [restartPart_of_halted hh, restartHalted_eq]
      rfl
    · rw [restartPart_of_running hs hh, restartRunning_eq]
      rfl

/-- Settles O51. -/
theorem restartResetsTheBlocks : Obligations.RestartResetsTheBlocks := by
  intro dt s hp hm hr restarted
  have htaken : panelByte 0x09 (elapse dt s) = beginReply (replyFrame 0x09 []) (restartPart (elapse dt s)) :=
    panelByte_elapse_outside_start dt 0x09 hr hm
  refine ⟨_, (answer_powered hp _).trans (congrArg _ htaken), ?_, fun hh => ?_, fun hh => ?_⟩
  · rw [counterList_beginReply, counterList_restartPart, counterList_elapse]
  · have hnow : (elapse dt s).time.now = s.time.now + dt := by rw [elapse_time]
    obtain ⟨-, -, -, htable, hadm, hcirc, hsaw, hgate, hmc, hloader, hcfg, hpanel, hhanded⟩ := elapse_frame dt s
    rw [restartPart_of_halted (by simp [hh]), restartHalted_eq]
    simp only [restarted]
    rw [← hnow, ← htable, ← hadm, ← hcirc, ← hsaw, ← hgate, ← hmc, ← hloader, ← hcfg, ← hpanel, ← hhanded]
    generalize elapse dt s = v
    rfl
  · have hnow : (elapse dt s).time.now = s.time.now + dt := by rw [elapse_time]
    obtain ⟨-, -, hgov, htable, hadm, hcirc, hsaw, hgate, hmc, hloader, hcfg, hpanel, hhanded⟩ := elapse_frame dt s
    rw [restartPart_of_running (by simp [hm]) (by simp [hh]), restartRunning_eq]
    rw [Meter.started_elapse, Telegram.goDark_elapse]
    simp only [restarted]
    rw [← hnow, ← hgov, ← htable, ← hadm, ← hcirc, ← hsaw, ← hgate, ← hmc, ← hcfg, ← hpanel, ← hhanded]
    generalize elapse dt s = v
    rfl

end Sys2Proof.Machine

/-! # The bytes of a panel record, read back by offset (for O49) -/

namespace Sys2Proof.Machine

/-! ### Fields of one to four bytes -/

theorem byteOf_toNat_mod (n : Nat) : (byteOf n).toNat = n % 256 := BitVec.toNat_ofNat n 8

theorem word_of_bytes (n : Nat) : (byteOf (n / 256)).toNat * 256 + (byteOf n).toNat = n % 65536 := by
  rw [byteOf_toNat_mod, byteOf_toNat_mod]
  omega

theorem three_of_bytes (n : Nat) :
    (byteOf (n / 65536)).toNat * 65536 + ((byteOf (n / 256)).toNat * 256 + (byteOf n).toNat) = n % 16777216 := by
  rw [word_of_bytes, byteOf_toNat_mod]
  omega

theorem four_of_bytes (n : Nat) :
    ((byteOf (n / 16777216)).toNat * 256 + (byteOf (n / 65536)).toNat) * 65536 +
        ((byteOf (n / 256)).toNat * 256 + (byteOf n).toNat) =
      n % 4294967296 := by
  rw [word_of_bytes, byteOf_toNat_mod, byteOf_toNat_mod]
  omega

/-! ### Optional fields are fields of their absent value (R192) -/

theorem optByte_eq (x : Option Nat) : optByte x = [byteOf (x.getD 255)] := by
  cases x <;> rfl

theorem opt16_eq (x : Option Nat) : opt16 x = be16 (x.getD 65535) := by
  cases x <;> rfl

theorem opt24_eq (x : Option Nat) : opt24 x = be24 (x.getD 16777215) := by
  cases x <;> rfl

theorem opt32_eq (x : Option Nat) : opt32 x = be32 (x.getD 4294967295) := by
  cases x <;> rfl

/-- The two's complement of a signed field, or that of an absent one. -/
def signedField (x : Option Int) : Nat := (x.map fun i => (BitVec.ofInt 16 i).toNat).getD 0x8000

theorem optSigned_eq (x : Option Int) : optSigned x = be16 (signedField x) := by
  cases x <;> rfl

theorem signedField_mod (x : Option Int) :
    signedField x % 65536 = (x.map fun i => (i % 65536).toNat).getD 0x8000 := by
  cases x with
  | none => rfl
  | some i =>
    change (BitVec.ofInt 16 i).toNat % 65536 = (i % 65536).toNat
    rw [BitVec.toNat_ofInt]
    change (i % 65536).toNat % 65536 = (i % 65536).toNat
    omega

theorem getD_mod (x : Option Nat) (d m : Nat) (hd : d < m) : x.getD d % m = (x.map (· % m)).getD d := by
  cases x with
  | none => exact Nat.mod_eq_of_lt hd
  | some n => rfl

theorem map_getD_mod {α : Type} {d m : Nat} (x : Option α) (f : α → Nat) (hd : d < m) :
    (x.map f).getD d % m = (x.map fun y => f y % m).getD d := by
  rw [getD_mod _ d m hd, Option.map_map]
  rfl

/-! ### Flags in a byte -/

/-- The flags of a list, one bit each from bit 0. -/
def flagBits (bs : List Bool) : Nat := ((List.range bs.length).zipWith (fun i b => if b then 2 ^ i else 0) bs).sum

theorem flagBits_two : ∀ a b : Bool, (byteOf (bit a + 2 * bit b)).toNat = flagBits [a, b] := by decide

theorem flagBits_four : ∀ a b c d : Bool,
    (byteOf (bit a + 2 * bit b + 4 * bit c + 8 * bit d)).toNat = flagBits [a, b, c, d] := by decide

theorem flagBits_five : ∀ a b c d e : Bool,
    (byteOf (bit a + 2 * bit b + 4 * bit c + 8 * bit d + 16 * bit e)).toNat = flagBits [a, b, c, d, e] := by decide

theorem flagBits_seven : ∀ a b c d e f g : Bool,
    (byteOf (bit a + 2 * bit b + 4 * bit c + 8 * bit d + 16 * bit e + 32 * bit f + 64 * bit g)).toNat =
      flagBits [a, b, c, d, e, f, g] := by decide

theorem byteOf_bit : ∀ b : Bool, (byteOf (bit b)).toNat = bit b := by decide

/-! ### Parts of a record -/

theorem byteAt_append_left {front : List Byte} (back : List Byte) {j : Nat} (h : j < front.length) :
    byteAt (front ++ back) j = byteAt front j := by
  rw [byteAt, byteAt, List.getD_append _ _ _ _ h]

theorem byteAt_append_right (front back : List Byte) (j : Nat) :
    byteAt (front ++ back) (front.length + j) = byteAt back j := by
  rw [byteAt, byteAt, List.getD_append_right _ _ _ _ (Nat.le_add_right _ _), Nat.add_sub_cancel_left]

section
variable {α : Type} {f : α → List Byte} {w : Nat}

theorem length_flatMap_of_width {l : List α} (hw : ∀ x ∈ l, (f x).length = w) :
    (l.flatMap f).length = w * l.length := by
  induction l with
  | nil => rfl
  | cons x l ih =>
    rw [List.forall_mem_cons] at hw
    rw [List.flatMap_cons, List.length_append, hw.1, ih hw.2, List.length_cons, Nat.mul_succ, Nat.add_comm]

/-- A list of records of one width: the record at a place, read by its own offsets. -/
theorem byteAt_flatMap {l : List α} (hw : ∀ x ∈ l, (f x).length = w) {i : Nat} {x : α} (hx : l[i]? = some x) {j : Nat}
    (hj : j < w) : byteAt (l.flatMap f) (w * i + j) = byteAt (f x) j := by
  induction l generalizing i with
  | nil => cases hx
  | cons y l ih =>
    rw [List.forall_mem_cons] at hw
    rw [List.flatMap_cons]
    cases i with
    | zero =>
      obtain rfl : y = x := Option.some.inj hx
      rw [Nat.mul_zero, Nat.zero_add, byteAt_append_left _ (by rw [hw.1]; exact hj)]
    | succ i =>
      have hstep : w * (i + 1) + j = (f y).length + (w * i + j) := by
        rw [hw.1, Nat.mul_succ]
        omega
      rw [hstep, byteAt_append_right]
      exact ih hw.2 hx

/-- The record at a place, in a record that has other parts before and after the list. -/
theorem byteAt_entry {l : List α} (hw : ∀ x ∈ l, (f x).length = w) {front back : List Byte} {p : Nat}
    (hp : front.length = p) {i : Nat} {x : α} (hx : l[i]? = some x) {j : Nat} (hj : j < w) :
    byteAt (front ++ (l.flatMap f ++ back)) (p + w * i + j) = byteAt (f x) j := by
  have hin : w * i + j < (l.flatMap f).length := by
    rw [length_flatMap_of_width hw]
    have hplace : i + 1 ≤ l.length := (List.getElem?_eq_some_iff.mp hx).1
    have hroom : w * (i + 1) ≤ w * l.length := Nat.mul_le_mul_left w hplace
    rw [Nat.mul_succ] at hroom
    omega
  rw [Nat.add_assoc, ← hp, byteAt_append_right, byteAt_append_left _ hin, byteAt_flatMap hw hx hj]

theorem wordAt_entry {l : List α} (hw : ∀ x ∈ l, (f x).length = w) {front back : List Byte} {p : Nat}
    (hp : front.length = p) {i : Nat} {x : α} (hx : l[i]? = some x) {j : Nat} (hj : j + 1 < w) :
    wordAt (front ++ (l.flatMap f ++ back)) (p + w * i + j) = wordAt (f x) j := by
  rw [wordAt, wordAt, byteAt_entry hw hp hx (Nat.lt_of_succ_lt hj), Nat.add_assoc (p + w * i),
    byteAt_entry hw hp hx hj]

end

theorem numbered_length {α : Type} (n : Nat) (l : List α) : (numbered n l).length = l.length := by
  induction l generalizing n with
  | nil => rfl
  | cons x l ih => rw [numbered, List.length_cons, ih, List.length_cons]

theorem numbered_getElem? {α : Type} (n : Nat) {l : List α} {i : Nat} {x : α} (h : l[i]? = some x) :
    (numbered n l)[i]? = some (n + i, x) := by
  induction l generalizing n i with
  | nil => cases h
  | cons y l ih =>
    cases i with
    | zero =>
      obtain rfl : y = x := Option.some.inj h
      rfl
    | succ i =>
      rw [numbered, List.getElem?_cons_succ, ih (n + 1) h, Nat.add_assoc, Nat.add_comm 1 i]

/-! ### The frame of a reply (R187) -/

theorem byteSum_concat (l : List Byte) (b : Byte) : byteSum (l ++ [b]) = byteSum l + b.toNat := by
  simp [byteSum]

theorem replyFrame_sum (code : Byte) (record : List Byte) : byteSum (replyFrame code record) % 256 = 0 := by
  unfold replyFrame
  dsimp only
  rw [byteSum_concat, checksum, byteOf_toNat_mod]
  omega

theorem replyFrame_dropLast (code : Byte) (record : List Byte) :
    (replyFrame code record).dropLast = [0xA5, code, byteOf record.length] ++ record := List.dropLast_concat

end Sys2Proof.Machine

/-! # The panel records, offset by offset (O49) -/

namespace Sys2Proof.Machine

/-! ### NEIGHBOURS -/

theorem Neighbour.bytes_length (n : Neighbour) : n.bytes.length = 11 := rfl

/-- NEIGHBOURS before its list. -/
def neighboursHeader (s : State) : List Byte :=
  [byteOf s.table.records.length] ++ be32 s.table.ballast ++ be32 s.table.capacity ++
    [byteOf (bit s.table.shedding), byteOf ((s.table.anchorRecord.map Neighbour.station).getD 0)] ++
    be16 (setPointField s.table.anchorSetPoint)

theorem neighboursRecord_eq (s : State) :
    neighboursRecord s = neighboursHeader s ++ (s.table.records.flatMap Neighbour.bytes ++ []) := by
  rw [List.append_nil]
  rfl

theorem neighboursRecord_length (s : State) : (neighboursRecord s).length = 13 + 11 * s.table.records.length := by
  rw [neighboursRecord_eq, List.append_nil, List.length_append,
    length_flatMap_of_width fun n _ => n.bytes_length]
  rfl

theorem neighbour_byteAt (s : State) {i : Nat} {n : Neighbour} (hn : s.table.records[i]? = some n) {j : Nat}
    (hj : j < 11) : byteAt (neighboursRecord s) (13 + 11 * i + j) = byteAt n.bytes j := by
  rw [neighboursRecord_eq]
  exact byteAt_entry (fun n _ => n.bytes_length) rfl hn hj

theorem neighbour_wordAt (s : State) {i : Nat} {n : Neighbour} (hn : s.table.records[i]? = some n) {j : Nat}
    (hj : j + 1 < 11) : wordAt (neighboursRecord s) (13 + 11 * i + j) = wordAt n.bytes j := by
  rw [neighboursRecord_eq]
  exact wordAt_entry (fun n _ => n.bytes_length) rfl hn hj

/-! ### CLAIMS -/

/-- An own claim as a row of fields, an absent one in its absent value. -/
def ownClaimRow (s : State) (nc : Nat × OwnClaim) : List Byte :=
  [byteOf nc.2.circuit.idx, byteOf (nc.2.amount / 256), byteOf nc.2.amount, byteOf nc.2.cls, byteOf nc.2.effective,
    byteOf nc.2.state.code, byteOf nc.1, byteOf (nc.2.state.holdoffLeft.getD 255), byteOf nc.2.retries,
    byteOf (nc.2.state.backoffLeft.getD 65535 / 256), byteOf (nc.2.state.backoffLeft.getD 65535),
    byteOf (nc.2.state.settleLeft.getD 65535 / 256), byteOf (nc.2.state.settleLeft.getD 65535),
    byteOf (bit nc.2.restore), byteOf ((if nc.2.isQueued then some (waitReason s nc.2) else none).getD 255)]

theorem ownClaimBytes_eq (s : State) : ownClaimBytes s = ownClaimRow s := by
  funext nc
  rw [ownClaimBytes, optByte_eq, opt16_eq, opt16_eq, optByte_eq]
  rfl

theorem ownClaimBytes_length (s : State) (nc : Nat × OwnClaim) : (ownClaimBytes s nc).length = 15 := by
  rw [ownClaimBytes_eq]
  rfl

theorem heardClaimBytes_length (nh : Nat × HeardEntry) : (heardClaimBytes nh).length = 8 := rfl

/-- CLAIMS before its lists. -/
def claimsHeader (s : State) : List Byte :=
  [byteOf s.adm.own.length] ++ be16 s.adm.commitment ++ be16 s.cfg.lc ++ [byteOf (bit s.adm.claimsPending)]

theorem claimsRecord_eq (s : State) :
    claimsRecord s =
      claimsHeader s ++ (numbered 1 s.adm.own).flatMap (ownClaimBytes s) ++
        ([byteOf s.adm.heard.length] ++ (numbered 1 s.adm.heard).flatMap heardClaimBytes) := by
  rw [← List.append_assoc]
  rfl

theorem ownClaims_length (s : State) :
    (claimsHeader s ++ (numbered 1 s.adm.own).flatMap (ownClaimBytes s)).length = 6 + 15 * s.adm.own.length := by
  rw [List.length_append, length_flatMap_of_width fun nc _ => ownClaimBytes_length s nc, numbered_length]
  rfl

theorem claimsRecord_length (s : State) :
    (claimsRecord s).length = 7 + 15 * s.adm.own.length + 8 * s.adm.heard.length := by
  rw [claimsRecord_eq, List.length_append, ownClaims_length, List.length_append,
    length_flatMap_of_width fun nh _ => heardClaimBytes_length nh, numbered_length, List.length_singleton]
  omega

section
variable (s : State) {i j : Nat}

theorem ownClaim_byteAt {c : OwnClaim} (hc : s.adm.own[i]? = some c) (hj : j < 15) :
    byteAt (claimsRecord s) (6 + 15 * i + j) = byteAt (ownClaimRow s (1 + i, c)) j := by
  rw [claimsRecord_eq, List.append_assoc, ← ownClaimBytes_eq]
  exact byteAt_entry (fun nc _ => ownClaimBytes_length s nc) rfl (numbered_getElem? 1 hc) hj

theorem ownClaim_wordAt {c : OwnClaim} (hc : s.adm.own[i]? = some c) (hj : j + 1 < 15) :
    wordAt (claimsRecord s) (6 + 15 * i + j) = wordAt (ownClaimRow s (1 + i, c)) j := by
  rw [claimsRecord_eq, List.append_assoc, ← ownClaimBytes_eq]
  exact wordAt_entry (fun nc _ => ownClaimBytes_length s nc) rfl (numbered_getElem? 1 hc) hj

theorem claimsRecord_eq_heard :
    claimsRecord s =
      (claimsHeader s ++ (numbered 1 s.adm.own).flatMap (ownClaimBytes s) ++ [byteOf s.adm.heard.length]) ++
        ((numbered 1 s.adm.heard).flatMap heardClaimBytes ++ []) := by
  rw [List.append_nil]
  rfl

theorem heardClaims_length :
    (claimsHeader s ++ (numbered 1 s.adm.own).flatMap (ownClaimBytes s) ++ [byteOf s.adm.heard.length]).length =
      7 + 15 * s.adm.own.length := by
  rw [List.length_append, ownClaims_length, List.length_singleton]
  omega

theorem heardClaim_byteAt {h : HeardEntry} (hh : s.adm.heard[i]? = some h) (hj : j < 8) :
    byteAt (claimsRecord s) (7 + 15 * s.adm.own.length + 8 * i + j) = byteAt (heardClaimBytes (1 + i, h)) j := by
  rw [claimsRecord_eq_heard]
  exact byteAt_entry (fun nh _ => heardClaimBytes_length nh) (heardClaims_length s) (numbered_getElem? 1 hh) hj

theorem heardClaim_wordAt {h : HeardEntry} (hh : s.adm.heard[i]? = some h) (hj : j + 1 < 8) :
    wordAt (claimsRecord s) (7 + 15 * s.adm.own.length + 8 * i + j) = wordAt (heardClaimBytes (1 + i, h)) j := by
  rw [claimsRecord_eq_heard]
  exact wordAt_entry (fun nh _ => heardClaimBytes_length nh) (heardClaims_length s) (numbered_getElem? 1 hh) hj

theorem waitReason_spelled (c : OwnClaim) :
    waitReason s c =
      if (s.adm.own.find? fun d => d.state == .queued).map OwnClaim.circuit ≠ some c.circuit then 0
      else if s.anyShedding then 1
      else if s.cfg.lc < s.adm.commitment + c.amount then 2
      else 3 :=
  if_congr bne_iff_ne rfl rfl

theorem waitReason_le (c : OwnClaim) : waitReason s c ≤ 3 := by
  rw [waitReason_spelled]
  (repeat' split) <;> decide

theorem waitReasonByte_eq (c : OwnClaim) :
    (byteOf ((if c.isQueued then some (waitReason s c) else none).getD 255)).toNat =
      if c.state = .queued then
        if (s.adm.own.find? fun d => d.state == .queued).map OwnClaim.circuit ≠ some c.circuit then 0
        else if s.anyShedding then 1
        else if s.cfg.lc < s.adm.commitment + c.amount then 2
        else 3
      else 255 := by
  have hqueued : c.isQueued = true ↔ c.state = .queued := beq_iff_eq
  by_cases h : c.state = .queued
  · rw [if_pos h, if_pos (hqueued.mpr h), ← waitReason_spelled, byteOf_toNat_mod]
    exact Nat.mod_eq_of_lt (Nat.lt_of_le_of_lt (waitReason_le s c) (by decide))
  · rw [if_neg h, if_neg fun hq => h (hqueued.mp hq)]
    rfl

end

/-! ### CIRCUITS -/

theorem demandTypeByte_toNat (cfg : Config) (k : Circ) :
    (demandTypeByte cfg k).toNat = if k = .c4 then 255 else bit (cfg.demandType.get k.idx == .edge) := by
  have hcode : ∀ d : DemandType, (byteOf (demandCode d)).toNat = bit (d == .edge) := fun d => by cases d <;> rfl
  cases k with
  | c4 => rfl
  | _ => exact hcode _

/-- An entry of the circuit table as a row of fields. -/
def circuitRow (s : State) (k : Circ) : List Byte :=
  [byteOf (s.rating k / 256), byteOf (s.rating k), byteOf (s.classOf k), demandTypeByte s.cfg k,
    byteOf (s.circuitState k).code, byteOf (bit (s.circ.table.get k).mark),
    byteOf ((s.circuitState k).pause.getD 65535 / 256), byteOf ((s.circuitState k).pause.getD 65535)]

theorem circuitBytes_eq (s : State) : circuitBytes s = circuitRow s := by
  funext k
  rw [circuitBytes, opt16_eq]
  rfl

theorem circuitBytes_length (s : State) (k : Circ) : (circuitBytes s k).length = 8 := by
  rw [circuitBytes_eq]
  rfl

/-- CIRCUITS between its entries and its rotation lists. -/
def circuitsSummary (s : State) : List Byte :=
  [byteOf s.circ.demandBits, byteOf s.circ.flagBits] ++ be16 s.circ.timer1 ++ be16 s.threshold1 ++
    be16 s.circ.timer2 ++ be16 s.threshold2 ++ be16 s.circ.restoreTimer ++ be16 s.restoreThreshold

/-- The rotation lists in the order of CIRCUITS. -/
def rotationLists (s : State) : List (List Circ) :=
  [s.circ.rotation.k0, s.circ.rotation.k1, s.circ.rotation.k2, s.circ.rotation.k3]

theorem circuitsRecord_eq (s : State) :
    circuitsRecord s =
      Circ.all.flatMap (circuitBytes s) ++ (circuitsSummary s ++ (rotationLists s).flatMap rotationBytes) := by
  simp only [circuitsRecord, circuitsSummary, rotationLists, List.flatMap_cons, List.flatMap_nil, List.append_nil,
    List.append_assoc]

theorem circuitEntries_length (s : State) : (Circ.all.flatMap (circuitBytes s)).length = 40 :=
  length_flatMap_of_width fun k _ => circuitBytes_length s k

section
variable (s : State) {i j : Nat}

theorem circ_all_getElem? (k : Circ) : Circ.all[k.idx]? = some k := by
  cases k <;> rfl

theorem circuit_byteAt (k : Circ) (hj : j < 8) :
    byteAt (circuitsRecord s) (8 * k.idx + j) = byteAt (circuitRow s k) j := by
  have hentry := byteAt_entry (front := []) (back := circuitsSummary s ++ (rotationLists s).flatMap rotationBytes)
    (fun k _ => circuitBytes_length s k) rfl (circ_all_getElem? k) hj
  rwa [List.nil_append, ← circuitsRecord_eq, List.length_nil, Nat.zero_add, circuitBytes_eq] at hentry

theorem circuit_wordAt (k : Circ) (hj : j + 1 < 8) :
    wordAt (circuitsRecord s) (8 * k.idx + j) = wordAt (circuitRow s k) j := by
  rw [wordAt, wordAt, circuit_byteAt s k (Nat.lt_of_succ_lt hj), Nat.add_assoc, circuit_byteAt s k hj]

theorem circuits_byteAt_summary (hj : j < 14) :
    byteAt (circuitsRecord s) (40 + j) = byteAt (circuitsSummary s) j := by
  rw [circuitsRecord_eq, ← circuitEntries_length s, byteAt_append_right]
  exact byteAt_append_left _ hj

theorem circuits_wordAt_summary (hj : j + 1 < 14) :
    wordAt (circuitsRecord s) (40 + j) = wordAt (circuitsSummary s) j := by
  rw [wordAt, wordAt, circuits_byteAt_summary s (Nat.lt_of_succ_lt hj), Nat.add_assoc, circuits_byteAt_summary s hj]

/-- A rotation list of five at most, padded to five bytes. -/
theorem rotationBytes_length {l : List Circ} (h : l.length ≤ 5) : (rotationBytes l).length = 5 := by
  rw [rotationBytes, List.length_append, List.length_map, List.length_replicate]
  omega

theorem byteAt_rotationBytes {l : List Circ} (h : l.length ≤ 5) (hi : i ≤ 4) :
    byteAt (rotationBytes l) i = (l[i]?.map Circ.idx).getD 255 := by
  cases hk : l[i]? with
  | some k =>
    have hlt : i < l.length := (List.getElem?_eq_some_iff.mp hk).1
    rw [rotationBytes, byteAt_append_left _ (by rwa [List.length_map]), byteAt, List.getD_eq_getElem?_getD,
      List.getElem?_map, hk]
    cases k <;> rfl
  | none =>
    have hge : l.length ≤ i := List.getElem?_eq_none_iff.mp hk
    have hplace : i = (l.map fun k => byteOf k.idx).length + (i - l.length) := by
      rw [List.length_map]
      omega
    have hpad : i - l.length < 5 - l.length := by omega
    rw [rotationBytes, hplace, byteAt_append_right, byteAt, List.getD_eq_getElem?_getD, List.getElem?_replicate,
      if_pos hpad]
    rfl

theorem rotationLists_bounded (h : ∀ cls, cls ≤ 3 → (s.circ.rotation.get cls).length ≤ 5) :
    ∀ l ∈ rotationLists s, (rotationBytes l).length = 5 := by
  intro l hl
  simp only [rotationLists, List.mem_cons, List.not_mem_nil, or_false] at hl
  obtain rfl | rfl | rfl | rfl := hl
  · exact rotationBytes_length (h 0 (by decide))
  · exact rotationBytes_length (h 1 (by decide))
  · exact rotationBytes_length (h 2 (by decide))
  · exact rotationBytes_length (h 3 (by decide))

theorem rotationLists_getElem? {cls : Nat} (hcls : cls ≤ 3) :
    (rotationLists s)[cls]? = some (s.circ.rotation.get cls) := by
  interval_cases cls <;> rfl

theorem circuitsRecord_length (h : ∀ cls, cls ≤ 3 → (s.circ.rotation.get cls).length ≤ 5) :
    (circuitsRecord s).length = 74 := by
  rw [circuitsRecord_eq, List.length_append, circuitEntries_length, List.length_append,
    length_flatMap_of_width (rotationLists_bounded s h)]
  rfl

theorem circuits_byteAt_rotation (h : ∀ cls, cls ≤ 3 → (s.circ.rotation.get cls).length ≤ 5) {cls : Nat}
    (hcls : cls ≤ 3) (hi : i ≤ 4) :
    byteAt (circuitsRecord s) (54 + 5 * cls + i) =
      ((s.circ.rotation.get cls)[i]?.map Circ.idx).getD 255 := by
  have hentry := byteAt_entry (front := Circ.all.flatMap (circuitBytes s) ++ circuitsSummary s) (back := [])
    (rotationLists_bounded s h) (p := 54) (by rw [List.length_append, circuitEntries_length]; rfl)
    (rotationLists_getElem? s hcls) (j := i) (by omega)
  rw [List.append_nil, List.append_assoc, ← circuitsRecord_eq] at hentry
  exact hentry.trans (byteAt_rotationBytes (h cls hcls) hi)

end

/-- Settles O49. -/
theorem panelRecordsAreLaidOut : Obligations.PanelRecordsAreLaidOut := by
  refine ⟨fun code record => ⟨replyFrame_sum code record, replyFrame_dropLast code record⟩, fun s => ?_⟩
  intro three four opt1 opt2 signed flags
  refine ⟨?summary, ?line, ?neighbours, ?claims, ?circuits, ?saw, ?counters⟩
  case summary =>
    intro r e
    simp only [r, summaryRecord, evaluationBytes, opt16_eq, optByte_eq, opt32_eq, be16, be32, List.cons_append,
      List.nil_append]
    refine ⟨rfl, ?_, flagBits_five _ _ _ _ _, word_of_bytes _, (word_of_bytes _).trans (getD_mod _ _ _ (by decide)),
      byteOf_toNat_mod _, byteOf_bit _, ?_, byteOf_toNat_mod _, byteOf_toNat_mod _, byteOf_toNat_mod _, ?_,
      byteOf_toNat_mod _, word_of_bytes _, ?_, (byteOf_toNat_mod _).trans (getD_mod _ _ _ (by decide)),
      word_of_bytes _, byteOf_toNat_mod _, byteOf_toNat_mod _, flagBits_four _ _ _ _,
      (four_of_bytes _).trans (map_getD_mod _ _ (by decide)), (four_of_bytes _).trans (map_getD_mod _ _ (by decide)),
      (word_of_bytes _).trans ?_, (word_of_bytes _).trans (getD_mod _ _ _ (by decide))⟩
    · cases s.mc.mode <;> rfl
    · cases s.loader.status <;> rfl
    · cases s.tele.quality <;> rfl
    · cases s.gate.state <;> rfl
    · cases s.gate.evaluation.bind Evaluation.h with
      | none => rfl
      | some h => exact Nat.mod_eq_of_lt (Nat.lt_of_le_of_lt (Nat.min_le_left _ _) (by decide))
  case line =>
    intro r l g
    simp only [r, lineRecord, lineRecordBytes, governorBytes, opt16_eq, opt24_eq, optSigned_eq, be16, be24, be32,
      List.cons_append, List.nil_append]
    refine ⟨rfl, word_of_bytes _, ?_, (word_of_bytes _).trans (getD_mod _ _ _ (by decide)),
      (word_of_bytes _).trans (getD_mod _ _ _ (by decide)), word_of_bytes _,
      (three_of_bytes _).trans (getD_mod _ _ _ (by decide)), (word_of_bytes _).trans (getD_mod _ _ _ (by decide)), ?_,
      byteOf_toNat_mod _, byteOf_toNat_mod _, word_of_bytes _, word_of_bytes _,
      (word_of_bytes _).trans (signedField_mod _), three_of_bytes _, word_of_bytes _, word_of_bytes _, byteOf_bit _,
      word_of_bytes _, word_of_bytes _, four_of_bytes _, four_of_bytes _, word_of_bytes _, word_of_bytes _⟩
    · cases s.meter.record.cls <;> rfl
    · cases s.meter.record.lock <;> rfl
  case neighbours =>
    intro r set
    have hset : ∀ x : Option Nat, setPointField x % 65536 = set x := fun x => by cases x <;> rfl
    refine ⟨neighboursRecord_length s, byteOf_toNat_mod _, four_of_bytes _, four_of_bytes _, byteOf_bit _, ?_,
      (word_of_bytes _).trans (hset _), fun i n hn => ?_⟩
    · refine (byteOf_toNat_mod _).trans ?_
      cases s.table.anchorRecord <;> rfl
    · intro o
      refine ⟨(neighbour_byteAt s hn (j := 0) (by decide)).trans (byteOf_toNat_mod _),
        (neighbour_byteAt s hn (j := 1) (by decide)).trans (flagBits_seven _ _ _ _ _ _ _),
        (neighbour_wordAt s hn (j := 2) (by decide)).trans (word_of_bytes _),
        (neighbour_wordAt s hn (j := 4) (by decide)).trans (word_of_bytes _),
        (neighbour_wordAt s hn (j := 6) (by decide)).trans ((word_of_bytes _).trans (hset _)),
        (neighbour_wordAt s hn (j := 8) (by decide)).trans (word_of_bytes _),
        (neighbour_byteAt s hn (j := 10) (by decide)).trans ?_⟩
      change (byteOf n.condition.code).toNat = _
      cases n.condition <;> rfl
  case claims =>
    intro r own
    refine ⟨claimsRecord_length s, byteOf_toNat_mod _, word_of_bytes _, word_of_bytes _, byteOf_bit _, ?_,
      fun i c hc => ?_, fun i h hh => ?_⟩
    · have hcount := byteAt_append_right (claimsHeader s ++ (numbered 1 own).flatMap (ownClaimBytes s))
        ([byteOf s.adm.heard.length] ++ (numbered 1 s.adm.heard).flatMap heardClaimBytes) 0
      rw [ownClaims_length, ← claimsRecord_eq] at hcount
      exact hcount.trans (byteOf_toNat_mod _)
    · intro o
      refine ⟨(ownClaim_byteAt s hc (j := 0) (by decide)).trans ?_,
        (ownClaim_wordAt s hc (j := 1) (by decide)).trans (word_of_bytes _),
        (ownClaim_byteAt s hc (j := 3) (by decide)).trans (byteOf_toNat_mod _),
        (ownClaim_byteAt s hc (j := 4) (by decide)).trans (byteOf_toNat_mod _),
        (ownClaim_byteAt s hc (j := 5) (by decide)).trans ?_,
        (ownClaim_byteAt s hc (j := 6) (by decide)).trans ((byteOf_toNat_mod _).trans (by rw [Nat.add_comm])),
        (ownClaim_byteAt s hc (j := 7) (by decide)).trans
          ((byteOf_toNat_mod _).trans (getD_mod _ _ _ (by decide))),
        (ownClaim_byteAt s hc (j := 8) (by decide)).trans (byteOf_toNat_mod _),
        (ownClaim_wordAt s hc (j := 9) (by decide)).trans ((word_of_bytes _).trans (getD_mod _ _ _ (by decide))),
        (ownClaim_wordAt s hc (j := 11) (by decide)).trans ((word_of_bytes _).trans (getD_mod _ _ _ (by decide))),
        (ownClaim_byteAt s hc (j := 13) (by decide)).trans (byteOf_bit _),
        (ownClaim_byteAt s hc (j := 14) (by decide)).trans (waitReasonByte_eq s c)⟩
      · change (byteOf c.circuit.idx).toNat = _
        cases c.circuit <;> rfl
      · change (byteOf c.state.code).toNat = _
        cases c.state <;> rfl
    · intro o
      exact ⟨(heardClaim_byteAt s hh (j := 0) (by decide)).trans (byteOf_toNat_mod _),
        (heardClaim_byteAt s hh (j := 1) (by decide)).trans (byteOf_toNat_mod _),
        (heardClaim_wordAt s hh (j := 2) (by decide)).trans (word_of_bytes _),
        (heardClaim_byteAt s hh (j := 4) (by decide)).trans (byteOf_toNat_mod _),
        (heardClaim_wordAt s hh (j := 5) (by decide)).trans (word_of_bytes _),
        (heardClaim_byteAt s hh (j := 7) (by decide)).trans ((byteOf_toNat_mod _).trans (by rw [Nat.add_comm]))⟩
  case circuits =>
    intro r c
    refine ⟨fun k => ?_, (circuits_byteAt_summary s (j := 0) (by decide)).trans (flagBits_four _ _ _ _),
      (circuits_byteAt_summary s (j := 1) (by decide)).trans (flagBits_four _ _ _ _),
      (circuits_wordAt_summary s (j := 2) (by decide)).trans (word_of_bytes _),
      (circuits_wordAt_summary s (j := 4) (by decide)).trans (word_of_bytes _),
      (circuits_wordAt_summary s (j := 6) (by decide)).trans (word_of_bytes _),
      (circuits_wordAt_summary s (j := 8) (by decide)).trans (word_of_bytes _),
      (circuits_wordAt_summary s (j := 10) (by decide)).trans (word_of_bytes _),
      (circuits_wordAt_summary s (j := 12) (by decide)).trans (word_of_bytes _), fun hlists =>
        ⟨circuitsRecord_length s hlists, fun cls i hcls hi => ?_⟩⟩
    rotate_left
    · refine (circuits_byteAt_rotation s hlists hcls hi).trans ?_
      cases (s.circ.rotation.get cls)[i]? <;> rfl
    intro o
    refine ⟨(circuit_wordAt s k (j := 0) (by decide)).trans (word_of_bytes _),
      (circuit_byteAt s k (j := 2) (by decide)).trans (byteOf_toNat_mod _),
      (circuit_byteAt s k (j := 3) (by decide)).trans (demandTypeByte_toNat s.cfg k),
      (circuit_byteAt s k (j := 4) (by decide)).trans ?_,
      (circuit_byteAt s k (j := 5) (by decide)).trans (byteOf_bit _),
      (circuit_wordAt s k (j := 6) (by decide)).trans ((word_of_bytes _).trans (getD_mod _ _ _ (by decide)))⟩
    change (byteOf (s.circuitState k).code).toNat = _
    cases s.circuitState k <;> rfl
  case saw =>
    intro r w timer
    simp only [r, sawPanelRecord, opt16_eq, optByte_eq, beSigned, be16, List.cons_append, List.nil_append]
    refine ⟨rfl, ?_, ?_, word_of_bytes _, ?_, (word_of_bytes _).trans (getD_mod _ _ _ (by decide)),
      (word_of_bytes _).trans (getD_mod _ _ _ (by decide)), byteOf_toNat_mod _, byteOf_toNat_mod _,
      byteOf_toNat_mod _, flagBits_two _ _, (byteOf_toNat_mod _).trans (getD_mod _ _ _ (by decide)),
      (word_of_bytes _).trans (getD_mod _ _ _ (by decide)), flagBits_five _ _ _ _ _, flagBits_two _ _, ?_⟩
    · cases s.saw.state <;> rfl
    · cases s.saw.state with
      | fault code => cases code <;> rfl
      | _ => rfl
    · exact (word_of_bytes _).trans (signedField_mod (some s.saw.feed))
    · cases s.circuitState .c4 <;> rfl
  case counters =>
    refine ⟨length_flatMap_of_width (w := 2) fun n _ => rfl, fun i n hn => ?_⟩
    have hword := wordAt_entry (front := []) (back := []) (f := be16) (w := 2) (fun n _ => rfl) rfl hn (j := 0)
      (by decide)
    rw [List.nil_append, List.append_nil, List.length_nil, Nat.zero_add] at hword
    exact hword.trans (word_of_bytes n)

end Sys2Proof.Machine
